-- ==== Sys2Proof/Word.lean ====
section
/-! DEFINITION. The words, addresses and indexes of the bridge (spec/00 "Sizes and addresses", R178). -/

namespace Sys2Proof

/-- A TPL word: 8 bytes, bits 0 to 63 (R178). -/
abbrev Word := BitVec 64

/-- A downstream address, used by the devices: 48 bits. -/
abbrev DAddr := BitVec 48

/-- A host address, used toward the host: 50 bits. -/
abbrev HAddr := BitVec 50

/-- A tick value: 32 bits, arithmetic modulo 2^32 (R100). -/
abbrev Tick := BitVec 32

/-- One event counter: 32 bits, wrapping (R136). -/
abbrev Count := BitVec 32

/-- A source field of a packet header: 0..31 (R165). -/
abbrev Source := BitVec 5

/-- A tag field of a packet header: 0..127 (R165). -/
abbrev Tag := BitVec 7

/-- The index of a Transaction Table entry (R51). -/
abbrev EntryId := Fin 64

/-- The index of a window record (R1). -/
abbrev WinId := Fin 24

/-- The id of a requester (R64). -/
abbrev ReqId := Fin 16

/-- The number of a walk slot (R25). -/
abbrev WalkId := Fin 4

/-- The number of a fence slot (R112). -/
abbrev FenceId := Fin 4

/-- The number of a management slot (R151). -/
abbrev MgmtId := Fin 8

end Sys2Proof
end

