-- ==== Sys2Proof/Syntax.lean ====
section
/-! DEFINITION. The packets of the link and the commands of the bridge: one constructor of `Instr` per row
of spec/opcode_table.json. -/

namespace Sys2Proof

/-- The two link ports (spec/10). -/
inductive Port where
  | upstream
  | downstream
  deriving DecidableEq, Repr

/-- The two classes of TPL packet (R165). -/
inductive PktClass where
  | request
  | completion
  deriving DecidableEq, Repr

/-- A request as it stands on the link: its two header words and the words that follow them (R179).
Headers are kept whole, because a pass-through packet crosses exactly as received. -/
structure ReqPacket where
  h0 : Word
  h1 : Word
  body : List Word
  deriving DecidableEq, Repr

/-- A completion as it stands on the link: its header word and the words that follow it (R179). -/
structure CplPacket where
  h0 : Word
  body : List Word
  deriving DecidableEq, Repr

/-- The commands of the bridge: the happenings of spec/opcode_table.json. The rows of the time group
name the entry or slot whose timer has run out. The rows of the management group carry no operand:
each is the execution of the head of the management order, whose payload stands in its slot (R152). -/
inductive Instr where
  /-- POWER_ON (R177): a low pulse on RSTn; `aps` is what the straps read when it rises. -/
  | powerOn (aps : BitVec 3)
  /-- U_PORT_DOWN (R174). -/
  | uPortDown
  /-- U_PORT_UP (R174). -/
  | uPortUp
  /-- RESET_MESSAGE (R175). -/
  | resetMessage
  /-- D_PORT_DOWN (R176). -/
  | dPortDown
  /-- D_PORT_UP (R176). -/
  | dPortUp
  /-- HOLD_LINE_CHANGE (R167): the partner of `port` sets its hold line of class `cls`. -/
  | holdLineChange (port : Port) (cls : PktClass) (on : Bool)
  /-- DEVICE_REQUEST_ARRIVAL (R170). -/
  | deviceRequestArrival (p : ReqPacket)
  /-- DEVICE_COMPLETION_ARRIVAL (R170). -/
  | deviceCompletionArrival (p : CplPacket)
  /-- HOST_REQUEST_ARRIVAL (R169). -/
  | hostRequestArrival (p : ReqPacket)
  /-- HOST_COMPLETION_ARRIVAL (R169). -/
  | hostCompletionArrival (p : CplPacket)
  /-- INTAKE_TAKE_REQUEST (R43). -/
  | intakeTakeRequest
  /-- ISSUE_ARBITER_GRANT (R80). -/
  | issueArbiterGrant
  /-- ANSWER_ARBITER_GRANT (R171). -/
  | answerArbiterGrant
  /-- PASS_THROUGH_REFUSAL (R173). -/
  | passThroughRefusal
  /-- MANAGEMENT_DECODE (R148). -/
  | managementDecode
  /-- COMPLETION_MATCHING (R93). -/
  | completionMatching
  /-- TICK (R100). -/
  | tick
  /-- REQUEST_AGE_EXPIRY (R104) of entry `e`. -/
  | requestAgeExpiry (e : EntryId)
  /-- ENTRY_RELEASE (R89) of entry `e`. -/
  | entryRelease (e : EntryId)
  /-- ENTRY_RECLAIM (R108) of entry `e`. -/
  | entryReclaim (e : EntryId)
  /-- WALK_TIMEOUT (R38) of walk slot `k`. -/
  | walkTimeout (k : WalkId)
  /-- WALK_RELEASE (R36) of walk slot `k`. -/
  | walkRelease (k : WalkId)
  /-- WALK_RECLAIM (R39) of walk slot `k`. -/
  | walkReclaim (k : WalkId)
  /-- ALERT_TIMEOUT (R145). -/
  | alertTimeout
  /-- ALERT_RELEASE (R145). -/
  | alertRelease
  /-- ALERT_RECLAIM (R145). -/
  | alertReclaim
  /-- LOAD_WINDOW (R15). -/
  | loadWindow
  /-- RETIRE_WINDOW (R115). -/
  | retireWindow
  /-- INVALIDATE (R114). -/
  | invalidate
  /-- FENCE_COMMAND_RESUMPTION (R116). -/
  | fenceCommandResumption
  /-- CONFIGURE_REQUESTER (R67). -/
  | configureRequester
  /-- ENABLE_REQUESTER (R68). -/
  | enableRequester
  /-- RESUME_REQUESTER (R69). -/
  | resumeRequester
  /-- QUIESCE_REQUESTER (R70). -/
  | quiesceRequester
  /-- SET_TIMING (R103). -/
  | setTiming
  /-- SET_ARBITER (R158). -/
  | setArbiter
  /-- SET_ALERT (R139). -/
  | setAlert
  /-- ACK_ALERT (R140). -/
  | ackAlert
  /-- CLEAR_COUNTERS (R137). -/
  | clearCounters
  /-- CLEAR_FAULTS (R134). -/
  | clearFaults
  /-- MOVE_APERTURE (R150). -/
  | moveAperture
  /-- STATUS (R159). -/
  | status
  /-- WINDOW (R160). -/
  | window
  /-- REQUESTER (R75). -/
  | requester
  /-- COUNTERS (R136). -/
  | counters
  /-- FAULT (R133). -/
  | fault
  /-- TIME (R111). -/
  | time
  /-- FENCES (R129). -/
  | fences
  /-- CACHE_STORAGE_UPSET (R22) of the Map Cache entry for window `w` and page `page`. -/
  | cacheStorageUpset (w : WinId) (page : Nat)
  deriving DecidableEq, Repr

end Sys2Proof
end

