-- ==== Sys2Proof/Config.lean ====
section
/-! DEFINITION. The fixed numbers of the type 2416: capacities, limits and the power-on settings.
The spec leaves no result of a happening open, so there is no free value here. -/

namespace Sys2Proof.Config

/-- Capacity of each of the four ingress queues (R168, R169, R170). -/
abbrev ingressCapacity : Nat := 16

/-- Capacity of the refusal queue (R48). -/
abbrev refusalCapacity : Nat := 16

/-- Capacity of the down pass-through queue (R172). -/
abbrev downCapacity : Nat := 16

/-- Capacity of the reply-refusal queue (R154). -/
abbrev replyRefusalCapacity : Nat := 4

/-- Capacity of the fault queue (R132). -/
abbrev faultCapacity : Nat := 16

/-- The value at which the lost count stops (R132). -/
abbrev lostLimit : Nat := 255

/-- Capacity of the Map Cache (R20). -/
abbrev cacheCapacity : Nat := 48

/-- The number of walk slots (R25). -/
abbrev walkSlots : Nat := 4

/-- The value at which the answer arbiter's run count stops (R171). -/
abbrev runLimit : Nat := 8

/-- The longest backoff, in ticks (R36, R88, R144). -/
abbrev backoffLimit : Nat := 255

/-- The value at which the detail of an UPSTREAM_RESET record saturates (R62). -/
abbrev sweptLimit : Nat := 63

/-- The size of a page and of a frame: 16 KiB (R6). -/
abbrev pageBytes : Nat := 0x4000

/-- The size of the management aperture: 64 KiB (R147). -/
abbrev apertureBytes : Nat := 0x10000

/-- The aperture base for strap value 0 (R147). -/
abbrev apertureOrigin : Nat := 0x3F0000000000

/-- The strap value that `State.reset` takes as sampled. DESIGN CHOICE, unsafe: the spec leaves the
straps to the board (log entry 7); `Instr.powerOn` gives every value. -/
abbrev strapsAtReset : BitVec 3 := 0

end Sys2Proof.Config
end

