-- ==== Sys2Proof/Machine/State.lean ====
section
/-! DEFINITION. The state of the bridge: everything the spec gives its fourteen blocks, as plain data, and
its power-on values. -/

namespace Sys2Proof.Machine

/-! ## Names -/

/-- The two kinds of request (R165). -/
inductive Kind where
  | read
  | write
  deriving DecidableEq, Repr

/-- The statuses of a completion (R166). -/
inductive Status where
  | ok
  | retry
  | denied
  | unmapped
  | timeout
  | abort
  | malformed
  | error
  deriving DecidableEq, Repr

/-- The seventeen kinds of fault record (R131). -/
inductive FaultKind where
  | noWindow
  | rights
  | notPresent
  | mapCheck
  | mapFormat
  | walkFailed
  | cacheCheck
  | upstreamError
  | retryExhausted
  | timeout
  | lateCompletion
  | strayCompletion
  | reclaimed
  | duplicateTag
  | malformedRequest
  | alertFailed
  | upstreamReset
  deriving DecidableEq, Repr

/-- The states of a window record (R1). -/
inductive WinState where
  | free
  | valid
  | retiring
  deriving DecidableEq, Repr

/-- The two modes of translation (R1). -/
inductive WinMode where
  | mapped
  | direct
  deriving DecidableEq, Repr

/-- What a mismatch of the check byte does (R12). -/
inductive CheckMode where
  | off
  | report
  | enforce
  deriving DecidableEq, Repr

/-- The states of a walk slot and of the alert slot (R25, R142). -/
inductive SlotState where
  | free
  | queued
  | issued
  | retryWait
  | abandoned
  deriving DecidableEq, Repr

/-- The seven states of a transaction entry (R52). -/
inductive EntryState where
  | free
  | translating
  | queued
  | issued
  | retryWait
  | answering
  | abandoned
  deriving DecidableEq, Repr

/-- The states of a requester context (R64). -/
inductive CtxState where
  | off
  | active
  | stopped
  | draining
  deriving DecidableEq, Repr

/-- What retry exhaustion does (R92). -/
inductive ExhaustPolicy where
  | fail
  | fill
  deriving DecidableEq, Repr

/-- What a stopping fault does (R72). -/
inductive FaultPolicy where
  | continue_
  | stop
  deriving DecidableEq, Repr

/-- The states of a fence slot (R112). -/
inductive FenceState where
  | free
  | waiting
  deriving DecidableEq, Repr

/-- The two commands that run fences (R112). -/
inductive FenceCommand where
  | invalidate
  | retireWindow
  deriving DecidableEq, Repr

/-- The scope of a fence (R113). -/
inductive Scope where
  | all
  | window (w : WinId)
  | pages (w : WinId) (first count : Nat)
  deriving DecidableEq, Repr

/-- The states of a management slot (R151). -/
inductive MgmtState where
  | free
  | queued
  | running
  | replying
  deriving DecidableEq, Repr

/-- The commands and queries of the aperture map (R149, R183); a query carries its index. -/
inductive MgmtOp where
  | loadWindow
  | retireWindow
  | invalidate
  | configureRequester
  | enableRequester
  | resumeRequester
  | quiesceRequester
  | setTiming
  | setArbiter
  | setAlert
  | ackAlert
  | clearCounters
  | clearFaults
  | moveAperture
  | status
  | window (i : WinId)
  | requester (r : ReqId)
  | counters (g : Fin 18)
  | fault
  | time
  | fences
  deriving DecidableEq, Repr

/-- The results of a command (R155); OVERLAP carries the lowest conflicting index. -/
inductive Result where
  | done
  | badState
  | badArgument
  | overlap (w : WinId)
  deriving DecidableEq, Repr

/-- The Issue Arbiter's completion turn (R79). -/
inductive CplTurn where
  | management
  | passThrough
  deriving DecidableEq, Repr

/-- The answer arbiter's completion turn (R171). -/
inductive AnswerTurn where
  | answer
  | refusal
  deriving DecidableEq, Repr

/-- A member of the Issue Arbiter's own list (R83). -/
inductive OwnRequest where
  | walk (k : WalkId)
  | alert
  deriving DecidableEq, Repr

/-- A counter: a place in the translation group, the transaction group or a requester group (R136). -/
inductive Counter where
  | translation (i : Fin 7)
  | transaction (i : Fin 8)
  | requester (r : ReqId) (i : Fin 4)
  deriving DecidableEq, Repr

/-- What the check of a walk's word finds (R11 to R13). -/
inductive WordOutcome where
  | usable
  | notPresent
  | formatFailure
  | checkFailure
  deriving DecidableEq, Repr

/-- A packet being sent on a port. -/
inductive Packet where
  | request (p : ReqPacket)
  | completion (p : CplPacket)
  deriving DecidableEq, Repr

/-! ## Records -/

/-- A set of kinds: a window's rights, or the kinds a page-map entry permits (R1, R9). -/
structure Rights where
  read : Bool := false
  write : Bool := false
  deriving DecidableEq, Repr

/-- A window record (R1). `sizeExp` is n of the size 2^n. A record never loaded since power-on has
every field zero and no mode. -/
structure Window where
  state : WinState := .free
  reqSet : BitVec 16 := 0
  base : DAddr := 0
  sizeExp : Nat := 0
  mode : Option WinMode := none
  rights : Rights := {}
  mapRoot : HAddr := 0
  hostBase : HAddr := 0
  checkMode : CheckMode := .off
  deriving DecidableEq, Repr

/-- A Map Cache entry (R20). `upset` says that its internal check is bad (R22). -/
structure CacheEntry where
  window : WinId
  page : Nat
  frame : BitVec 36
  rights : Rights
  upset : Bool := false
  deriving DecidableEq, Repr

/-- A walk slot (R25). -/
structure WalkSlot where
  state : SlotState := .free
  window : WinId := 0
  page : Nat := 0
  mapAddr : HAddr := 0
  stale : Bool := false
  waiters : List EntryId := []
  startTick : Tick := 0
  retryCount : Nat := 0
  releaseTick : Option Tick := none
  abandonTick : Option Tick := none
  deriving DecidableEq, Repr

/-- An entry's decided answer (R51): its status, the data of a READ answered OK, the filled note. -/
structure Answer where
  status : Status
  data : List Word := []
  filled : Bool := false
  deriving DecidableEq, Repr

/-- A mark set: one flag for each fence slot (R51, R112). -/
abbrev Marks := Vector Bool 4

/-- The empty mark set. -/
abbrev noMarks : Marks := Vector.replicate 4 false

/-- A transaction entry (R51). The default values are those of a FREE entry, every field but its index
cleared. -/
structure Entry where
  state : EntryState := .free
  requester : ReqId := 0
  reqTag : Tag := 0
  kind : Kind := .read
  length : Nat := 0
  dAddr : DAddr := 0
  window : WinId := 0
  page : Nat := 0
  hostAddr : Option HAddr := none
  payload : List Word := []
  acceptTick : Tick := 0
  retryCount : Nat := 0
  releaseTick : Option Tick := none
  abandonTick : Option Tick := none
  marks : Marks := noMarks
  answer : Option Answer := none
  upstreamOpen : Bool := false
  deriving DecidableEq, Repr

/-- A completion without data that answers a request which is not carried out: a refusal of intake
(R47) or a reply refusal (R153). -/
structure Refused where
  source : Source
  tag : Tag
  status : Status
  deriving DecidableEq, Repr

/-- A requester context with its power-on values (R64). -/
structure Context where
  state : CtxState := .off
  limit : Nat := 8
  timeout : Nat := 4096
  retryLimit : Nat := 4
  backoffBase : Nat := 2
  exhaustion : ExhaustPolicy := .fail
  faultPolicy : FaultPolicy := .continue_
  outstanding : Nat := 0
  stopCause : Option FaultKind := none
  quiesce : Option MgmtId := none
  deriving DecidableEq, Repr

/-- The Timebase's five settings with their power-on values (R103). -/
structure Timing where
  periodCode : Nat := 2
  walkTimeout : Nat := 1024
  reclaimTime : Nat := 8192
  walkRetryLimit : Nat := 4
  walkBackoffBase : Nat := 2
  deriving DecidableEq, Repr

/-- A fence slot (R112). -/
structure Fence where
  state : FenceState := .free
  command : Option FenceCommand := none
  scope : Option Scope := none
  remaining : Nat := 0
  awaiting : Option MgmtId := none
  deriving DecidableEq, Repr

/-- A fault record (R130). -/
structure FaultRecord where
  kind : FaultKind
  tick : Tick := 0
  requester : Option ReqId := none
  reqTag : Option Tag := none
  window : Option WinId := none
  dAddr : Option DAddr := none
  hostAddr : Option HAddr := none
  detail : Nat := 0
  overflow : Bool := false
  deriving DecidableEq, Repr

/-- The alert slot (R142). -/
structure AlertSlot where
  state : SlotState := .free
  address : HAddr := 0
  payload : List Word := []
  startTick : Tick := 0
  retryCount : Nat := 0
  releaseTick : Option Tick := none
  abandonTick : Option Tick := none
  deriving DecidableEq, Repr

/-- A management slot (R151). Its place in the order of arrival is its place in
`State.mgmtOrder`. -/
structure MgmtSlot where
  state : MgmtState := .free
  source : Source := 0
  tag : Tag := 0
  op : Option MgmtOp := none
  payload : List Word := []
  reply : List Word := []
  deriving DecidableEq, Repr

/-! ## The state -/

/-- The whole bridge. INVENTORY.md, "State", names the rule behind each field. -/
structure State where
  /-- The commands that wait, first in first out (the model's own field, log entry 1). -/
  pending : List Instr
  /-- The U-port is UP (R174). -/
  uUp : Bool
  /-- The D-port is UP (R176). -/
  dUp : Bool
  /-- HOLD_REQ as received on the U-port (R167). -/
  uHoldReq : Bool
  /-- HOLD_CPL as received on the U-port (R167). -/
  uHoldCpl : Bool
  /-- HOLD_REQ as received on the D-port (R167). -/
  dHoldReq : Bool
  /-- HOLD_CPL as received on the D-port (R167). -/
  dHoldCpl : Bool
  /-- The U-port request ingress (R169). -/
  uReqIn : List ReqPacket
  /-- The U-port completion ingress (R169). -/
  uCplIn : List CplPacket
  /-- The D-port request ingress (R170). -/
  dReqIn : List ReqPacket
  /-- The D-port completion ingress (R170). -/
  dCplIn : List CplPacket
  /-- The packet being sent on the U-port (log entry 8). -/
  uTx : Option Packet
  /-- The packet being sent on the D-port (log entry 8). -/
  dTx : Option Packet
  /-- The refusal queue (R48). -/
  refusalQ : List Refused
  /-- The down pass-through queue (R172). -/
  downQ : List ReqPacket
  /-- How many requests at the head of `downQ` are to be refused (R172). -/
  refusalCount : Nat
  /-- The answer arbiter's completion turn (R171). -/
  answerTurn : AnswerTurn
  /-- The answer arbiter's run count (R171). -/
  runCount : Nat
  /-- The Window Table (R1). -/
  windows : Vector Window 24
  /-- The Map Cache in recency order, most recent first (R20). -/
  cache : List CacheEntry
  /-- The walk slots (R25). -/
  walks : Vector WalkSlot 4
  /-- The walk backlog (R28). -/
  backlog : List EntryId
  /-- The Transaction Table (R51). -/
  entries : Vector Entry 64
  /-- The issue queue (R53). -/
  issueQ : List EntryId
  /-- The answer queue (R55). -/
  answerQ : List EntryId
  /-- The Requester Table (R64). -/
  contexts : Vector Context 16
  /-- The Issue Arbiter's rotation counter (R79). -/
  rotation : Nat
  /-- The Issue Arbiter's guarantee N (R79). -/
  guarantee : Nat
  /-- The Issue Arbiter's completion turn (R79). -/
  cplTurn : CplTurn
  /-- The own list, oldest first (R83). -/
  ownList : List OwnRequest
  /-- The tick counter (R100). -/
  now : Tick
  /-- The timing settings as last written (R103). -/
  timing : Timing
  /-- The timing settings as the latest tick found them (R101, R103, log entry 6). -/
  tickTiming : Timing
  /-- The Transaction Table has still to take the latest tick (R102, log entry 4). -/
  tableDue : Bool
  /-- The Walk Unit has still to take the latest tick (R102, log entry 4). -/
  walkDue : Bool
  /-- The alert slot has still to take the latest tick (R102, log entry 4). -/
  alertDue : Bool
  /-- The fence slots (R112). -/
  fences : Vector Fence 4
  /-- The fault queue, oldest first (R132). -/
  faults : List FaultRecord
  /-- The lost count (R132). -/
  lost : Nat
  /-- The overflow-pending flag (R132). -/
  overflowPending : Bool
  /-- Counter group 0 (R136). -/
  translationCtrs : Vector Count 7
  /-- Counter group 1 (R136). -/
  transactionCtrs : Vector Count 8
  /-- Counter groups 2 to 17, one for each requester (R136). -/
  requesterCtrs : Vector (Vector Count 4) 16
  /-- The alert address (R139). -/
  alertAddress : HAddr
  /-- The alert is enabled (R139). -/
  alertEnabled : Bool
  /-- The alert is armed (R139). -/
  alertArmed : Bool
  /-- The alert slot (R142). -/
  alertSlot : AlertSlot
  /-- The aperture base (R147). -/
  apertureBase : HAddr
  /-- The management slots (R151). -/
  mgmt : Vector MgmtSlot 8
  /-- The management order: the QUEUED slots in order of taking (R152). -/
  mgmtOrder : List MgmtId
  /-- The head of the management order waits for a fence slot (R116, R152). -/
  headWaiting : Bool
  /-- The REPLYING slots in order of becoming REPLYING (R81, R157). -/
  replyOrder : List MgmtId
  /-- The reply-refusal queue (R154). -/
  replyRefusals : List Refused
  deriving DecidableEq, Repr

/-- Why the machine stops: never. No happening of the spec stops the bridge; its faults are records,
answers and refusals, which are effects on the state. -/
inductive Fault where
  deriving DecidableEq, Repr

/-- Why a command has no meaning. -/
inductive Refusal where
  /-- Raised by `exec` alone, for a command whose meaning has not been written. Safe: the machine stops
  where the hardware goes on. No arm of `exec` raises it. -/
  | notModelled (mnemonic : String)
  deriving DecidableEq, Repr

/-- The aperture base for a strap value (R147). -/
def strapBase (aps : BitVec 3) : HAddr :=
  BitVec.ofNat 50 (Config.apertureOrigin + aps.toNat * Config.apertureBytes)

/-- The bridge right after RSTn rises, with the straps reading `aps` (R19, R42, R63, R76, R79, R111,
R112, R135, R138, R146, R147, R163, R169 to R172, R174, R176, R177). -/
def State.powerOn (aps : BitVec 3) : State where
  pending := []
  uUp := false
  dUp := false
  uHoldReq := false
  uHoldCpl := false
  dHoldReq := false
  dHoldCpl := false
  uReqIn := []
  uCplIn := []
  dReqIn := []
  dCplIn := []
  uTx := none
  dTx := none
  refusalQ := []
  downQ := []
  refusalCount := 0
  answerTurn := .refusal
  runCount := 0
  windows := Vector.replicate 24 {}
  cache := []
  walks := Vector.replicate 4 {}
  backlog := []
  entries := Vector.replicate 64 {}
  issueQ := []
  answerQ := []
  contexts := Vector.replicate 16 {}
  rotation := 0
  guarantee := 2
  cplTurn := .management
  ownList := []
  now := 0
  timing := {}
  tickTiming := {}
  tableDue := false
  walkDue := false
  alertDue := false
  fences := Vector.replicate 4 {}
  faults := []
  lost := 0
  overflowPending := false
  translationCtrs := Vector.replicate 7 0
  transactionCtrs := Vector.replicate 8 0
  requesterCtrs := Vector.replicate 16 (Vector.replicate 4 0)
  alertAddress := 0
  alertEnabled := false
  alertArmed := true
  alertSlot := {}
  apertureBase := strapBase aps
  mgmt := Vector.replicate 8 {}
  mgmtOrder := []
  headWaiting := false
  replyOrder := []
  replyRefusals := []

/-- The bridge right after power-on, with the strap value of log entry 7. -/
def State.reset : State :=
  State.powerOn Config.strapsAtReset

end Sys2Proof.Machine
end

