-- ==== Sys2Proof/Machine/Operands.lean ====
section
/-! DEFINITION. The fields of packets, payloads, page-map entries and replies: every place spec/11 gives a
field, read here and written here and nowhere else. -/

namespace Sys2Proof.Machine

/-! ## Fields of a word (R178) -/

/-- The unsigned number in the `width` bits of `w` from bit `lo` (R178). -/
def field (w : Word) (lo width : Nat) : Nat :=
  (w.extractLsb' lo width).toNat

/-- The word with each number of the list at its place, every other bit 0 (R182). -/
def packWord (fields : List (Nat × Nat)) : Word :=
  fields.foldr (fun f w => (BitVec.ofNat 64 f.2 <<< f.1) ||| w) 0

/-- A flag as a number: 1 for set (R178). -/
def flag (b : Bool) : Nat :=
  if b then 1 else 0

/-- Word `i` of a payload; a missing word reads as 0. -/
def payloadWord (ws : List Word) (i : Nat) : Word :=
  ws.getD i 0

/-! ## Codes -/

/-- The status codes (R166). -/
def Status.code : Status → Nat
  | .ok => 0
  | .retry => 1
  | .denied => 2
  | .unmapped => 3
  | .timeout => 4
  | .abort => 5
  | .malformed => 6
  | .error => 7

/-- How a status code from the host is read: 0 OK, 1 RETRY, every other code ERROR (R93). -/
def hostStatus (code : Nat) : Status :=
  match code with
  | 0 => .ok
  | 1 => .retry
  | _ => .error

/-- The fault kind codes; 0 is the kind NONE (R131). -/
def FaultKind.code : FaultKind → Nat
  | .noWindow => 1
  | .rights => 2
  | .notPresent => 3
  | .mapCheck => 4
  | .mapFormat => 5
  | .walkFailed => 6
  | .cacheCheck => 7
  | .upstreamError => 8
  | .retryExhausted => 9
  | .timeout => 10
  | .lateCompletion => 11
  | .strayCompletion => 12
  | .reclaimed => 13
  | .duplicateTag => 14
  | .malformedRequest => 15
  | .alertFailed => 16
  | .upstreamReset => 17

/-- The window mode codes: 1 MAPPED, 2 DIRECT; 0 and 3 name neither (R181). -/
def modeOfCode (c : Nat) : Option WinMode :=
  match c with
  | 1 => some .mapped
  | 2 => some .direct
  | _ => none

/-- The code of a window's mode; a record never loaded reads 0 (R182, R160). -/
def modeCode : Option WinMode → Nat
  | none => 0
  | some .mapped => 1
  | some .direct => 2

/-- The rights codes: 1 READ, 2 WRITE, 3 both; 0 names neither (R181). -/
def rightsOfCode (c : Nat) : Rights :=
  { read := c.testBit 0, write := c.testBit 1 }

/-- The code of a set of rights (R182). -/
def rightsCode (r : Rights) : Nat :=
  flag r.read + 2 * flag r.write

/-- The check mode codes: 0 OFF, 1 REPORT, 2 ENFORCE; 3 names none (R181). -/
def checkModeOfCode (c : Nat) : Option CheckMode :=
  match c with
  | 0 => some .off
  | 1 => some .report
  | 2 => some .enforce
  | _ => none

/-- The code of a check mode (R182). -/
def checkModeCode : CheckMode → Nat
  | .off => 0
  | .report => 1
  | .enforce => 2

/-- The window state codes (R182). -/
def winStateCode : WinState → Nat
  | .free => 0
  | .valid => 1
  | .retiring => 2

/-- The exhaustion policy codes: 1 FAIL, 2 FILL; 0 and 3 name neither (R181). -/
def exhaustOfCode (c : Nat) : Option ExhaustPolicy :=
  match c with
  | 1 => some .fail
  | 2 => some .fill
  | _ => none

/-- The code of an exhaustion policy; also the detail of a RETRY_EXHAUSTED record (R181, R131). -/
def exhaustCode : ExhaustPolicy → Nat
  | .fail => 1
  | .fill => 2

/-- The fault policy codes: 1 CONTINUE, 2 STOP; 0 and 3 name neither (R181). -/
def faultPolicyOfCode (c : Nat) : Option FaultPolicy :=
  match c with
  | 1 => some .continue_
  | 2 => some .stop
  | _ => none

/-- The code of a fault policy (R181). -/
def faultPolicyCode : FaultPolicy → Nat
  | .continue_ => 1
  | .stop => 2

/-- The requester state codes (R182). -/
def ctxStateCode : CtxState → Nat
  | .off => 0
  | .active => 1
  | .stopped => 2
  | .draining => 3

/-- The alert slot state codes (R182). -/
def slotStateCode : SlotState → Nat
  | .free => 0
  | .queued => 1
  | .issued => 2
  | .retryWait => 3
  | .abandoned => 4

/-- The enable codes of SET_ALERT: 0 no, 1 yes; 2 and 3 name neither (R181). -/
def enableOfCode (c : Nat) : Option Bool :=
  match c with
  | 0 => some false
  | 1 => some true
  | _ => none

/-- The detail of a TIMEOUT record: the state at expiry (R104). -/
def expiryDetail : EntryState → Nat
  | .translating => 1
  | .queued => 2
  | .issued => 3
  | .retryWait => 4
  | .free => 0
  | .answering => 0
  | .abandoned => 0

/-! ## Packet headers (R179) -/

/-- The source field of header word 0 (R179). -/
def headerSource (h0 : Word) : Source :=
  h0.extractLsb' 8 5

/-- The tag field of header word 0 (R179). -/
def headerTag (h0 : Word) : Tag :=
  h0.extractLsb' 16 7

/-- The length field of header word 0, as sent (R179). -/
def headerLength (h0 : Word) : Nat :=
  field h0 24 7

/-- The status code of a completion's header (R179). -/
def headerStatus (h0 : Word) : Nat :=
  field h0 32 3

/-- The kind of a request (R179). -/
def requestKind (p : ReqPacket) : Kind :=
  if p.h0.getLsbD 0 then .write else .read

/-- The whole 50-bit address field of a request (R179). -/
def requestAddress (p : ReqPacket) : HAddr :=
  p.h1.extractLsb' 0 50

/-- A request header and body as the bridge builds them: class 0, reserved bits 0 (R179). -/
def buildRequest (kind : Kind) (source : Source) (tag : Tag) (length : Nat) (addr : HAddr)
    (body : List Word) : ReqPacket where
  h0 := packWord [(0, if kind = .write then 1 else 0), (8, source.toNat), (16, tag.toNat), (24, length)]
  h1 := packWord [(0, addr.toNat)]
  body := body

/-- A completion as the bridge builds it: class 1, as many words as its length, reserved bits 0
(R179, R166). -/
def buildCompletion (source : Source) (tag : Tag) (status : Status) (body : List Word) : CplPacket where
  h0 := packWord [(1, 1), (8, source.toNat), (16, tag.toNat), (24, body.length), (32, status.code)]
  body := body

/-- The source the bridge's own and forwarded requests carry upstream: 31 (R165). -/
def bridgeSource : Source :=
  31

/-- The upstream tag of a transaction entry: its index (R51, R86). -/
def entryTag (i : EntryId) : Tag :=
  BitVec.ofNat 7 i.val

/-- The upstream tag of a walk slot: 64 + its number (R25). -/
def walkTag (k : WalkId) : Tag :=
  BitVec.ofNat 7 (64 + k.val)

/-- The upstream tag of the alert slot: 68 (R142). -/
def alertTag : Tag :=
  68

/-- The requester a device request's source names; only sources below 16 name one (R45). -/
def sourceReq (src : Source) : Option ReqId :=
  if h : src.toNat < 16 then some ⟨src.toNat, h⟩ else none

/-! ## Page-map entries (R9, R10, R180) -/

/-- Byte `i` of a word (R178). -/
def wordByte (w : Word) (i : Nat) : BitVec 8 :=
  w.extractLsb' (8 * i) 8

/-- The correct check byte of a page-map entry: the exclusive-or of bytes 0..6 with 0xA5 (R10). -/
def correctCheckByte (w : Word) : BitVec 8 :=
  wordByte w 0 ^^^ wordByte w 1 ^^^ wordByte w 2 ^^^ wordByte w 3 ^^^ wordByte w 4 ^^^ wordByte w 5
    ^^^ wordByte w 6 ^^^ 0xA5

/-- The check byte matches: byte 7 is the correct one (R10, R180). -/
def checkByteMatches (w : Word) : Bool :=
  wordByte w 7 == correctCheckByte w

/-- Bits 3..13 and 50..55 are zero (R180). -/
def reservedClear (w : Word) : Bool :=
  w.extractLsb' 3 11 == 0 && w.extractLsb' 50 6 == 0

/-- The present field: bit 0 (R180). -/
def mapPresent (w : Word) : Bool :=
  w.getLsbD 0

/-- The kinds the entry permits: bits 1 and 2 (R180). -/
def mapRights (w : Word) : Rights :=
  { read := w.getLsbD 1, write := w.getLsbD 2 }

/-- The frame: bits 14..49 (R180). -/
def mapFrame (w : Word) : BitVec 36 :=
  w.extractLsb' 14 36

/-! ## The aperture map (R149, R183) -/

/-- One row of the aperture map: offset, kind, words, name. -/
structure ApertureRow where
  offset : Nat
  kind : Kind
  words : Nat
  op : MgmtOp
  deriving DecidableEq, Repr

/-- The words of COUNTERS(g): 7 for g = 0, 8 for g = 1, 4 for g = 2..17 (R149). -/
def counterWords (g : Fin 18) : Nat :=
  if g.val = 0 then 7 else if g.val = 1 then 8 else 4

/-- The commands of the aperture map (R183). -/
def apertureCommands : List ApertureRow :=
  [ ⟨0x0000, .write, 4, .loadWindow⟩,
    ⟨0x0040, .write, 1, .retireWindow⟩,
    ⟨0x0080, .write, 2, .invalidate⟩,
    ⟨0x00C0, .write, 2, .configureRequester⟩,
    ⟨0x0100, .write, 1, .enableRequester⟩,
    ⟨0x0140, .write, 1, .resumeRequester⟩,
    ⟨0x0180, .write, 1, .quiesceRequester⟩,
    ⟨0x01C0, .write, 2, .setTiming⟩,
    ⟨0x0200, .write, 1, .setArbiter⟩,
    ⟨0x0240, .write, 2, .setAlert⟩,
    ⟨0x0280, .write, 1, .ackAlert⟩,
    ⟨0x02C0, .write, 1, .clearCounters⟩,
    ⟨0x0300, .write, 1, .clearFaults⟩,
    ⟨0x0340, .write, 1, .moveAperture⟩ ]

/-- The queries of the aperture map that carry no index (R183). -/
def apertureQueries : List ApertureRow :=
  [ ⟨0x1000, .read, 4, .status⟩,
    ⟨0x5000, .read, 4, .fault⟩,
    ⟨0x5040, .read, 1, .time⟩,
    ⟨0x5080, .read, 1, .fences⟩ ]

/-- The whole aperture map (R183). -/
def apertureMap : List ApertureRow :=
  apertureCommands ++ apertureQueries
    ++ (List.finRange 24).map (fun i => ⟨0x2000 + i.val * 0x40, .read, 4, .window i⟩)
    ++ (List.finRange 16).map (fun r => ⟨0x3000 + r.val * 0x40, .read, 2, .requester r⟩)
    ++ (List.finRange 18).map (fun g => ⟨0x4000 + g.val * 0x80, .read, counterWords g, .counters g⟩)

/-- The command or query that a request at `offset` names exactly: the offset, the kind and the length
are those of one row, and a WRITE carries exactly its length in words (R149). -/
def namedOp (offset : Nat) (p : ReqPacket) : Option MgmtOp :=
  if requestKind p = .write ∧ p.body.length ≠ headerLength p.h0 then none
  else
    (apertureMap.find? fun row =>
      decide (row.offset = offset) && decide (row.kind = requestKind p)
        && decide (row.words = headerLength p.h0)).map ApertureRow.op

/-! ## Command payloads (R181) -/

/-- The fields of LOAD_WINDOW's payload (R181). -/
structure LoadFields where
  index : Nat
  sizeExp : Nat
  mode : Option WinMode
  rights : Rights
  checkMode : Option CheckMode
  reqSet : BitVec 16
  base : DAddr
  mapRoot : HAddr
  hostBase : HAddr
  deriving DecidableEq, Repr

/-- LOAD_WINDOW's four words (R181). -/
def loadFields (ws : List Word) : LoadFields where
  index := field (payloadWord ws 0) 0 5
  sizeExp := field (payloadWord ws 0) 8 6
  mode := modeOfCode (field (payloadWord ws 0) 16 2)
  rights := rightsOfCode (field (payloadWord ws 0) 20 2)
  checkMode := checkModeOfCode (field (payloadWord ws 0) 24 2)
  reqSet := (payloadWord ws 0).extractLsb' 32 16
  base := (payloadWord ws 1).extractLsb' 0 48
  mapRoot := (payloadWord ws 2).extractLsb' 0 50
  hostBase := (payloadWord ws 3).extractLsb' 0 50

/-- The fields of CONFIGURE_REQUESTER's payload (R181). -/
structure ConfigureFields where
  requester : Nat
  limit : Nat
  retryLimit : Nat
  backoffBase : Nat
  exhaustion : Option ExhaustPolicy
  faultPolicy : Option FaultPolicy
  timeout : Nat
  deriving DecidableEq, Repr

/-- CONFIGURE_REQUESTER's two words (R181). -/
def configureFields (ws : List Word) : ConfigureFields where
  requester := field (payloadWord ws 0) 0 5
  limit := field (payloadWord ws 0) 8 6
  retryLimit := field (payloadWord ws 0) 16 5
  backoffBase := field (payloadWord ws 0) 24 5
  exhaustion := exhaustOfCode (field (payloadWord ws 0) 32 2)
  faultPolicy := faultPolicyOfCode (field (payloadWord ws 0) 36 2)
  timeout := field (payloadWord ws 1) 0 16

/-- SET_TIMING's two words, as settings (R181). -/
def timingFields (ws : List Word) : Timing where
  periodCode := field (payloadWord ws 0) 0 3
  walkRetryLimit := field (payloadWord ws 0) 8 5
  walkBackoffBase := field (payloadWord ws 0) 16 5
  walkTimeout := field (payloadWord ws 0) 32 16
  reclaimTime := field (payloadWord ws 1) 0 16

/-- The index field of RETIRE_WINDOW and the requester id field of ENABLE_REQUESTER,
RESUME_REQUESTER and QUIESCE_REQUESTER: bits 0..4 (R181). -/
def indexField (ws : List Word) : Nat :=
  field (payloadWord ws 0) 0 5

/-- A number as an index of a table of `n`, when it names one. -/
def asFin (n x : Nat) : Option (Fin n) :=
  if h : x < n then some ⟨x, h⟩ else none

/-! ## Replies (R182) -/

/-- The result word of a command: code in bits 0..7, detail in bits 8..15 (R155, R182). -/
def resultWord : Result → Word
  | .done => packWord [(0, 0)]
  | .badState => packWord [(0, 1)]
  | .badArgument => packWord [(0, 2)]
  | .overlap w => packWord [(0, 3), (8, w.val)]

/-- The four words of WINDOW(i) (R160, R182). -/
def windowWords (i : WinId) (w : Window) : List Word :=
  [ packWord [(0, i.val), (8, w.sizeExp), (16, modeCode w.mode), (20, rightsCode w.rights),
      (24, checkModeCode w.checkMode), (28, winStateCode w.state), (32, w.reqSet.toNat)],
    packWord [(0, w.base.toNat)],
    packWord [(0, w.mapRoot.toNat)],
    packWord [(0, w.hostBase.toNat)] ]

/-- The two words of REQUESTER(r) (R75, R182). -/
def requesterWords (r : ReqId) (c : Context) : List Word :=
  [ packWord [(0, r.val), (8, c.limit), (16, c.retryLimit), (24, c.backoffBase),
      (32, exhaustCode c.exhaustion), (36, faultPolicyCode c.faultPolicy), (40, ctxStateCode c.state),
      (48, c.outstanding), (56, (c.stopCause.map FaultKind.code).getD 0), (62, flag c.quiesce.isSome)],
    packWord [(0, c.timeout)] ]

/-- The sixteen bits of one fence slot in the FENCES word; all 0 for a FREE slot (R129, R182). -/
def fenceBits (f : Fence) : Nat :=
  match f.state with
  | .free => 0
  | .waiting => 1 + 2 * flag (decide (f.command = some .retireWindow)) + 256 * f.remaining

/-- The FENCES word (R129, R182). -/
def fencesWord (fs : Vector Fence 4) : Word :=
  packWord ((List.finRange 4).map fun k => (16 * k.val, fenceBits fs[k]))

/-- The four words in which FAULT returns a record (R182). -/
def recordWords (r : FaultRecord) : List Word :=
  [ packWord [(0, r.kind.code), (8, r.detail), (15, flag r.overflow),
      (16, (r.requester.map Fin.val).getD 0), (24, (r.reqTag.map BitVec.toNat).getD 0),
      (32, (r.window.map Fin.val).getD 0), (40, flag r.requester.isSome), (41, flag r.reqTag.isSome),
      (42, flag r.window.isSome), (43, flag r.dAddr.isSome), (44, flag r.hostAddr.isSome)],
    packWord [(0, r.tick.toNat)],
    packWord [(0, (r.dAddr.map BitVec.toNat).getD 0)],
    packWord [(0, (r.hostAddr.map BitVec.toNat).getD 0)] ]

/-- The alert payload: queue depth and lost count in word 0, trigger tick in word 1 (R182). -/
def alertWords (depth lost : Nat) (tick : Tick) : List Word :=
  [ packWord [(0, depth), (8, lost)], packWord [(0, tick.toNat)] ]

end Sys2Proof.Machine
end

