-- ==== Sys2Proof/Machine/Flags.lean ====
section
/-! DEFINITION. Conditions read from the state: the hold lines the bridge raises, ages and timers, the alert
trigger, rights, the checks on a device request. -/

namespace Sys2Proof.Machine

/-! ## Counters by name (R136) -/

/-- CACHE_HITS (R136). -/
abbrev cacheHits : Counter := .translation 0
/-- CACHE_MISSES (R136). -/
abbrev cacheMisses : Counter := .translation 1
/-- WALKS_ISSUED (R136). -/
abbrev walksIssued : Counter := .translation 2
/-- WALK_RETRIES (R136). -/
abbrev walkRetries : Counter := .translation 3
/-- WALK_FAILURES (R136). -/
abbrev walkFailures : Counter := .translation 4
/-- CACHE_CHECK_ERRORS (R136). -/
abbrev cacheCheckErrors : Counter := .translation 5
/-- MAP_CHECK_MISMATCHES (R136). -/
abbrev mapCheckMismatches : Counter := .translation 6
/-- FORWARDED (R136). -/
abbrev forwarded : Counter := .transaction 0
/-- RETRIES_RECEIVED (R136). -/
abbrev retriesReceived : Counter := .transaction 1
/-- TIMEOUTS (R136). -/
abbrev timeouts : Counter := .transaction 2
/-- LATE_COMPLETIONS (R136). -/
abbrev lateCompletions : Counter := .transaction 3
/-- STRAY_COMPLETIONS (R136). -/
abbrev strayCompletions : Counter := .transaction 4
/-- RECLAIMS (R136). -/
abbrev reclaims : Counter := .transaction 5
/-- UPSTREAM_ERRORS (R136). -/
abbrev upstreamErrors : Counter := .transaction 6
/-- INTAKE_REFUSALS (R136). -/
abbrev intakeRefusals : Counter := .transaction 7
/-- ACCEPTED of a requester (R136). -/
abbrev accepted (r : ReqId) : Counter := .requester r 0
/-- REFUSED of a requester (R136). -/
abbrev refused (r : ReqId) : Counter := .requester r 1
/-- FAULTED of a requester (R136). -/
abbrev faulted (r : ReqId) : Counter := .requester r 2
/-- COMPLETED of a requester (R136). -/
abbrev completed (r : ReqId) : Counter := .requester r 3

/-- The value of a counter (R136). -/
def State.counter (s : State) : Counter → Count
  | .translation i => s.translationCtrs[i]
  | .transaction i => s.transactionCtrs[i]
  | .requester r i => (s.requesterCtrs[r])[i]

/-! ## Hold lines the bridge raises (R168) -/

/-- The bridge raises its hold line of class `cls` toward the partner of `port` while that port is UP and
its ingress of that class holds 16 (R168). -/
def holdRaised (port : Port) (cls : PktClass) (s : State) : Bool :=
  match port, cls with
  | .upstream, .request => s.uUp && decide (Config.ingressCapacity ≤ s.uReqIn.length)
  | .upstream, .completion => s.uUp && decide (Config.ingressCapacity ≤ s.uCplIn.length)
  | .downstream, .request => s.dUp && decide (Config.ingressCapacity ≤ s.dReqIn.length)
  | .downstream, .completion => s.dUp && decide (Config.ingressCapacity ≤ s.dCplIn.length)

/-! ## Rights (R5) -/

/-- A set of rights holds a kind. -/
def Rights.permits (r : Rights) : Kind → Bool
  | .read => r.read
  | .write => r.write

/-- The kinds that are in both sets: effective rights (R5). -/
def Rights.meet (a b : Rights) : Rights :=
  { read := a.read && b.read, write := a.write && b.write }

/-- The set holds no kind (R15). -/
def Rights.isEmpty (r : Rights) : Bool :=
  !r.read && !r.write

/-! ## Entry states -/

/-- The states in which an entry ages and can be answered: TRANSLATING, QUEUED, ISSUED, RETRY_WAIT
(R52, R54, R104). -/
def EntryState.inFlight : EntryState → Bool
  | .translating => true
  | .queued => true
  | .issued => true
  | .retryWait => true
  | .free => false
  | .answering => false
  | .abandoned => false

/-- The states that the outstanding count counts: those in flight, and ANSWERING (R66). -/
def EntryState.counted (e : EntryState) : Bool :=
  e.inFlight || decide (e = .answering)

/-- The states in which an entry holds a translation a fence must follow: QUEUED, ISSUED, RETRY_WAIT,
ABANDONED (R118). -/
def EntryState.markable : EntryState → Bool
  | .queued => true
  | .issued => true
  | .retryWait => true
  | .abandoned => true
  | .free => false
  | .translating => false
  | .answering => false

/-! ## Ages and timers (R100, R102) -/

/-- The age of a thing timed from `t`: (now - t) mod 2^32 (R100). -/
def tickAge (now t : Tick) : Nat :=
  (now - t).toNat

/-- The backoff after the `c`-th RETRY with base `b`: min(b * 2^(c - 1), 255) (R36, R88, R144). -/
def backoff (b c : Nat) : Nat :=
  min (b * 2 ^ (c - 1)) Config.backoffLimit

/-- The entry's request age has reached its requester's timeout (R104). -/
def ageReached (s : State) (i : EntryId) : Bool :=
  decide ((s.contexts[(s.entries[i]).requester]).timeout ≤ tickAge s.now (s.entries[i]).acceptTick)

/-- The entry expires at this tick (R104). -/
def entryExpires (s : State) (i : EntryId) : Bool :=
  (s.entries[i]).state.inFlight && ageReached s i

/-- The entry's release tick has come (R89). -/
def entryReleases (s : State) (i : EntryId) : Bool :=
  decide ((s.entries[i]).state = .retryWait) && decide ((s.entries[i]).releaseTick = some s.now)

/-- (now - abandon tick) mod 2^32 has reached the reclaim time (R108, R39, R145). -/
def reclaimReached (s : State) (abandonTick : Option Tick) : Bool :=
  match abandonTick with
  | none => false
  | some t => decide (s.tickTiming.reclaimTime ≤ tickAge s.now t)

/-- The entry's reclaim time has run out (R108). -/
def entryReclaims (s : State) (i : EntryId) : Bool :=
  decide ((s.entries[i]).state = .abandoned) && reclaimReached s (s.entries[i]).abandonTick

/-- QUEUED, ISSUED or RETRY_WAIT: a walk under way, or an alert write under way (R25, R38, R145). -/
def SlotState.underWay : SlotState → Bool
  | .queued => true
  | .issued => true
  | .retryWait => true
  | .free => false
  | .abandoned => false

/-- The walk slot times out at this tick (R38). -/
def walkTimesOut (s : State) (k : WalkId) : Bool :=
  (s.walks[k]).state.underWay
    && decide (s.tickTiming.walkTimeout ≤ tickAge s.now (s.walks[k]).startTick)

/-- The walk slot's release tick has come (R36). -/
def walkReleases (s : State) (k : WalkId) : Bool :=
  decide ((s.walks[k]).state = .retryWait) && decide ((s.walks[k]).releaseTick = some s.now)

/-- The walk slot's reclaim time has run out (R39). -/
def walkReclaims (s : State) (k : WalkId) : Bool :=
  decide ((s.walks[k]).state = .abandoned) && reclaimReached s (s.walks[k]).abandonTick

/-- The alert slot times out at this tick (R145). -/
def alertTimesOut (s : State) : Bool :=
  s.alertSlot.state.underWay
    && decide (s.tickTiming.walkTimeout ≤ tickAge s.now s.alertSlot.startTick)

/-- The alert slot's release tick has come (R144, R145). -/
def alertReleases (s : State) : Bool :=
  decide (s.alertSlot.state = .retryWait) && decide (s.alertSlot.releaseTick = some s.now)

/-- The alert slot's reclaim time has run out (R145). -/
def alertReclaims (s : State) : Bool :=
  decide (s.alertSlot.state = .abandoned) && reclaimReached s s.alertSlot.abandonTick

/-! ## The alert trigger (R141) -/

/-- The five conditions of the alert trigger (R141). -/
def triggerHolds (s : State) : Bool :=
  s.alertEnabled && s.alertArmed && !s.faults.isEmpty && decide (s.alertSlot.state = .free) && s.uUp

/-! ## Windows (R3, R6) -/

/-- The size of a window in bytes (R1). -/
def Window.size (w : Window) : Nat :=
  2 ^ w.sizeExp

/-- The number of pages of a window: size / 16 KiB (R1, R114). -/
def Window.pages (w : Window) : Nat :=
  w.size / Config.pageBytes

/-- Address `a` from requester `r` matches the window (R3). -/
def Window.matches (w : Window) (r : ReqId) (a : DAddr) : Bool :=
  decide (w.state ≠ .free) && decide (w.base.toNat ≤ a.toNat) && decide (a.toNat < w.base.toNat + w.size)
    && w.reqSet.getLsbD r.val

/-- The window that matches, if one does; at most one does (R3, R4). -/
def matchWindow (s : State) (r : ReqId) (a : DAddr) : Option WinId :=
  (List.finRange 24).find? fun w => (s.windows[w]).matches r a

/-- The page of an address in a window (R6). -/
def pageOf (w : Window) (a : DAddr) : Nat :=
  (a.toNat - w.base.toNat) / Config.pageBytes

/-- DIRECT translation: host base + (a - base) (R7). -/
def directAddr (w : Window) (a : DAddr) : HAddr :=
  w.hostBase + (a - w.base).setWidth 50

/-- MAPPED translation: frame * 16 KiB + (a mod 16 KiB) (R8). -/
def frameAddr (frame : BitVec 36) (a : DAddr) : HAddr :=
  frame ++ a.extractLsb' 0 14

/-- The host address of the page-map entry of a page: map root + 8 * page (R8). -/
def mapEntryAddr (w : Window) (page : Nat) : HAddr :=
  w.mapRoot + BitVec.ofNat 50 (8 * page)

/-- The two windows' ranges overlap: each begins below the other's end (R4). -/
def Window.overlaps (a b : Window) : Bool :=
  decide (a.base.toNat < b.base.toNat + b.size) && decide (b.base.toNat < a.base.toNat + a.size)

/-- The two windows share a requester (R4). -/
def Window.shares (a b : Window) : Bool :=
  a.reqSet &&& b.reqSet != 0

/-! ## Scopes (R113) -/

/-- A scope covers a window index and page (R113). -/
def Scope.covers : Scope → WinId → Nat → Bool
  | .all, _, _ => true
  | .window w, v, _ => decide (w = v)
  | .pages w first count, v, p => decide (w = v) && decide (first ≤ p) && decide (p < first + count)

/-! ## Device requests (R45) -/

/-- The request's bytes, from the address to address + 8 * length - 1, cross a 16 KiB boundary (R45). -/
def crossesBoundary (addr len : Nat) : Bool :=
  decide (addr / Config.pageBytes ≠ (addr + 8 * len - 1) / Config.pageBytes)

/-- The detail of the first condition of R45 that holds, if one does. -/
def malformedDetail (p : ReqPacket) : Option Nat :=
  let len := headerLength p.h0
  let addr := (requestAddress p).toNat
  if (headerSource p.h0).toNat ≥ 16 then some 1
  else if (headerTag p.h0).toNat > 31 then some 2
  else if len < 1 ∨ len > 64 then some 3
  else if (requestKind p = .write ∧ p.body.length ≠ len) ∨ (requestKind p = .read ∧ p.body ≠ []) then
    some 4
  else if addr ≥ 2 ^ 48 then some 5
  else if addr % 8 ≠ 0 then some 6
  else if crossesBoundary addr len then some 7
  else none

/-- The downstream address a device request carries, once R45 has found it below 2^48. -/
def requestDAddr (p : ReqPacket) : DAddr :=
  (requestAddress p).setWidth 48

/-- An entry that is neither FREE nor ABANDONED holds the requester and tag (R46). -/
def tagInUse (s : State) (r : ReqId) (tag : Tag) : Bool :=
  (List.finRange 64).any fun i =>
    (s.entries[i]).state.counted && decide ((s.entries[i]).requester = r)
      && decide ((s.entries[i]).reqTag = tag)

/-- The lowest-numbered FREE entry (R49). -/
def lowestFreeEntry (s : State) : Option EntryId :=
  (List.finRange 64).find? fun i => decide ((s.entries[i]).state = .free)

/-- The walk slot that covers a window and page: QUEUED, ISSUED or RETRY_WAIT without the stale mark
(R25). -/
def coveringWalk (s : State) (w : WinId) (p : Nat) : Option WalkId :=
  (List.finRange 4).find? fun k =>
    (s.walks[k]).state.underWay && !(s.walks[k]).stale && decide ((s.walks[k]).window = w)
      && decide ((s.walks[k]).page = p)

/-- The lowest-numbered FREE walk slot (R26). -/
def lowestFreeWalk (s : State) : Option WalkId :=
  (List.finRange 4).find? fun k => decide ((s.walks[k]).state = .free)

/-- The lowest-numbered FREE fence slot (R116). -/
def lowestFreeFence (s : State) : Option FenceId :=
  (List.finRange 4).find? fun k => decide ((s.fences[k]).state = .free)

/-- The lowest-numbered FREE management slot (R148). -/
def lowestFreeMgmt (s : State) : Option MgmtId :=
  (List.finRange 8).find? fun k => decide ((s.mgmt[k]).state = .free)

/-- The requests in the down pass-through queue that are to be sent rather than refused (R171, R172). -/
def requestsToSend (s : State) : Nat :=
  s.downQ.length - s.refusalCount

/-! ## Words of walks (R11 to R13) -/

/-- The check of a walk's word: reserved bits, then the check byte by the check mode, then the present
field; the first that fails decides (R11, R12, R13). -/
def judgeWord (mode : CheckMode) (w : Word) : WordOutcome :=
  if !reservedClear w then .formatFailure
  else if mode = .enforce ∧ checkByteMatches w = false then .checkFailure
  else if !mapPresent w then .notPresent
  else .usable

/-- The check byte is compared and differs: MAP_CHECK_MISMATCHES counts and a MAP_CHECK record is made
(R12). -/
def wordMismatches (mode : CheckMode) (w : Word) : Bool :=
  reservedClear w && decide (mode ≠ .off) && !checkByteMatches w

/-- The detail of a MAP_CHECK record: 1 REPORTED, 2 ENFORCED (R131). -/
def mapCheckDetail (mode : CheckMode) : Nat :=
  if mode = .enforce then 2 else 1

/-- The kind of the stopping fault of a word that is not usable (R11, R12, R13, R72). -/
def wordFault : WordOutcome → Option FaultKind
  | .usable => none
  | .notPresent => some .notPresent
  | .formatFailure => some .mapFormat
  | .checkFailure => some .mapCheck

end Sys2Proof.Machine
end

