-- ==== Sys2Proof/Machine/Ops.lean ====
section
/-! DEFINITION. The shared operations: records and counters, stops, marks and fences, answers, translation and
walks, timers, management replies, and the close of a happening. -/

namespace Sys2Proof.Machine

/-! ## Plain updates -/

/-- Write one transaction entry. -/
def setEntry (i : EntryId) (e : Entry) (s : State) : State :=
  { s with entries := s.entries.set i e }

/-- Write one walk slot. -/
def setWalk (k : WalkId) (w : WalkSlot) (s : State) : State :=
  { s with walks := s.walks.set k w }

/-- Write one requester context. -/
def setContext (r : ReqId) (c : Context) (s : State) : State :=
  { s with contexts := s.contexts.set r c }

/-- Write one fence slot. -/
def setFence (k : FenceId) (f : Fence) (s : State) : State :=
  { s with fences := s.fences.set k f }

/-- Write one management slot. -/
def setMgmt (k : MgmtId) (m : MgmtSlot) (s : State) : State :=
  { s with mgmt := s.mgmt.set k m }

/-- Write one window record. -/
def setWindow (w : WinId) (x : Window) (s : State) : State :=
  { s with windows := s.windows.set w x }

/-! ## Counters and records -/

/-- A counter counts 1; it wraps after 2^32 - 1 (R136). -/
def bump (c : Counter) (s : State) : State :=
  match c with
  | .translation i => { s with translationCtrs := s.translationCtrs.set i (s.translationCtrs[i] + 1) }
  | .transaction i => { s with transactionCtrs := s.transactionCtrs.set i (s.transactionCtrs[i] + 1) }
  | .requester r i =>
    { s with requesterCtrs :=
        s.requesterCtrs.set r ((s.requesterCtrs[r]).set i ((s.requesterCtrs[r])[i] + 1)) }

/-- A record is offered to the fault queue: with room it joins the tail, stamped with the tick and the
overflow-pending flag, which is then cleared; otherwise it is dropped, the lost count rises up to 255
and overflow-pending is set (R130, R132). -/
def offerRecord (r : FaultRecord) (s : State) : State :=
  if s.faults.length < Config.faultCapacity then
    { s with
      faults := s.faults ++ [{ r with tick := s.now, overflow := s.overflowPending }]
      overflowPending := false }
  else
    { s with
      lost := if s.lost < Config.lostLimit then s.lost + 1 else s.lost
      overflowPending := true }

/-! ## Stopping faults (R72) -/

/-- A stopping fault acts on a requester: under STOP an ACTIVE context becomes STOPPED with the fault's
kind as its stop cause; nothing else changes (R72, R73). -/
def applyStop (kind : FaultKind) (r : ReqId) (s : State) : State :=
  let c := s.contexts[r]
  if c.faultPolicy = .stop ∧ c.state = .active then
    setContext r { c with state := .stopped, stopCause := some kind } s
  else s

/-- A walk's stopping fault acts once on each distinct requester, in order of first appearance
(R34, R37, R72). -/
def stopAll (kind : FaultKind) (rs : List ReqId) (s : State) : State :=
  rs.eraseDups.foldl (fun t r => applyStop kind r t) s

/-! ## Management replies -/

/-- A management slot becomes REPLYING with its reply, behind those already REPLYING; its payload is
discarded (R155, R157). -/
def replySlot (k : MgmtId) (words : List Word) (s : State) : State :=
  { s with
    mgmt := s.mgmt.set k { s.mgmt[k] with state := .replying, payload := [], reply := words }
    replyOrder := s.replyOrder ++ [k] }

/-- A long command's slot becomes REPLYING with DONE; with no slot awaiting there is no reply
(R71, R120). -/
def replyDone (k : Option MgmtId) (s : State) : State :=
  match k with
  | none => s
  | some k => replySlot k [resultWord .done] s

/-- The head of the management order leaves it (R152, R156). -/
def popOrder (s : State) : State :=
  { s with mgmtOrder := s.mgmtOrder.tail, headWaiting := false }

/-! ## Marks and fences -/

/-- Every mark of an entry is removed, and each fence concerned loses 1 from its remaining count
(R119). -/
def dropMarks (i : EntryId) (s : State) : State :=
  { s with
    entries := s.entries.set i { s.entries[i] with marks := noMarks }
    fences := Vector.ofFn fun k : Fin 4 =>
      if (s.entries[i]).marks[k] then { s.fences[k] with remaining := (s.fences[k]).remaining - 1 }
      else s.fences[k] }

/-- The RETIRING window of a retiring fence becomes FREE and keeps its fields as last loaded
(R2, R120, R1). -/
def freeRetired (f : Fence) (s : State) : State :=
  match f.command, f.scope with
  | some .retireWindow, some (.window w) =>
    if (s.windows[w]).state = .retiring then setWindow w { s.windows[w] with state := .free } s else s
  | _, _ => s

/-- A fence ends: its slot becomes FREE and is cleared, a retiring window becomes FREE, and the awaiting
management slot becomes REPLYING with DONE (R120). -/
def endFence (k : FenceId) (s : State) : State :=
  let f := s.fences[k]
  s |> setFence k {} |> freeRetired f |> replyDone f.awaiting

/-- A fence's remaining count fell to 0 in the happening that led from `before` to `s` (R120). -/
def fenceEnds (before s : State) (k : FenceId) : Bool :=
  decide ((s.fences[k]).state = .waiting) && decide ((s.fences[k]).remaining = 0)
    && decide ((before.fences[k]).remaining ≠ 0)

/-- The fences whose counts fell to 0 end in ascending order of slot number (R120). -/
def endFences (before : State) (s : State) : State :=
  (List.finRange 4).foldl (fun t k => if fenceEnds before t k then endFence k t else t) s

/-! ## The alert trigger and the close of a happening -/

/-- The alert fires: armed is cleared, the slot becomes QUEUED with the captured address and payload, and
joins the tail of the own list (R141). -/
def fireAlert (s : State) : State :=
  { s with
    alertArmed := false
    alertSlot :=
      { state := .queued
        address := s.alertAddress
        payload := alertWords s.faults.length s.lost s.now
        startTick := s.now
        retryCount := 0
        releaseTick := none
        abandonTick := none }
    ownList := s.ownList ++ [.alert] }

/-- The alert trigger is evaluated (R141). -/
def evalTrigger (s : State) : State :=
  if triggerHolds s then fireAlert s else s

/-- The happening enqueued a record or made the alert slot FREE, so the trigger is evaluated at its end,
once (R141). -/
def triggerPoint (before s : State) : Bool :=
  decide (before.faults.length < s.faults.length)
    || (decide (before.alertSlot.state ≠ .free) && decide (s.alertSlot.state = .free))

/-- The rotation counter becomes 0 at a happening that leaves the own list empty (R85). -/
def resetRotation (before s : State) : State :=
  if s.ownList = [] ∧ before.ownList ≠ [] then { s with rotation := 0 } else s

/-- The close of a happening that led from `before` to `s`: fences whose counts fell to 0 end, the alert
trigger is evaluated if it is due, and an emptied own list resets the rotation counter
(R120, R141, R85). -/
def conclude (before s : State) : State :=
  let s1 := endFences before s
  let s2 := if triggerPoint before s1 then evalTrigger s1 else s1
  resetRotation before s2

/-! ## Answers and freeing -/

/-- An entry leaves the issue queue, every waiter list and the backlog; those behind it close up
(R54, R105). -/
def leavePlaces (i : EntryId) (s : State) : State :=
  { s with
    issueQ := s.issueQ.filter (· ≠ i)
    backlog := s.backlog.filter (· ≠ i)
    walks := Vector.ofFn fun k : Fin 4 =>
      { s.walks[k] with waiters := (s.walks[k]).waiters.filter (· ≠ i) } }

/-- An entry in flight becomes ANSWERING and joins the tail of the answer queue: it leaves its places, its
marks, payload and backoff go, and its host address goes unless its upstream request stays open
(R54). An entry in any other state is not changed (R52). -/
def answerEntry (i : EntryId) (a : Answer) (openUp : Bool) (s : State) : State :=
  let e := s.entries[i]
  if e.state.inFlight then
    let s1 := s |> dropMarks i |> leavePlaces i
    { s1 with
      entries := s1.entries.set i
        { e with
          state := .answering
          hostAddr := if openUp then e.hostAddr else none
          payload := []
          releaseTick := none
          marks := noMarks
          answer := some a
          upstreamOpen := openUp }
      answerQ := s1.answerQ ++ [i] }
  else s

/-- An entry is answered with a status and no data (R54). -/
def answerWith (i : EntryId) (st : Status) (s : State) : State :=
  answerEntry i { status := st } false s

/-- Each of the entries is answered with a status, in list order (R34, R37). -/
def answerAll (is : List EntryId) (st : Status) (s : State) : State :=
  is.foldl (fun t i => answerWith i st t) s

/-- An entry becomes FREE: its marks are removed and every field but its index is cleared
(R56, R96, R108). -/
def freeEntry (i : EntryId) (s : State) : State :=
  s |> dropMarks i |> setEntry i {}

/-- The fields of a fault record that come from an entry (R95, R96, R104, R108). -/
def entryRecord (kind : FaultKind) (detail : Nat) (e : Entry) : FaultRecord where
  kind := kind
  detail := detail
  requester := some e.requester
  reqTag := some e.reqTag
  window := some e.window
  dAddr := some e.dAddr
  hostAddr := e.hostAddr

/-! ## Translation (R5, R7, R8, R18, R21, R22, R26, R27) -/

/-- A TRANSLATING entry takes a host address, becomes QUEUED and joins the tail of the issue queue
(R50, R53). -/
def queueEntry (i : EntryId) (addr : HAddr) (s : State) : State :=
  let e := s.entries[i]
  if e.state = .translating then
    { s with
      entries := s.entries.set i { e with state := .queued, hostAddr := some addr }
      issueQ := s.issueQ ++ [i] }
  else s

/-- An entry whose kind is not permitted: a RIGHTS record, the answer DENIED, and the requester's stop
policy (R5, R72). -/
def denyEntry (i : EntryId) (w : WinId) (s : State) : State :=
  let e := s.entries[i]
  s |> offerRecord
        { kind := .rights, requester := some e.requester, reqTag := some e.reqTag, window := some w
          dAddr := some e.dAddr }
    |> answerWith i .denied
    |> applyStop .rights e.requester

/-- An entry meets a page-map entry of window `w`: with its kind in the effective rights it is translated,
otherwise it is denied (R5, R8, R33). -/
def takeFrame (i : EntryId) (w : WinId) (rights : Rights) (frame : BitVec 36) (s : State) : State :=
  let e := s.entries[i]
  if (((s.windows[w]).rights.meet rights).permits e.kind) then queueEntry i (frameAddr frame e.dAddr) s
  else denyEntry i w s

/-- The cache entry of a window and page. -/
def cacheKey (w : WinId) (p : Nat) (c : CacheEntry) : Bool :=
  decide (c.window = w) && decide (c.page = p)

/-- A lookup that hits: CACHE_HITS counts, the entry becomes most recent, and its frame and rights are
used (R21, R20). -/
def cacheHit (i : EntryId) (w : WinId) (p : Nat) (c : CacheEntry) (s : State) : State :=
  { s with cache := c :: s.cache.filter (fun x => !cacheKey w p x) }
    |> bump cacheHits
    |> takeFrame i w c.rights c.frame

/-- A lookup that meets a storage upset: the entry is removed, CACHE_CHECK_ERRORS counts and one
CACHE_CHECK record is made (R22). -/
def storageUpsetFound (i : EntryId) (w : WinId) (p : Nat) (s : State) : State :=
  let e := s.entries[i]
  { s with cache := s.cache.filter (fun x => !cacheKey w p x) }
    |> bump cacheCheckErrors
    |> offerRecord
        { kind := .cacheCheck, requester := some e.requester, reqTag := some e.reqTag, window := some w
          dAddr := some e.dAddr, hostAddr := some (mapEntryAddr s.windows[w] p) }

/-- A lookup of window `w` and page `p` for entry `i`, taken whole: exactly one of CACHE_HITS and
CACHE_MISSES counts, and a miss goes to the Walk Unit (R21, R22). -/
def lookup (miss : EntryId → WinId → Nat → State → State) (i : EntryId) (w : WinId) (p : Nat)
    (s : State) : State :=
  match s.cache.find? (cacheKey w p) with
  | none => s |> bump cacheMisses |> miss i w p
  | some c =>
    if c.upset then s |> storageUpsetFound i w p |> bump cacheMisses |> miss i w p
    else cacheHit i w p c s

/-- A TRANSLATING entry takes window `w`, VALID and with the right, and the page of its address in it; it
is translated by a DIRECT window and looked up in the Map Cache for a MAPPED one (R18, R49, R50). -/
def translateIn (miss : EntryId → WinId → Nat → State → State) (i : EntryId) (w : WinId)
    (s : State) : State :=
  let win := s.windows[w]
  let e := s.entries[i]
  let p := pageOf win e.dAddr
  let s1 := setEntry i { e with window := w, page := p, hostAddr := none } s
  if win.mode = some .direct then queueEntry i (directAddr win e.dAddr) s1
  else lookup miss i w p s1

/-- A TRANSLATING entry re-translates from the window match (R18). -/
def retranslateWith (miss : EntryId → WinId → Nat → State → State) (i : EntryId) (s : State) : State :=
  let e := s.entries[i]
  if e.state = .translating then
    match matchWindow s e.requester e.dAddr with
    | none => answerWith i .unmapped s
    | some w =>
      if (s.windows[w]).state = .retiring then answerWith i .unmapped s
      else if (s.windows[w]).rights.permits e.kind then translateIn miss i w s
      else denyEntry i w s
  else s

/-- A transaction entry joins a walk's waiter list at the tail (R26, step 1). -/
def joinWalk (k : WalkId) (i : EntryId) (s : State) : State :=
  setWalk k { s.walks[k] with waiters := (s.walks[k]).waiters ++ [i] } s

/-- A FREE walk slot starts a walk with the entry as its first waiter, and offers its read
(R26, step 2; R30, R83). -/
def startWalk (k : WalkId) (i : EntryId) (w : WinId) (p : Nat) (s : State) : State :=
  { setWalk k
      { state := .queued
        window := w
        page := p
        mapAddr := mapEntryAddr s.windows[w] p
        stale := false
        waiters := [i]
        startTick := s.now
        retryCount := 0
        releaseTick := none
        abandonTick := none } s with
    ownList := s.ownList ++ [.walk k] }

/-- A backlog entry that misses, or an entry in general, holds this window and page (R27). -/
def holdsPage (s : State) (w : WinId) (p : Nat) (i : EntryId) : Bool :=
  decide ((s.entries[i]).window = w) && decide ((s.entries[i]).page = p)

/-- An entry that missed goes to the Walk Unit: it merges into the covering walk, or starts a walk in the
lowest-numbered FREE slot, into which the backlog entries for the page then move by re-translating in
backlog order, or joins the backlog (R26, R27). The first argument bounds how many walks one
happening's nested starts can begin: there are four slots, and each start takes one (log entry 12). -/
def goToWalk : Nat → EntryId → WinId → Nat → State → State
  | 0, i, w, p, s =>
    match coveringWalk s w p with
    | some k => joinWalk k i s
    | none => { s with backlog := s.backlog ++ [i] }
  | n + 1, i, w, p, s =>
    match coveringWalk s w p with
    | some k => joinWalk k i s
    | none =>
      match lowestFreeWalk s with
      | none => { s with backlog := s.backlog ++ [i] }
      | some k =>
        let s1 := startWalk k i w p s
        let moved := s1.backlog.filter (holdsPage s1 w p)
        let s2 := { s1 with backlog := s1.backlog.filter (fun j => !holdsPage s1 w p j) }
        moved.foldl (fun t j => retranslateWith (goToWalk n) j t) s2

/-- An entry that missed goes to the Walk Unit (R26). -/
def missEntry (i : EntryId) (w : WinId) (p : Nat) (s : State) : State :=
  goToWalk Config.walkSlots i w p s

/-- An entry re-translates (R18). -/
def retranslate (i : EntryId) (s : State) : State :=
  retranslateWith missEntry i s

/-! ## Walks (R29, R32 to R39) -/

/-- At most `n` entries of the backlog are served into slot `k` while it is FREE (R29). -/
def serveSteps : Nat → WalkId → State → State
  | 0, _, s => s
  | n + 1, k, s =>
    if (s.walks[k]).state = .free then
      match s.backlog with
      | [] => s
      | i :: rest => serveSteps n k (retranslate i { s with backlog := rest })
    else s

/-- The backlog is served into slot `k` until it is occupied or the backlog is empty (R29). -/
def serveBacklog (k : WalkId) (s : State) : State :=
  serveSteps s.backlog.length k s

/-- A walk slot becomes FREE and its fields are cleared; a read that waited is withdrawn
(R32, R37, R38, R39). -/
def freeWalk (k : WalkId) (s : State) : State :=
  { setWalk k {} s with ownList := s.ownList.filter (· ≠ .walk k) }

/-- A record of a walk names its first waiter, if it has one, its window and its map-entry address
(R11, R37). -/
def walkRecord (kind : FaultKind) (detail : Nat) (k : WalkId) (s : State) : FaultRecord :=
  let slot := s.walks[k]
  let first := slot.waiters.head?.map fun i => s.entries[i]
  { kind := kind
    detail := detail
    requester := first.map Entry.requester
    reqTag := first.map Entry.reqTag
    window := some slot.window
    dAddr := first.map Entry.dAddr
    hostAddr := some slot.mapAddr }

/-- The requesters of a walk's waiters, in list order (R72). -/
def waiterRequesters (k : WalkId) (s : State) : List ReqId :=
  (s.walks[k]).waiters.map fun i => (s.entries[i]).requester

/-- An install: the new entry is most recent, and a full cache evicts its least recent entry (R23). -/
def install (w : WinId) (p : Nat) (word : Word) (s : State) : State :=
  { s with
    cache :=
      ({ window := w, page := p, frame := mapFrame word, rights := mapRights word } :: s.cache).take
        Config.cacheCapacity }

/-- The records and the count of a walk's check (R11, R12, R13). -/
def checkRecords (k : WalkId) (word : Word) (s : State) : State :=
  let mode := (s.windows[(s.walks[k]).window]).checkMode
  let s1 :=
    if wordMismatches mode word then
      s |> bump mapCheckMismatches |> offerRecord (walkRecord .mapCheck (mapCheckDetail mode) k s)
    else s
  match judgeWord mode word with
  | .formatFailure => offerRecord (walkRecord .mapFormat 0 k s) s1
  | .notPresent => offerRecord (walkRecord .notPresent 0 k s) s1
  | .checkFailure => s1
  | .usable => s1

/-- The completion of a walk that is not stale brings one word: check, install, free, hand-on, serve
(R32, R33, R34). -/
def finishWalk (k : WalkId) (word : Word) (s : State) : State :=
  let slot := s.walks[k]
  let rs := waiterRequesters k s
  let s1 := checkRecords k word s
  match wordFault (judgeWord (s.windows[slot.window]).checkMode word) with
  | none =>
    let s2 := s1 |> install slot.window slot.page word |> freeWalk k
    slot.waiters.foldl (fun t i => takeFrame i slot.window (mapRights word) (mapFrame word) t) s2
      |> serveBacklog k
  | some f =>
    s1 |> freeWalk k |> answerAll slot.waiters .unmapped |> stopAll f rs |> serveBacklog k

/-- The completion of a stale walk brings one word, which is not used: the slot becomes FREE, its waiters
re-translate in list order, and the backlog is served (R35). -/
def finishStaleWalk (k : WalkId) (s : State) : State :=
  let ws := (s.walks[k]).waiters
  ws.foldl (fun t i => retranslate i t) (freeWalk k s) |> serveBacklog k

/-- An ISSUED walk slot becomes ABANDONED (R38). -/
def abandonWalk (k : WalkId) (s : State) : State :=
  setWalk k
    { s.walks[k] with state := .abandoned, waiters := [], releaseTick := none, abandonTick := some s.now } s

/-- A walk fails with a detail: 1 ERROR, 2 TIMEOUT, 3 RETRIES (R131). Its waiters are answered UNMAPPED,
the stop policy applies, and the slot becomes FREE and is served, or ABANDONED (R37). -/
def failWalk (detail : Nat) (toAbandoned : Bool) (k : WalkId) (s : State) : State :=
  let s1 :=
    s |> bump walkFailures
      |> offerRecord (walkRecord .walkFailed detail k s)
      |> answerAll (s.walks[k]).waiters .unmapped
      |> stopAll .walkFailed (waiterRequesters k s)
  if toAbandoned then abandonWalk k s1 else s1 |> freeWalk k |> serveBacklog k

/-- The host answers an ISSUED walk with RETRY (R36). -/
def retryWalk (k : WalkId) (s : State) : State :=
  let slot := s.walks[k]
  if slot.retryCount < s.timing.walkRetryLimit then
    let c := slot.retryCount + 1
    let d := backoff s.timing.walkBackoffBase c
    if d = 0 then
      { setWalk k { slot with state := .queued, retryCount := c } s with
        ownList := s.ownList ++ [.walk k] }
    else
      setWalk k
        { slot with state := .retryWait, retryCount := c, releaseTick := some (s.now + BitVec.ofNat 32 d) } s
  else failWalk 3 false k s

/-- A RETRY_WAIT walk slot becomes QUEUED and joins the own list at the tail (R36, R83). -/
def releaseWalk (k : WalkId) (s : State) : State :=
  { setWalk k { s.walks[k] with state := .queued, releaseTick := none } s with
    ownList := s.ownList ++ [.walk k] }

/-- The record of an ABANDONED walk slot that becomes FREE: its window and its map-entry address
(R39). -/
def abandonedWalkRecord (kind : FaultKind) (k : WalkId) (s : State) : FaultRecord where
  kind := kind
  window := some (s.walks[k]).window
  hostAddr := some (s.walks[k]).mapAddr

/-- The late completion of an ABANDONED walk slot (R39). -/
def lateWalk (k : WalkId) (s : State) : State :=
  s |> bump lateCompletions
    |> offerRecord (abandonedWalkRecord .lateCompletion k s)
    |> freeWalk k
    |> serveBacklog k

/-- The reclaim of an ABANDONED walk slot (R39). -/
def reclaimWalk (k : WalkId) (s : State) : State :=
  s |> bump reclaims
    |> offerRecord (abandonedWalkRecord .reclaimed k s)
    |> freeWalk k
    |> serveBacklog k

/-! ## Expiry, release and reclaim of entries (R89, R90, R104 to R108) -/

/-- A request-age expiry: TIMEOUTS counts, a TIMEOUT record is made, and the entry is answered TIMEOUT; if
it was ISSUED its upstream request stays open (R104, R105, R106). -/
def expireEntry (i : EntryId) (s : State) : State :=
  let e := s.entries[i]
  s |> bump timeouts
    |> offerRecord (entryRecord .timeout (expiryDetail e.state) e)
    |> answerEntry i { status := .timeout } (decide (e.state = .issued))

/-- The release of a RETRY_WAIT entry: by age it expires; unmarked it becomes QUEUED again with the host
address it holds; marked it sheds its marks and its host address and re-translates (R89, R90). -/
def releaseEntry (i : EntryId) (s : State) : State :=
  let e := s.entries[i]
  if ageReached s i then expireEntry i s
  else if e.marks = noMarks then
    { s with
      entries := s.entries.set i { e with state := .queued, releaseTick := none }
      issueQ := s.issueQ ++ [i] }
  else
    s |> dropMarks i
      |> setEntry i { e with state := .translating, marks := noMarks, hostAddr := none, releaseTick := none }
      |> retranslate i

/-- The reclaim of an ABANDONED entry (R108). -/
def reclaimEntry (i : EntryId) (s : State) : State :=
  s |> bump reclaims
    |> offerRecord (entryRecord .reclaimed 0 s.entries[i])
    |> freeEntry i

/-! ## The alert slot (R143 to R145) -/

/-- The alert slot becomes FREE and its fields are cleared; a write that waited is withdrawn
(R143, R145). -/
def freeAlert (s : State) : State :=
  { s with alertSlot := {}, ownList := s.ownList.filter (· ≠ .alert) }

/-- A record of the alert slot: the captured address (R144, R145). -/
def alertRecord (kind : FaultKind) (s : State) : FaultRecord where
  kind := kind
  hostAddr := some s.alertSlot.address

/-- The alert fails: one ALERT_FAILED record, and the slot becomes FREE or ABANDONED (R144, R145). -/
def failAlert (toAbandoned : Bool) (s : State) : State :=
  let s1 := offerRecord (alertRecord .alertFailed s) s
  if toAbandoned then
    { s1 with
      alertSlot := { s1.alertSlot with state := .abandoned, releaseTick := none, abandonTick := some s.now } }
  else freeAlert s1

/-- The host answers the ISSUED alert write with RETRY (R144). -/
def retryAlert (s : State) : State :=
  let slot := s.alertSlot
  if slot.retryCount < s.timing.walkRetryLimit then
    let c := slot.retryCount + 1
    let d := backoff s.timing.walkBackoffBase c
    if d = 0 then
      { s with alertSlot := { slot with state := .queued, retryCount := c }, ownList := s.ownList ++ [.alert] }
    else
      { s with
        alertSlot :=
          { slot with
            state := .retryWait, retryCount := c, releaseTick := some (s.now + BitVec.ofNat 32 d) } }
  else failAlert false s

/-- A RETRY_WAIT alert slot becomes QUEUED and joins the own list at the tail (R144). -/
def releaseAlert (s : State) : State :=
  { s with
    alertSlot := { s.alertSlot with state := .queued, releaseTick := none }
    ownList := s.ownList ++ [.alert] }

/-- The late completion of the ABANDONED alert slot (R145). -/
def lateAlert (s : State) : State :=
  s |> bump lateCompletions |> offerRecord (alertRecord .lateCompletion s) |> freeAlert

/-- The reclaim of the ABANDONED alert slot (R145). -/
def reclaimAlert (s : State) : State :=
  s |> bump reclaims |> offerRecord (alertRecord .reclaimed s) |> freeAlert

/-! ## The taking of a tick (R102) -/

/-- The Transaction Table acts on the timer of entry `i` that has run out (R102). -/
def tickEntry (i : EntryId) (s : State) : State :=
  if entryExpires s i then expireEntry i s
  else if entryReleases s i then releaseEntry i s
  else if entryReclaims s i then reclaimEntry i s
  else s

/-- The Transaction Table takes the tick as one happening, entries in ascending order of index; it takes
each tick once (R102). -/
def takeTableTick (s : State) : State :=
  if s.tableDue then
    conclude s ((List.finRange 64).foldl (fun t i => tickEntry i t) { s with tableDue := false })
  else s

/-- The Walk Unit acts on the timer of slot `k` that has run out (R38). DESIGN CHOICE, unsafe: a slot that a
RETRY moved to RETRY_WAIT or QUEUED before this tick is taken times out in it all the same, where R31 says
that the timeout no longer applies (log entry 26). -/
def tickWalk (k : WalkId) (s : State) : State :=
  if walkTimesOut s k then failWalk 2 (decide ((s.walks[k]).state = .issued)) k s
  else if walkReleases s k then releaseWalk k s
  else if walkReclaims s k then reclaimWalk k s
  else s

/-- The Walk Unit takes the tick as one happening, slots in ascending order (R38, R102). -/
def takeWalkTick (s : State) : State :=
  if s.walkDue then
    conclude s ((List.finRange 4).foldl (fun t k => tickWalk k t) { s with walkDue := false })
  else s

/-- The alert slot acts on its timer that has run out (R145). DESIGN CHOICE, unsafe: a slot that a RETRY moved
to RETRY_WAIT or QUEUED before this tick is taken times out in it all the same, where R143 says that the
timeout no longer applies (log entry 26). -/
def tickAlert (s : State) : State :=
  if alertTimesOut s then failAlert (decide (s.alertSlot.state = .issued)) s
  else if alertReleases s then releaseAlert s
  else if alertReclaims s then reclaimAlert s
  else s

/-- The alert slot takes the tick (R102, R145). -/
def takeAlertTick (s : State) : State :=
  if s.alertDue then conclude s (tickAlert { s with alertDue := false }) else s

/-- Every block that has still to take the latest tick takes it (R102; in this order by log
entry 4). -/
def finishTick (s : State) : State :=
  s |> takeTableTick |> takeWalkTick |> takeAlertTick

/-! ## Drains (R71) -/

/-- A drain ends: the context becomes OFF, and the awaiting management slot, if there is one, becomes
REPLYING with DONE (R71). -/
def endDrain (r : ReqId) (s : State) : State :=
  let c := s.contexts[r]
  s |> setContext r { c with state := .off, quiesce := none } |> replyDone c.quiesce

/-! ## Starting a fence (R117) -/

/-- The entry is marked at the start of a fence of this scope (R113, R118). -/
def fenceMarks (scope : Scope) (e : Entry) : Bool :=
  e.state.markable && scope.covers e.window e.page

/-- How many entries the start of a fence of this scope marks (R117, step 5). -/
def markCount (scope : Scope) (s : State) : Nat :=
  (List.finRange 64).countP fun i => fenceMarks scope s.entries[i]

/-- Steps 1 to 4 of a fence's start: the window retires, cache entries go, walks become stale, entries are
marked (R117, R24, R35, R118). -/
def withdrawScope (k : FenceId) (cmd : FenceCommand) (scope : Scope) (s : State) : State :=
  { s with
    windows :=
      match cmd, scope with
      | .retireWindow, .window w => s.windows.set w { s.windows[w] with state := .retiring }
      | _, _ => s.windows
    cache := s.cache.filter fun c => !scope.covers c.window c.page
    walks := Vector.ofFn fun j : Fin 4 =>
      if (s.walks[j]).state.underWay && scope.covers (s.walks[j]).window (s.walks[j]).page then
        { s.walks[j] with stale := true }
      else s.walks[j]
    entries := Vector.ofFn fun i : Fin 64 =>
      if fenceMarks scope s.entries[i] then { s.entries[i] with marks := (s.entries[i]).marks.set k true }
      else s.entries[i] }

/-- A fence starts in slot `k` for the management slot `m`: it waits on the entries it marked, or ends at
once if it marked none (R117, R116, R120, R156). -/
def startFence (k : FenceId) (cmd : FenceCommand) (scope : Scope) (m : MgmtId) (s : State) : State :=
  let n := markCount scope s
  let s1 := withdrawScope k cmd scope s |> popOrder
  if n = 0 then
    s1 |> freeRetired { command := some cmd, scope := some scope } |> replySlot m [resultWord .done]
  else
    s1 |> setFence k
            { state := .waiting, command := some cmd, scope := some scope, remaining := n, awaiting := some m }
       |> setMgmt m { s1.mgmt[m] with state := .running, payload := [] }

/-! ## Executing the head of the management order (R152, R155) -/

/-- The head of the management order completes with its reply words (R155). -/
def completeHead (m : MgmtId) (words : List Word) (s : State) : State :=
  s |> popOrder |> replySlot m words

/-- The head completes with a result (R155). -/
def resultHead (m : MgmtId) (r : Result) (s : State) : State :=
  completeHead m [resultWord r] s

/-- The slot at the head of the management order and its command or query, when it can be executed: the
order is not empty and the head is not waiting for a fence slot (R152). -/
def executable (s : State) : Option (MgmtId × MgmtOp) :=
  if s.headWaiting then none
  else
    match s.mgmtOrder with
    | [] => none
    | m :: _ => (s.mgmt[m]).op.map fun op => (m, op)

/-- Execute the head if it is this command or query; otherwise the happening does not come about
(R152, log entry 3). -/
def whenHead (op : MgmtOp) (body : MgmtId → List Word → State → State) (s : State) : State :=
  match executable s with
  | none => s
  | some (m, o) => if o = op then body m (s.mgmt[m]).payload s else s

/-! ## The retry of an ISSUED entry (R88, R92) -/

/-- The data of a READ answered OK under FILL: `length` words of all ones (R92). -/
def allOnes (length : Nat) : List Word :=
  List.replicate length (BitVec.allOnes 64)

/-- The answer to retry exhaustion (R92). -/
def exhaustAnswer (p : ExhaustPolicy) (e : Entry) : Answer :=
  match p, e.kind with
  | .fill, .read => { status := .ok, data := allOnes e.length, filled := true }
  | .fill, .write => { status := .abort }
  | .fail, _ => { status := .abort }

end Sys2Proof.Machine
end

