-- ==== Sys2Proof/Machine/Arbiters.lean ====
section
/-! DEFINITION. The two transmit arbiters: the Issue Arbiter of the U-port (R79 to R87) and the answer arbiter
of the D-port (R171), with the pass-through refusals of the D-port (R173). -/

namespace Sys2Proof.Machine

/-! ## The Issue Arbiter -/

/-- The completion the bridge sends for a request it does not carry out: the request's source and tag, the
status, length 0 and no data (R47, R82, R154). -/
def refusedPacket (r : Refused) : CplPacket :=
  buildCompletion r.source r.tag r.status []

/-- The management source has a packet waiting (R81). -/
def managementWaits (s : State) : Bool :=
  !s.replyOrder.isEmpty || !s.replyRefusals.isEmpty

/-- The pass-through source has a packet waiting (R81). -/
def passThroughWaits (s : State) : Bool :=
  !s.dCplIn.isEmpty

/-- The oldest REPLYING slot's reply is sent with status OK and the slot becomes FREE; with no slot
REPLYING the head of the reply-refusal queue is sent (R81, R82, R157, R154). -/
def sendManagement (s : State) : State :=
  match s.replyOrder with
  | m :: rest =>
    let slot := s.mgmt[m]
    { s with
      mgmt := s.mgmt.set m {}
      replyOrder := rest
      uTx := some (.completion (buildCompletion slot.source slot.tag .ok slot.reply)) }
  | [] =>
    match s.replyRefusals with
    | r :: rest => { s with replyRefusals := rest, uTx := some (.completion (refusedPacket r)) }
    | [] => s

/-- The head of the D-port completion ingress is sent as it arrived (R82). -/
def sendPassThrough (s : State) : State :=
  match s.dCplIn with
  | p :: rest => { s with dCplIn := rest, uTx := some (.completion p) }
  | [] => s

/-- A completion-class grant: both sources waiting alternate by the turn; a source granted alone gives the
turn to the other (R81). -/
def grantCompletion (s : State) : State :=
  if managementWaits s && (!passThroughWaits s || decide (s.cplTurn = .management)) then
    { sendManagement s with cplTurn := .passThrough }
  else { sendPassThrough s with cplTurn := .management }

/-- The request sent upstream for a QUEUED entry (R86). -/
def forwardPacket (i : EntryId) (e : Entry) : ReqPacket :=
  buildRequest e.kind bridgeSource (entryTag i) e.length (e.hostAddr.getD 0) e.payload

/-- A forwarded grant: the head leaves the issue queue, becomes ISSUED and is sent; FORWARDED counts a
first issue (R86). -/
def grantForward (i : EntryId) (rest : List EntryId) (s : State) : State :=
  let e := s.entries[i]
  let s1 := { s with issueQ := rest }
  if e.state = .queued then
    let s2 := if e.retryCount = 0 then bump forwarded s1 else s1
    { s2 with
      entries := s2.entries.set i { e with state := .issued }
      uTx := some (.request (forwardPacket i e)) }
  else s1

/-- The one-word READ of a walk slot (R30). -/
def walkPacket (k : WalkId) (slot : WalkSlot) : ReqPacket :=
  buildRequest .read bridgeSource (walkTag k) 1 slot.mapAddr []

/-- The two-word WRITE of the alert slot (R87, R142). -/
def alertPacket (slot : AlertSlot) : ReqPacket :=
  buildRequest .write bridgeSource alertTag 2 slot.address slot.payload

/-- A walk slot granted: it becomes ISSUED and its read is sent; WALKS_ISSUED or WALK_RETRIES counts by its
retry count (R30, R87). -/
def grantWalk (k : WalkId) (s : State) : State :=
  let slot := s.walks[k]
  if slot.state = .queued then
    let s1 := bump (if slot.retryCount = 0 then walksIssued else walkRetries) s
    { setWalk k { slot with state := .issued } s1 with uTx := some (.request (walkPacket k slot)) }
  else s

/-- The alert slot granted: it becomes ISSUED and its write is sent as captured (R87, R142). -/
def grantAlert (s : State) : State :=
  if s.alertSlot.state = .queued then
    { s with
      alertSlot := { s.alertSlot with state := .issued }
      uTx := some (.request (alertPacket s.alertSlot)) }
  else s

/-- An own-request grant takes the head of the own list (R87). -/
def grantOwn (o : OwnRequest) (rest : List OwnRequest) (s : State) : State :=
  let s1 := { s with ownList := rest }
  match o with
  | .walk k => grantWalk k s1
  | .alert => grantAlert s1

/-- A request-class grant: the rotation counter against the guarantee N chooses the source (R84). -/
def grantRequest (s : State) : State :=
  match s.ownList, s.issueQ with
  | [], [] => s
  | [], i :: rest => { grantForward i rest s with rotation := 0 }
  | o :: rest, [] => { grantOwn o rest s with rotation := 0 }
  | o :: orest, i :: irest =>
    if s.rotation < s.guarantee then { grantForward i irest s with rotation := s.rotation + 1 }
    else { grantOwn o orest s with rotation := 0 }

/-- ISSUE_ARBITER_GRANT: the completion class first if it can be sent, then the request class, otherwise no
grant; no grant while the U-port is DOWN (R79, R80). -/
def execIssueArbiterGrant (s : State) : Host.Outcome State Fault Refusal :=
  .next
    (if s.uUp = false then s
    else if (managementWaits s || passThroughWaits s) && !s.uHoldCpl then grantCompletion s
    else if s.uHoldReq then s
    else grantRequest s)

/-! ## The answer arbiter -/

/-- The completion that answers an entry: the requester's source and tag, the status, and the data of a
READ answered OK (R55). -/
def answerPacket (e : Entry) (a : Answer) : CplPacket :=
  buildCompletion (BitVec.ofNat 5 e.requester.val) e.reqTag a.status a.data

/-- COMPLETED counts an OK answer that is not filled, FAULTED every other (R56). -/
def answerCounter (r : ReqId) (a : Answer) : Counter :=
  if a.status = .ok ∧ a.filled = false then completed r else faulted r

/-- An entry that leaves ANSWERING because its answer is sent: FREE, or ABANDONED with its upstream request
open (R56). -/
def sentEntry (now : Tick) (e : Entry) : Entry :=
  if e.upstreamOpen then
    { e with state := .abandoned, abandonTick := some now, answer := none, upstreamOpen := false }
  else {}

/-- The outstanding count of a requester falls by 1, and a drain whose count reaches 0 ends
(R56, R66, R71). -/
def lowerOutstanding (r : ReqId) (s : State) : State :=
  let c := s.contexts[r]
  let s1 := setContext r { c with outstanding := c.outstanding - 1 } s
  if c.state = .draining ∧ c.outstanding = 1 then endDrain r s1 else s1

/-- An entry's answer is sent (R56). -/
def sendAnswer (i : EntryId) (rest : List EntryId) (s : State) : State :=
  let e := s.entries[i]
  let s1 := { s with answerQ := rest }
  match e.state, e.answer with
  | .answering, some a =>
    { s1 with dTx := some (.completion (answerPacket e a)) }
      |> bump (answerCounter e.requester a)
      |> setEntry i (sentEntry s.now e)
      |> lowerOutstanding e.requester
  | _, _ => s1

/-- A refusal is sent and leaves its queue (R48). -/
def sendRefusal (r : Refused) (rest : List Refused) (s : State) : State :=
  { s with refusalQ := rest, dTx := some (.completion (refusedPacket r)) }

/-- A completion-class grant of the D-port: answers and refusals alternate by the turn (R171). -/
def grantDeviceCompletion (s : State) : State :=
  match s.answerQ, s.refusalQ with
  | [], [] => s
  | i :: rest, [] => { sendAnswer i rest s with answerTurn := .refusal }
  | [], r :: rest => { sendRefusal r rest s with answerTurn := .answer }
  | i :: arest, r :: rrest =>
    match s.answerTurn with
    | .answer => { sendAnswer i arest s with answerTurn := .refusal }
    | .refusal => { sendRefusal r rrest s with answerTurn := .answer }

/-- The run count rises by 1, up to 8, at a completion grant made while the down pass-through queue holds a
request to be sent (R171). -/
def raiseRun (s : State) : State :=
  if 0 < requestsToSend s then { s with runCount := min (s.runCount + 1) Config.runLimit } else s

/-- A request grant of the D-port: the head of the down pass-through queue is sent as it arrived, and the
run count becomes 0 (R171, R172). -/
def grantDeviceRequest (s : State) : State :=
  match s.downQ with
  | p :: rest => { s with downQ := rest, dTx := some (.request p), runCount := 0 }
  | [] => s

/-- A request waits at the answer arbiter: the head of the down pass-through queue, while the refusal count
is 0 (R171, R172). -/
def deviceRequestWaits (s : State) : Bool :=
  !s.downQ.isEmpty && decide (s.refusalCount = 0)

/-- A completion waits at the answer arbiter (R171). -/
def deviceCompletionWaits (s : State) : Bool :=
  !s.answerQ.isEmpty || !s.refusalQ.isEmpty

/-- ANSWER_ARBITER_GRANT: a request after a run of 8 completions, else a completion, else a request, else no
grant; no grant while the D-port is DOWN (R171). -/
def execAnswerArbiterGrant (s : State) : Host.Outcome State Fault Refusal :=
  .next
    (if s.dUp = false then s
    else if decide (Config.runLimit ≤ s.runCount) && deviceRequestWaits s && !s.dHoldReq then
      grantDeviceRequest s
    else if deviceCompletionWaits s && !s.dHoldCpl then s |> raiseRun |> grantDeviceCompletion
    else if deviceRequestWaits s && !s.dHoldReq then grantDeviceRequest s
    else s)

/-! ## Pass-through refusals -/

/-- PASS_THROUGH_REFUSAL: with the refusal count above 0 and room in the reply-refusal queue, the head of
the down pass-through queue becomes an ERROR reply refusal and the refusal count falls by 1 (R173). -/
def execPassThroughRefusal (s : State) : Host.Outcome State Fault Refusal :=
  .next
    (match s.downQ with
    | [] => s
    | p :: rest =>
      if 0 < s.refusalCount ∧ s.replyRefusals.length < Config.replyRefusalCapacity then
        { s with
          downQ := rest
          refusalCount := s.refusalCount - 1
          replyRefusals :=
            s.replyRefusals ++ [{ source := headerSource p.h0, tag := headerTag p.h0, status := .error }] }
      else s)

end Sys2Proof.Machine
end

