-- ==== Sys2Proof/Machine/Intake.lean ====
section
/-! DEFINITION. Intake: the taking of a device request, its refusal or its acceptance (spec/03, R43 to R50). -/

namespace Sys2Proof.Machine

/-- The REFUSED counter of the requester that a source names, if it names one (R47). -/
def bumpRefused (src : Source) (s : State) : State :=
  match sourceReq src with
  | none => s
  | some r => bump (refused r) s

/-- A refusal: it joins the tail of the refusal queue with the request's source and tag, INTAKE_REFUSALS
counts, and REFUSED counts for a source below 16 (R47, R45). -/
def refuseRequest (p : ReqPacket) (st : Status) (s : State) : State :=
  { s with
    refusalQ := s.refusalQ ++ [{ source := headerSource p.h0, tag := headerTag p.h0, status := st }] }
    |> bump intakeRefusals
    |> bumpRefused (headerSource p.h0)

/-- The MALFORMED_REQUEST record (R45). -/
def malformedRecord (p : ReqPacket) (detail : Nat) : FaultRecord where
  kind := .malformedRequest
  detail := detail
  requester := sourceReq (headerSource p.h0)
  reqTag := (sourceReq (headerSource p.h0)).map fun _ => headerTag p.h0
  dAddr := if detail > 5 then some (requestDAddr p) else none

/-- A record of intake that names a requester, the request's tag and its address
(R44, R46, R5, R131). -/
def intakeRecord (kind : FaultKind) (r : ReqId) (p : ReqPacket) (w : Option WinId) : FaultRecord where
  kind := kind
  requester := some r
  reqTag := some (headerTag p.h0)
  window := w
  dAddr := some (requestDAddr p)

/-- The fields an accepted request writes into its entry; it is translated at once (R49). -/
def acceptedEntry (r : ReqId) (p : ReqPacket) (w : WinId) (s : State) : Entry where
  state := .translating
  requester := r
  reqTag := headerTag p.h0
  kind := requestKind p
  length := headerLength p.h0
  dAddr := requestDAddr p
  window := w
  page := pageOf s.windows[w] (requestDAddr p)
  payload := if requestKind p = .write then p.body else []
  acceptTick := s.now

/-- Acceptance into entry `i` of a request whose match is window `w`: the fields are written, the
outstanding count rises, ACCEPTED counts, and the entry is translated (R49, R50). -/
def acceptRequest (i : EntryId) (r : ReqId) (p : ReqPacket) (w : WinId) (s : State) : State :=
  s |> setEntry i (acceptedEntry r p w s)
    |> setContext r { s.contexts[r] with outstanding := (s.contexts[r]).outstanding + 1 }
    |> bump (accepted r)
    |> translateIn missEntry i w

/-- Checks 3 to 10 of R44 for a well-formed request of requester `r`, with entry `i` the lowest-numbered
FREE one. -/
def admitRequest (i : EntryId) (r : ReqId) (p : ReqPacket) (s : State) : State :=
  let c := s.contexts[r]
  if c.state = .off ∨ c.state = .stopped then refuseRequest p .denied s
  else if c.state = .draining then refuseRequest p .retry s
  else if tagInUse s r (headerTag p.h0) then
    s |> refuseRequest p .malformed |> offerRecord (intakeRecord .duplicateTag r p none)
  else if c.limit ≤ c.outstanding then refuseRequest p .retry s
  else
    match matchWindow s r (requestDAddr p) with
    | none =>
      s |> refuseRequest p .denied |> offerRecord (intakeRecord .noWindow r p none)
        |> applyStop .noWindow r
    | some w =>
      if (s.windows[w]).state = .retiring then refuseRequest p .unmapped s
      else if (s.windows[w]).rights.permits (requestKind p) then acceptRequest i r p w s
      else
        s |> refuseRequest p .denied |> offerRecord (intakeRecord .rights r p (some w))
          |> applyStop .rights r

/-- The checks of R44 in order, with entry `i` the lowest-numbered FREE one. -/
def checkRequest (i : EntryId) (p : ReqPacket) (s : State) : State :=
  if s.uUp = false then refuseRequest p .abort s
  else
    match malformedDetail p, sourceReq (headerSource p.h0) with
    | none, some r => admitRequest i r p s
    | some d, _ => s |> refuseRequest p .malformed |> offerRecord (malformedRecord p d)
    | none, none => s |> refuseRequest p .malformed |> offerRecord (malformedRecord p 1)

/-- INTAKE_TAKE_REQUEST: the head of the D-port request ingress is taken when an entry is FREE and the
refusal queue has room; until then it waits (R43). -/
def execIntakeTakeRequest (s : State) : Host.Outcome State Fault Refusal :=
  .next
    (match s.dReqIn, lowestFreeEntry s with
    | p :: rest, some i =>
      if s.refusalQ.length < Config.refusalCapacity then
        conclude s (checkRequest i p { s with dReqIn := rest })
      else s
    | [], _ => s
    | _ :: _, none => s)

end Sys2Proof.Machine
end

