-- ==== Sys2Proof/Machine/Links.lean ====
section
/-! DEFINITION. Reset, link events, hold lines and arrivals (spec/10; R19, R41, R59 to R63, R77, R78, R99,
R127, R128, R146, R162, R163 for what the other blocks do at those events). -/

namespace Sys2Proof.Machine

/-! ## POWER_ON (R177) -/

/-- POWER_ON: every block takes its power-on values and the straps are sampled (R177, R147). The queue of
commands is the model's own and stays. -/
def execPowerOn (aps : BitVec 3) (s : State) : Host.Outcome State Fault Refusal :=
  .next { State.powerOn aps with pending := s.pending }

/-! ## The loss of the U-port (R174) -/

/-- The entries that the sweep moves to ANSWERING, in ascending order of index (R61). -/
def sweptEntries (s : State) : List EntryId :=
  (List.finRange 64).filter fun i => (s.entries[i]).state.inFlight

/-- One entry under the sweep of the U-port's loss (R61, R54). -/
def sweepEntry (e : Entry) : Entry :=
  match e.state with
  | .free => e
  | .abandoned => {}
  | .answering => { e with upstreamOpen := false }
  | .translating | .queued | .issued | .retryWait =>
    { e with
      state := .answering
      hostAddr := none
      payload := []
      releaseTick := none
      marks := noMarks
      answer := some { status := .abort }
      upstreamOpen := false }

/-- The UPSTREAM_RESET record of the sweep (R62). -/
def resetRecord (s : State) : FaultRecord where
  kind := .upstreamReset
  detail := min (sweptEntries s).length Config.sweptLimit

/-- What every block does when the U-port is lost, by a link loss or a reset message: R174's list. The
link state itself is the caller's. -/
def loseUpstream (s : State) : State :=
  { s with
    uHoldReq := false
    uHoldCpl := false
    uReqIn := []
    uCplIn := []
    uTx := none
    downQ := []
    refusalCount := 0
    runCount := 0
    dCplIn := []
    rotation := 0
    cplTurn := .management
    ownList := []
    cache := []
    walks := Vector.replicate 4 {}
    backlog := []
    entries := Vector.ofFn fun i : Fin 64 => sweepEntry s.entries[i]
    issueQ := []
    answerQ := s.answerQ ++ sweptEntries s
    contexts := Vector.ofFn fun r : Fin 16 => { s.contexts[r] with quiesce := none }
    fences := Vector.replicate 4 {}
    windows := Vector.ofFn fun w : Fin 24 =>
      if (s.windows[w]).state = .retiring then { s.windows[w] with state := .free } else s.windows[w]
    mgmt := Vector.replicate 8 {}
    mgmtOrder := []
    headWaiting := false
    replyOrder := []
    replyRefusals := []
    alertSlot := {}
    alertArmed := true }
    |> offerRecord (resetRecord s)

/-- U_PORT_DOWN (R174). With the U-port already DOWN there is no link to lose. -/
def execUPortDown (s : State) : Host.Outcome State Fault Refusal :=
  .next (if s.uUp then { loseUpstream s with uUp := false } else s)

/-- U_PORT_UP: the link state becomes UP and the alert trigger is evaluated (R174, R141). -/
def execUPortUp (s : State) : Host.Outcome State Fault Refusal :=
  .next (if s.uUp then s else evalTrigger { s with uUp := true })

/-- RESET_MESSAGE: a loss of the U-port and its return, the link state UP throughout; the trigger is
evaluated at the return. It is not received while the U-port is DOWN (R175). -/
def execResetMessage (s : State) : Host.Outcome State Fault Refusal :=
  .next (if s.uUp then evalTrigger (loseUpstream s) else s)

/-! ## The loss of the D-port (R176) -/

/-- One entry under the loss of the D-port at tick `now` (R59). -/
def loseEntry (now : Tick) (e : Entry) : Entry :=
  match e.state with
  | .free => e
  | .abandoned => e
  | .translating | .queued | .retryWait => {}
  | .issued => { e with state := .abandoned, abandonTick := some now, payload := [] }
  | .answering =>
    if e.upstreamOpen then
      { e with state := .abandoned, abandonTick := some now, answer := none, upstreamOpen := false }
    else {}

/-- How many marks of fence slot `k` the loss of the D-port removes: those of QUEUED and RETRY_WAIT
entries (R59, R127). -/
def marksLost (k : FenceId) (s : State) : Nat :=
  (List.finRange 64).countP fun i =>
    (s.entries[i]).marks[k]
      && (decide ((s.entries[i]).state = .queued) || decide ((s.entries[i]).state = .retryWait))

/-- Every drain ends, in ascending order of requester id (R78). -/
def endDrains (s : State) : State :=
  (List.finRange 16).foldl (fun t r => if (t.contexts[r]).state = .draining then endDrain r t else t) s

/-- What the D-port and the Transaction Table do at the loss, before fences and drains end
(R59, R60, R171, R173, R176, R78). -/
def loseDownstream (s : State) : State :=
  { s with
    dUp := false
    dHoldReq := false
    dHoldCpl := false
    dTx := none
    dReqIn := []
    refusalQ := []
    answerQ := []
    issueQ := []
    backlog := []
    walks := Vector.ofFn fun k : Fin 4 => { s.walks[k] with waiters := [] }
    answerTurn := .refusal
    runCount := 0
    refusalCount := s.downQ.length
    entries := Vector.ofFn fun i : Fin 64 => loseEntry s.now s.entries[i]
    contexts := Vector.ofFn fun r : Fin 16 => { s.contexts[r] with outstanding := 0 }
    fences := Vector.ofFn fun k : Fin 4 =>
      { s.fences[k] with remaining := (s.fences[k]).remaining - marksLost k s } }

/-- D_PORT_DOWN: the loss, then the fences that end at it, then the drains that end at it
(R176, R127, R78). -/
def execDPortDown (s : State) : Host.Outcome State Fault Refusal :=
  .next (if s.dUp then loseDownstream s |> endFences s |> endDrains else s)

/-- D_PORT_UP: the link state becomes UP (R176). -/
def execDPortUp (s : State) : Host.Outcome State Fault Refusal :=
  .next { s with dUp := true }

/-! ## Hold lines (R167) -/

/-- HOLD_LINE_CHANGE: the line as received takes the partner's value; a DOWN port receives nothing and its
lines stay off (R167, R174, R176). -/
def execHoldLineChange (port : Port) (cls : PktClass) (on : Bool) (s : State) :
    Host.Outcome State Fault Refusal :=
  .next
    (match port, cls with
    | .upstream, .request => if s.uUp then { s with uHoldReq := on } else s
    | .upstream, .completion => if s.uUp then { s with uHoldCpl := on } else s
    | .downstream, .request => if s.dUp then { s with dHoldReq := on } else s
    | .downstream, .completion => if s.dUp then { s with dHoldCpl := on } else s)

/-! ## Arrivals (R168 to R170) -/

/-- A packet joins the tail of an ingress, or is discarded if the ingress holds 16 (R168). -/
def joinIngress {α : Type} (q : List α) (p : α) : List α :=
  if q.length < Config.ingressCapacity then q ++ [p] else q

/-- DEVICE_REQUEST_ARRIVAL (R170, R168). While the D-port is DOWN nothing is received on it (R176). -/
def execDeviceRequestArrival (p : ReqPacket) (s : State) : Host.Outcome State Fault Refusal :=
  .next (if s.dUp then { s with dReqIn := joinIngress s.dReqIn p } else s)

/-- DEVICE_COMPLETION_ARRIVAL: discarded on arrival while the U-port is DOWN (R170, R168, R176). -/
def execDeviceCompletionArrival (p : CplPacket) (s : State) : Host.Outcome State Fault Refusal :=
  .next (if s.dUp ∧ s.uUp then { s with dCplIn := joinIngress s.dCplIn p } else s)

/-- HOST_REQUEST_ARRIVAL (R169, R168). While the U-port is DOWN nothing is received on it (R174). -/
def execHostRequestArrival (p : ReqPacket) (s : State) : Host.Outcome State Fault Refusal :=
  .next (if s.uUp then { s with uReqIn := joinIngress s.uReqIn p } else s)

/-- HOST_COMPLETION_ARRIVAL (R169, R168, R174). -/
def execHostCompletionArrival (p : CplPacket) (s : State) : Host.Outcome State Fault Refusal :=
  .next (if s.uUp then { s with uCplIn := joinIngress s.uCplIn p } else s)

end Sys2Proof.Machine
end

