-- ==== Sys2Proof/Machine/Management.lean ====
section
/-! DEFINITION. The management decode (R147 to R149, R153) and the commands (R15, R16, R67 to R70, R103, R114
to R116, R134, R137, R139, R140, R150, R155, R156, R158). Each command is the execution of the head of the
management order, from the payload its slot holds. -/

namespace Sys2Proof.Machine

/-! ## MANAGEMENT_DECODE (R148) -/

/-- The offset of an address in the aperture, when it lies in it (R147). -/
def apertureOffset (s : State) (addr : HAddr) : Option Nat :=
  if s.apertureBase.toNat ≤ addr.toNat ∧ addr.toNat < s.apertureBase.toNat + Config.apertureBytes then
    some (addr.toNat - s.apertureBase.toNat)
  else none

/-- A host request takes a management slot, which becomes QUEUED at the tail of the management order
(R148, R151). -/
def takeSlot (m : MgmtId) (op : MgmtOp) (p : ReqPacket) (s : State) : State :=
  { s with
    mgmt :=
      s.mgmt.set m
        { state := .queued
          source := headerSource p.h0
          tag := headerTag p.h0
          op := some op
          payload := if requestKind p = .write then p.body else []
          reply := [] }
    mgmtOrder := s.mgmtOrder ++ [m] }

/-- A reply refusal of a host request joins the reply-refusal queue (R153, R154). -/
def refuseHost (p : ReqPacket) (st : Status) (s : State) : State :=
  { s with
    replyRefusals := s.replyRefusals ++ [{ source := headerSource p.h0, tag := headerTag p.h0, status := st }] }

/-- The taking of the head `p` of the U-port request ingress by the outcome the state gives it; `none` while
that outcome lacks room (R148). -/
def decodeHost (p : ReqPacket) (s : State) : Option State :=
  let roomToRefuse := decide (s.replyRefusals.length < Config.replyRefusalCapacity)
  match apertureOffset s (requestAddress p) with
  | some off =>
    match namedOp off p with
    | some op =>
      match lowestFreeMgmt s with
      | some m => some (takeSlot m op p s)
      | none => if roomToRefuse then some (refuseHost p .retry s) else none
    | none => if roomToRefuse then some (refuseHost p .error s) else none
  | none =>
    if s.dUp then
      if s.downQ.length < Config.downCapacity then some { s with downQ := s.downQ ++ [p] } else none
    else if roomToRefuse then some (refuseHost p .error s)
    else none

/-- MANAGEMENT_DECODE: the head of the U-port request ingress is taken when its outcome finds room; until
then it waits (R148). -/
def execManagementDecode (s : State) : Host.Outcome State Fault Refusal :=
  .next
    (match s.uReqIn with
    | [] => s
    | p :: rest => (decodeHost p { s with uReqIn := rest }).getD s)

/-! ## LOAD_WINDOW (R15, R16) -/

/-- Check 3 of R15: the fields of the new window, those of the other mode left out. -/
def loadFieldsGood (f : LoadFields) : Bool :=
  let size := 2 ^ f.sizeExp
  f.reqSet != 0
    && decide (20 ≤ f.sizeExp) && decide (f.sizeExp ≤ 36)
    && decide (f.base.toNat % size = 0)
    && decide (f.base.toNat + size ≤ 2 ^ 48)
    && !f.rights.isEmpty
    && (match f.mode with
      | none => false
      | some .mapped =>
        decide (f.mapRoot.toNat % 0x1000 = 0)
          && decide (f.mapRoot.toNat + 2 ^ (f.sizeExp - 14) * 8 ≤ 2 ^ 50)
          && f.checkMode.isSome
      | some .direct =>
        decide (f.hostBase.toNat % Config.pageBytes = 0) && decide (f.hostBase.toNat + size ≤ 2 ^ 50))

/-- The record that LOAD_WINDOW writes: the named fields, those of the other mode zero, VALID (R16). -/
def loadedWindow (f : LoadFields) : Window where
  state := .valid
  reqSet := f.reqSet
  base := f.base
  sizeExp := f.sizeExp
  mode := f.mode
  rights := f.rights
  mapRoot := if f.mode = some .mapped then f.mapRoot else 0
  hostBase := if f.mode = some .direct then f.hostBase else 0
  checkMode := if f.mode = some .mapped then f.checkMode.getD .off else .off

/-- The lowest-numbered VALID or RETIRING window that overlaps the new one and shares a requester with it
(R15, check 4; R4). -/
def conflictingWindow (s : State) (x : Window) : Option WinId :=
  (List.finRange 24).find? fun w =>
    decide ((s.windows[w]).state ≠ .free) && (s.windows[w]).overlaps x && (s.windows[w]).shares x

/-- The body of LOAD_WINDOW: the checks of R15 in order, then the record (R16). -/
def runLoadWindow (m : MgmtId) (ws : List Word) (s : State) : State :=
  let f := loadFields ws
  match asFin 24 f.index with
  | none => resultHead m .badArgument s
  | some w =>
    if (s.windows[w]).state ≠ .free then resultHead m .badState s
    else if !loadFieldsGood f then resultHead m .badArgument s
    else
      match conflictingWindow s (loadedWindow f) with
      | some v => resultHead m (.overlap v) s
      | none => s |> setWindow w (loadedWindow f) |> resultHead m .done

/-- LOAD_WINDOW (R15, R16). -/
def execLoadWindow (s : State) : Host.Outcome State Fault Refusal :=
  .next (whenHead .loadWindow runLoadWindow s)

/-! ## INVALIDATE and RETIRE_WINDOW (R114 to R116, R156) -/

/-- The checks of INVALIDATE in order: the failed check's result, or the scope (R114, R181). -/
def checkInvalidate (ws : List Word) (s : State) : Except Result Scope :=
  let code := field (payloadWord ws 0) 0 2
  let index := field (payloadWord ws 0) 8 5
  let first := field (payloadWord ws 1) 0 22
  let count := field (payloadWord ws 1) 32 13
  if code = 3 then .error .badArgument
  else if code = 0 then .ok .all
  else
    match asFin 24 index with
    | none => .error .badArgument
    | some w =>
      if (s.windows[w]).state = .free then .error .badState
      else if code = 1 then .ok (.window w)
      else if count < 1 ∨ count > 4096 then .error .badArgument
      else if first + count > (s.windows[w]).pages then .error .badArgument
      else .ok (.pages w first count)

/-- The checks of RETIRE_WINDOW in order: the failed check's result, or the scope (R115). -/
def checkRetire (ws : List Word) (s : State) : Except Result Scope :=
  match asFin 24 (indexField ws) with
  | none => .error .badArgument
  | some w =>
    match (s.windows[w]).state with
    | .free => .error .badState
    | .retiring => .error .badState
    | .valid => .ok (.window w)

/-- A fence command at the head whose checks gave `c`: it completes with the failed check's result, starts
its fence in the lowest-numbered FREE slot, or waits at the head for a fence slot (R116, R156). -/
def runFenceCommand (cmd : FenceCommand) (m : MgmtId) (c : Except Result Scope) (s : State) : State :=
  match c with
  | .error r => resultHead m r s
  | .ok scope =>
    match lowestFreeFence s with
    | none => { s with headWaiting := true }
    | some k => startFence k cmd scope m s

/-- RETIRE_WINDOW (R115, R116). -/
def execRetireWindow (s : State) : Host.Outcome State Fault Refusal :=
  .next (whenHead .retireWindow (fun m ws t => runFenceCommand .retireWindow m (checkRetire ws t) t) s)

/-- INVALIDATE (R114, R116). -/
def execInvalidate (s : State) : Host.Outcome State Fault Refusal :=
  .next (whenHead .invalidate (fun m ws t => runFenceCommand .invalidate m (checkInvalidate ws t) t) s)

/-- The resumption of the fence command that waits at the head (R116). -/
def resumeFence (m : MgmtId) (s : State) : State :=
  let ws := (s.mgmt[m]).payload
  match (s.mgmt[m]).op with
  | some .retireWindow => runFenceCommand .retireWindow m (checkRetire ws s) s
  | some .invalidate => runFenceCommand .invalidate m (checkInvalidate ws s) s
  | _ => s

/-- FENCE_COMMAND_RESUMPTION: the command that waits at the head is resumed once a fence slot has become
FREE, its checks made again in full (R116). -/
def execFenceCommandResumption (s : State) : Host.Outcome State Fault Refusal :=
  .next
    (if s.headWaiting ∧ (lowestFreeFence s).isSome then
      match s.mgmtOrder with
      | [] => s
      | m :: _ => resumeFence m s
    else s)

/-! ## Requester commands (R67 to R70) -/

/-- Check 3 of R67 and, when it passes, the new context: the six settings, everything else kept. -/
def configuredContext (f : ConfigureFields) (c : Context) : Option Context :=
  match f.exhaustion, f.faultPolicy with
  | some ex, some fp =>
    if f.limit = 0 ∨ f.limit > 32 ∨ f.timeout = 0 ∨ f.retryLimit > 15 ∨ f.backoffBase > 15 then none
    else
      some
        { c with
          limit := f.limit
          timeout := f.timeout
          retryLimit := f.retryLimit
          backoffBase := f.backoffBase
          exhaustion := ex
          faultPolicy := fp }
  | _, _ => none

/-- The body of CONFIGURE_REQUESTER (R67). -/
def runConfigureRequester (m : MgmtId) (ws : List Word) (s : State) : State :=
  let f := configureFields ws
  match asFin 16 f.requester with
  | none => resultHead m .badArgument s
  | some r =>
    if (s.contexts[r]).state ≠ .off then resultHead m .badState s
    else
      match configuredContext f s.contexts[r] with
      | none => resultHead m .badArgument s
      | some c => s |> setContext r c |> resultHead m .done

/-- CONFIGURE_REQUESTER (R67). -/
def execConfigureRequester (s : State) : Host.Outcome State Fault Refusal :=
  .next (whenHead .configureRequester runConfigureRequester s)

/-- A context becomes ACTIVE and its stop cause is cleared, from the one state the command takes it from;
from any other state the result is BAD_STATE (R68, R69). -/
def runActivate (source : CtxState) (m : MgmtId) (ws : List Word) (s : State) : State :=
  match asFin 16 (indexField ws) with
  | none => resultHead m .badArgument s
  | some r =>
    if (s.contexts[r]).state = source then
      s |> setContext r { s.contexts[r] with state := .active, stopCause := none } |> resultHead m .done
    else resultHead m .badState s

/-- ENABLE_REQUESTER: OFF becomes ACTIVE (R68). -/
def execEnableRequester (s : State) : Host.Outcome State Fault Refusal :=
  .next (whenHead .enableRequester (runActivate .off) s)

/-- RESUME_REQUESTER: STOPPED becomes ACTIVE (R69). -/
def execResumeRequester (s : State) : Host.Outcome State Fault Refusal :=
  .next (whenHead .resumeRequester (runActivate .stopped) s)

/-- The body of QUIESCE_REQUESTER (R70). -/
def runQuiesce (m : MgmtId) (ws : List Word) (s : State) : State :=
  match asFin 16 (indexField ws) with
  | none => resultHead m .badArgument s
  | some r =>
    let c := s.contexts[r]
    match c.state with
    | .off => resultHead m .done s
    | .draining => resultHead m .badState s
    | .active | .stopped =>
      if c.outstanding = 0 then
        s |> setContext r { c with state := .off } |> resultHead m .done
      else
        s |> popOrder
          |> setContext r { c with state := .draining, quiesce := some m }
          |> setMgmt m { s.mgmt[m] with state := .running, payload := [] }

/-- QUIESCE_REQUESTER (R70, R156). -/
def execQuiesceRequester (s : State) : Host.Outcome State Fault Refusal :=
  .next (whenHead .quiesceRequester runQuiesce s)

/-! ## Bridge-wide settings (R103, R158, R139, R140, R150) -/

/-- The five values pass SET_TIMING's checks (R103). -/
def timingGood (t : Timing) : Bool :=
  decide (t.periodCode ≤ 4) && decide (t.walkTimeout ≠ 0) && decide (t.reclaimTime ≠ 0)
    && decide (t.walkRetryLimit ≤ 15) && decide (t.walkBackoffBase ≤ 15)

/-- SET_TIMING (R103). -/
def execSetTiming (s : State) : Host.Outcome State Fault Refusal :=
  .next
    (whenHead .setTiming
      (fun m ws t =>
        if timingGood (timingFields ws) then { t with timing := timingFields ws } |> resultHead m .done
        else resultHead m .badArgument t)
      s)

/-- SET_ARBITER (R158). -/
def execSetArbiter (s : State) : Host.Outcome State Fault Refusal :=
  .next
    (whenHead .setArbiter
      (fun m ws t =>
        let n := field (payloadWord ws 0) 0 4
        if n = 0 ∨ n > 8 then resultHead m .badArgument t
        else { t with guarantee := n } |> resultHead m .done)
      s)

/-- The body of SET_ALERT: a passing command writes the address and the enable value, and the trigger is
evaluated as part of the same execution (R139). -/
def runSetAlert (m : MgmtId) (ws : List Word) (s : State) : State :=
  let addr := payloadWord ws 0
  match enableOfCode (field (payloadWord ws 1) 0 2) with
  | none => resultHead m .badArgument s
  | some en =>
    if addr.toNat % 8 ≠ 0 ∨ addr.toNat + 16 > 2 ^ 50 then resultHead m .badArgument s
    else
      { s with alertAddress := addr.setWidth 50, alertEnabled := en } |> resultHead m .done |> evalTrigger

/-- SET_ALERT (R139). -/
def execSetAlert (s : State) : Host.Outcome State Fault Refusal :=
  .next (whenHead .setAlert runSetAlert s)

/-- ACK_ALERT: armed is set and the trigger is evaluated (R140). -/
def execAckAlert (s : State) : Host.Outcome State Fault Refusal :=
  .next
    (whenHead .ackAlert (fun m _ t => { t with alertArmed := true } |> resultHead m .done |> evalTrigger) s)

/-- Every counter of a group becomes 0 (R137). -/
def clearGroup (g : Fin 18) (s : State) : State :=
  if g.val = 0 then { s with translationCtrs := Vector.replicate 7 0 }
  else if g.val = 1 then { s with transactionCtrs := Vector.replicate 8 0 }
  else
    { s with
      requesterCtrs :=
        s.requesterCtrs.set (g.val - 2) (Vector.replicate 4 0) (by have := g.isLt; omega) }

/-- Every counter of every group becomes 0 (R137). -/
def clearAllGroups (s : State) : State :=
  { s with
    translationCtrs := Vector.replicate 7 0
    transactionCtrs := Vector.replicate 8 0
    requesterCtrs := Vector.replicate 16 (Vector.replicate 4 0) }

/-- CLEAR_COUNTERS: bit 8 names every group, else the group field names one (R137, R181). -/
def execClearCounters (s : State) : Host.Outcome State Fault Refusal :=
  .next
    (whenHead .clearCounters
      (fun m ws t =>
        if (payloadWord ws 0).getLsbD 8 then t |> clearAllGroups |> resultHead m .done
        else
          match asFin 18 (indexField ws) with
          | none => resultHead m .badArgument t
          | some g => t |> clearGroup g |> resultHead m .done)
      s)

/-- CLEAR_FAULTS: the fault queue is emptied, the lost count becomes 0 and overflow-pending is cleared
(R134). -/
def execClearFaults (s : State) : Host.Outcome State Fault Refusal :=
  .next
    (whenHead .clearFaults
      (fun m _ t => { t with faults := [], lost := 0, overflowPending := false } |> resultHead m .done) s)

/-- MOVE_APERTURE: a new base that is a multiple of 64 KiB below 2^50 (R150). -/
def execMoveAperture (s : State) : Host.Outcome State Fault Refusal :=
  .next
    (whenHead .moveAperture
      (fun m ws t =>
        let base := payloadWord ws 0
        if base.toNat % Config.apertureBytes ≠ 0 ∨ base.toNat ≥ 2 ^ 50 then resultHead m .badArgument t
        else { t with apertureBase := base.setWidth 50 } |> resultHead m .done)
      s)

end Sys2Proof.Machine
end

