-- ==== Sys2Proof/Machine/Matching.lean ====
section
/-! DEFINITION. Completion matching: what a completion from the host does at the owner its tag names
(R31, R88, R92 to R97, R143). -/

namespace Sys2Proof.Machine

/-- The owner that a completion's source and tag name (R93). -/
inductive Owner where
  | entry (i : EntryId)
  | walk (k : WalkId)
  | alert
  | nobody
  deriving DecidableEq, Repr

/-- Dispatch by source and tag (R93). -/
def ownerOf (src : Source) (tag : Tag) : Owner :=
  if src ≠ bridgeSource then .nobody
  else if h : tag.toNat < 64 then .entry ⟨tag.toNat, h⟩
  else if h : tag.toNat - 64 < 4 then .walk ⟨tag.toNat - 64, h⟩
  else if tag.toNat = 68 then .alert
  else .nobody

/-- The STRAY_COMPLETION record for what the tag names (R97). -/
def strayRecord (o : Owner) (s : State) : FaultRecord :=
  match o with
  | .entry i =>
    if (s.entries[i]).state = .free then { kind := .strayCompletion }
    else entryRecord .strayCompletion 0 s.entries[i]
  | .walk k =>
    if (s.walks[k]).state = .free then { kind := .strayCompletion }
    else
      { kind := .strayCompletion, window := some (s.walks[k]).window, hostAddr := some (s.walks[k]).mapAddr }
  | .alert =>
    if s.alertSlot.state = .free then { kind := .strayCompletion }
    else { kind := .strayCompletion, hostAddr := some s.alertSlot.address }
  | .nobody => { kind := .strayCompletion }

/-- A stray completion is discarded: STRAY_COMPLETIONS counts and one record is made (R97). -/
def strayCompletion (o : Owner) (s : State) : State :=
  s |> bump strayCompletions |> offerRecord (strayRecord o s)

/-- A late completion at an ABANDONED entry (R96). -/
def lateEntry (i : EntryId) (s : State) : State :=
  s |> bump lateCompletions
    |> offerRecord (entryRecord .lateCompletion 0 s.entries[i])
    |> freeEntry i

/-- The request of an ISSUED entry ends in error; the detail is 1 STATUS or 2 LENGTH (R95, R131). -/
def errorEntry (detail : Nat) (i : EntryId) (s : State) : State :=
  s |> bump upstreamErrors
    |> offerRecord (entryRecord .upstreamError detail s.entries[i])
    |> answerWith i .abort

/-- The data an OK completion must carry: a READ exactly its length in words, a WRITE none (R94). -/
def okLength (e : Entry) : Nat :=
  match e.kind with
  | .read => e.length
  | .write => 0

/-- An OK completion at an ISSUED entry (R94). -/
def okEntry (i : EntryId) (data : List Word) (s : State) : State :=
  if data.length = okLength s.entries[i] then answerEntry i { status := .ok, data := data } false s
  else errorEntry 2 i s

/-- A RETRY at an ISSUED entry: below the limit it backs off, or is released at once when the backoff is 0;
at the limit its retries are exhausted (R88, R92). -/
def retryEntry (i : EntryId) (s : State) : State :=
  let e := s.entries[i]
  let ctx := s.contexts[e.requester]
  let s1 := bump retriesReceived s
  if e.retryCount < ctx.retryLimit then
    let c := e.retryCount + 1
    let d := backoff ctx.backoffBase c
    let s2 :=
      setEntry i
        { e with state := .retryWait, retryCount := c, releaseTick := some (s.now + BitVec.ofNat 32 d) } s1
    if d = 0 then releaseEntry i s2 else s2
  else
    s1 |> offerRecord (entryRecord .retryExhausted (exhaustCode ctx.exhaustion) e)
       |> answerEntry i (exhaustAnswer ctx.exhaustion e) false

/-- A completion at an entry, by the entry's state and the completion's status (R93). -/
def matchEntry (i : EntryId) (p : CplPacket) (s : State) : State :=
  match (s.entries[i]).state with
  | .issued =>
    match hostStatus (headerStatus p.h0) with
    | .ok => okEntry i p.body s
    | .retry => retryEntry i s
    | _ => errorEntry 1 i s
  | .abandoned => lateEntry i s
  | .free | .translating | .queued | .retryWait | .answering => strayCompletion (.entry i) s

/-- The word of an ISSUED walk's completion: an OK with exactly one data word (R31). -/
def wordOf (p : CplPacket) : Option Word :=
  match p.body with
  | [w] => some w
  | _ => none

/-- A completion at a walk slot (R31). -/
def matchWalk (k : WalkId) (p : CplPacket) (s : State) : State :=
  match (s.walks[k]).state with
  | .issued =>
    match hostStatus (headerStatus p.h0), wordOf p with
    | .ok, some w => if (s.walks[k]).stale then finishStaleWalk k s else finishWalk k w s
    | .retry, _ => retryWalk k s
    | _, _ => failWalk 1 false k s
  | .abandoned => lateWalk k s
  | .free | .queued | .retryWait => strayCompletion (.walk k) s

/-- A completion at the alert slot (R143, R145). -/
def matchAlert (p : CplPacket) (s : State) : State :=
  match s.alertSlot.state with
  | .issued =>
    match hostStatus (headerStatus p.h0) with
    | .ok => if p.body = [] then freeAlert s else failAlert false s
    | .retry => retryAlert s
    | _ => failAlert false s
  | .abandoned => lateAlert s
  | .free | .queued | .retryWait => strayCompletion .alert s

/-- A completion is taken whole at the owner it names (R93). -/
def takeCompletion (p : CplPacket) (s : State) : State :=
  match ownerOf (headerSource p.h0) (headerTag p.h0) with
  | .entry i => matchEntry i p s
  | .walk k => matchWalk k p s
  | .alert => matchAlert p s
  | .nobody => strayCompletion .nobody s

/-- COMPLETION_MATCHING: the oldest completion of the U-port completion ingress is taken (R93). -/
def execCompletionMatching (s : State) : Host.Outcome State Fault Refusal :=
  .next
    (match s.uCplIn with
    | [] => s
    | p :: rest => conclude s (takeCompletion p { s with uCplIn := rest }))

end Sys2Proof.Machine
end

