-- ==== Sys2Proof/Machine/Queries.lean ====
section
/-! DEFINITION. The queries (R75, R111, R129, R133, R136, R155, R159 to R161, R182) and the storage upset of a
Map Cache entry (R22). Each query is the execution of the head of the management order; it changes no state
but its slot, except that FAULT removes the record it returns. -/

namespace Sys2Proof.Machine

/-- How many indexes below `n` have a property. -/
def countIdx (n : Nat) (p : Fin n → Bool) : Nat :=
  (List.finRange n).countP p

/-- The four words of STATUS (R159, R182). -/
def statusWords (s : State) : List Word :=
  [ packWord
      [ (0, countIdx 64 fun i => decide ((s.entries[i]).state = .free)),
        (8, s.backlog.length),
        (16, countIdx 4 fun k => decide ((s.walks[k]).state ≠ .free)),
        (20, countIdx 4 fun k => decide ((s.fences[k]).state = .waiting)),
        (24, s.faults.length),
        (32, s.lost),
        (40, flag s.overflowPending) ],
    packWord
      [ (0, flag s.alertEnabled),
        (1, flag s.alertArmed),
        (4, slotStateCode s.alertSlot.state),
        (8, flag s.dUp),
        (16, countIdx 8 fun m => decide ((s.mgmt[m]).state ≠ .free)) ],
    packWord [(0, s.apertureBase.toNat)],
    0 ]

/-- STATUS (R159). -/
def execStatus (s : State) : Host.Outcome State Fault Refusal :=
  .next (whenHead .status (fun m _ t => completeHead m (statusWords t) t) s)

/-- Execute the head if it is a query that `words` answers; the words are read from the state as it stands
at execution (R155). -/
def answerQuery (words : MgmtOp → Option (List Word)) (s : State) : State :=
  match executable s with
  | none => s
  | some (m, op) =>
    match words op with
    | none => s
    | some ws => completeHead m ws s

/-- WINDOW(i) (R160). -/
def execWindow (s : State) : Host.Outcome State Fault Refusal :=
  .next
    (answerQuery
      (fun op =>
        match op with
        | .window i => some (windowWords i s.windows[i])
        | _ => none)
      s)

/-- REQUESTER(r) (R75). -/
def execRequester (s : State) : Host.Outcome State Fault Refusal :=
  .next
    (answerQuery
      (fun op =>
        match op with
        | .requester r => some (requesterWords r s.contexts[r])
        | _ => none)
      s)

/-- The words of a counter group, one counter a word, in the order of the group table (R136, R182). -/
def groupWords (g : Fin 18) (s : State) : List Word :=
  if g.val = 0 then s.translationCtrs.toList.map (BitVec.setWidth 64)
  else if g.val = 1 then s.transactionCtrs.toList.map (BitVec.setWidth 64)
  else (s.requesterCtrs[g.val - 2]'(by have := g.isLt; omega)).toList.map (BitVec.setWidth 64)

/-- COUNTERS(g) (R136). -/
def execCounters (s : State) : Host.Outcome State Fault Refusal :=
  .next
    (answerQuery
      (fun op =>
        match op with
        | .counters g => some (groupWords g s)
        | _ => none)
      s)

/-- The four words of a NONE record: all 0 (R133, R182). -/
def noneWords : List Word :=
  [0, 0, 0, 0]

/-- FAULT: the oldest record is removed and returned; a NONE record on an empty queue (R133). -/
def execFault (s : State) : Host.Outcome State Fault Refusal :=
  .next
    (whenHead .fault
      (fun m _ t =>
        match t.faults with
        | [] => completeHead m noneWords t
        | r :: rest => completeHead m (recordWords r) { t with faults := rest })
      s)

/-- TIME: the tick counter and the tick-period code in force (R111, R182; log entry 6). -/
def execTime (s : State) : Host.Outcome State Fault Refusal :=
  .next
    (whenHead .time
      (fun m _ t => completeHead m [packWord [(0, t.now.toNat), (32, t.tickTiming.periodCode)]] t) s)

/-- FENCES (R129). -/
def execFences (s : State) : Host.Outcome State Fault Refusal :=
  .next (whenHead .fences (fun m _ t => completeHead m [fencesWord t.fences] t) s)

/-- CACHE_STORAGE_UPSET: the internal check of the Map Cache entry for this window and page becomes bad while
the entry stays in its place (R22). -/
def execCacheStorageUpset (w : WinId) (page : Nat) (s : State) : Host.Outcome State Fault Refusal :=
  .next { s with cache := s.cache.map fun c => if cacheKey w page c then { c with upset := true } else c }

end Sys2Proof.Machine
end

