-- ==== Sys2Proof/Machine/Timers.lean ====
section
/-! DEFINITION. The tick and the timers that run out at it (spec/06, R36, R38, R39, R89, R100 to R108, R145).

Each block takes a tick as ONE happening, going through what it owns in ascending order (R38, R102). The rows
of the opcode table name the timers that run out; a row whose timer has run out is its block's taking of the
tick, and a row whose timer has not run out, or whose block has taken the tick, does not come about
(log entries 4 and 5). -/

namespace Sys2Proof.Machine

/-- The counter advances by 1 modulo 2^32, the settings written since the last tick take effect, and the
three blocks have this tick to take (R100, R101, R102, R103). -/
def advanceTick (s : State) : State :=
  { s with
    now := s.now + 1
    tickTiming := s.timing
    tableDue := true
    walkDue := true
    alertDue := true }

/-- TICK: a block that has still to take the tick before this one takes it, and the counter advances
(R100, R102). -/
def execTick (s : State) : Host.Outcome State Fault Refusal :=
  .next (s |> finishTick |> advanceTick)

/-- REQUEST_AGE_EXPIRY of entry `e`: its age has reached its requester's timeout, and the Transaction Table
takes the tick (R104, R102). -/
def execRequestAgeExpiry (e : EntryId) (s : State) : Host.Outcome State Fault Refusal :=
  .next (if entryExpires s e then takeTableTick s else s)

/-- ENTRY_RELEASE of entry `e`: its release tick has come, and the Transaction Table takes the tick
(R89, R102). -/
def execEntryRelease (e : EntryId) (s : State) : Host.Outcome State Fault Refusal :=
  .next (if entryReleases s e then takeTableTick s else s)

/-- ENTRY_RECLAIM of entry `e`: its reclaim time has run out, and the Transaction Table takes the tick
(R108, R102). -/
def execEntryReclaim (e : EntryId) (s : State) : Host.Outcome State Fault Refusal :=
  .next (if entryReclaims s e then takeTableTick s else s)

/-- WALK_TIMEOUT of slot `k`: its age has reached the walk timeout, and the Walk Unit takes the tick
(R38, R102). -/
def execWalkTimeout (k : WalkId) (s : State) : Host.Outcome State Fault Refusal :=
  .next (if walkTimesOut s k then takeWalkTick s else s)

/-- WALK_RELEASE of slot `k`: its release tick has come, and the Walk Unit takes the tick (R36, R38). -/
def execWalkRelease (k : WalkId) (s : State) : Host.Outcome State Fault Refusal :=
  .next (if walkReleases s k then takeWalkTick s else s)

/-- WALK_RECLAIM of slot `k`: its reclaim time has run out, and the Walk Unit takes the tick (R39, R38). -/
def execWalkReclaim (k : WalkId) (s : State) : Host.Outcome State Fault Refusal :=
  .next (if walkReclaims s k then takeWalkTick s else s)

/-- ALERT_TIMEOUT: the alert slot's age has reached the walk timeout, and it takes the tick (R145). -/
def execAlertTimeout (s : State) : Host.Outcome State Fault Refusal :=
  .next (if alertTimesOut s then takeAlertTick s else s)

/-- ALERT_RELEASE: the alert slot's release tick has come, and it takes the tick (R144, R145). -/
def execAlertRelease (s : State) : Host.Outcome State Fault Refusal :=
  .next (if alertReleases s then takeAlertTick s else s)

/-- ALERT_RECLAIM: the alert slot's reclaim time has run out, and it takes the tick (R145). -/
def execAlertReclaim (s : State) : Host.Outcome State Fault Refusal :=
  .next (if alertReclaims s then takeAlertTick s else s)

end Sys2Proof.Machine
end

