-- ==== Sys2Proof/Machine/Dispatch.lean ====
section
/-! DEFINITION. One arm per command, each a direct call of its meaning. -/

namespace Sys2Proof.Machine

def exec (i : Instr) (s : State) : Host.Outcome State Fault Refusal :=
  match i with
  | .powerOn aps => Sys2Proof.Machine.execPowerOn aps s
  | .uPortDown => Sys2Proof.Machine.execUPortDown s
  | .uPortUp => Sys2Proof.Machine.execUPortUp s
  | .resetMessage => Sys2Proof.Machine.execResetMessage s
  | .dPortDown => Sys2Proof.Machine.execDPortDown s
  | .dPortUp => Sys2Proof.Machine.execDPortUp s
  | .holdLineChange port cls on => Sys2Proof.Machine.execHoldLineChange port cls on s
  | .deviceRequestArrival p => Sys2Proof.Machine.execDeviceRequestArrival p s
  | .deviceCompletionArrival p => Sys2Proof.Machine.execDeviceCompletionArrival p s
  | .hostRequestArrival p => Sys2Proof.Machine.execHostRequestArrival p s
  | .hostCompletionArrival p => Sys2Proof.Machine.execHostCompletionArrival p s
  | .intakeTakeRequest => Sys2Proof.Machine.execIntakeTakeRequest s
  | .issueArbiterGrant => Sys2Proof.Machine.execIssueArbiterGrant s
  | .answerArbiterGrant => Sys2Proof.Machine.execAnswerArbiterGrant s
  | .passThroughRefusal => Sys2Proof.Machine.execPassThroughRefusal s
  | .managementDecode => Sys2Proof.Machine.execManagementDecode s
  | .completionMatching => Sys2Proof.Machine.execCompletionMatching s
  | .tick => Sys2Proof.Machine.execTick s
  | .requestAgeExpiry e => Sys2Proof.Machine.execRequestAgeExpiry e s
  | .entryRelease e => Sys2Proof.Machine.execEntryRelease e s
  | .entryReclaim e => Sys2Proof.Machine.execEntryReclaim e s
  | .walkTimeout k => Sys2Proof.Machine.execWalkTimeout k s
  | .walkRelease k => Sys2Proof.Machine.execWalkRelease k s
  | .walkReclaim k => Sys2Proof.Machine.execWalkReclaim k s
  | .alertTimeout => Sys2Proof.Machine.execAlertTimeout s
  | .alertRelease => Sys2Proof.Machine.execAlertRelease s
  | .alertReclaim => Sys2Proof.Machine.execAlertReclaim s
  | .loadWindow => Sys2Proof.Machine.execLoadWindow s
  | .retireWindow => Sys2Proof.Machine.execRetireWindow s
  | .invalidate => Sys2Proof.Machine.execInvalidate s
  | .fenceCommandResumption => Sys2Proof.Machine.execFenceCommandResumption s
  | .configureRequester => Sys2Proof.Machine.execConfigureRequester s
  | .enableRequester => Sys2Proof.Machine.execEnableRequester s
  | .resumeRequester => Sys2Proof.Machine.execResumeRequester s
  | .quiesceRequester => Sys2Proof.Machine.execQuiesceRequester s
  | .setTiming => Sys2Proof.Machine.execSetTiming s
  | .setArbiter => Sys2Proof.Machine.execSetArbiter s
  | .setAlert => Sys2Proof.Machine.execSetAlert s
  | .ackAlert => Sys2Proof.Machine.execAckAlert s
  | .clearCounters => Sys2Proof.Machine.execClearCounters s
  | .clearFaults => Sys2Proof.Machine.execClearFaults s
  | .moveAperture => Sys2Proof.Machine.execMoveAperture s
  | .status => Sys2Proof.Machine.execStatus s
  | .window => Sys2Proof.Machine.execWindow s
  | .requester => Sys2Proof.Machine.execRequester s
  | .counters => Sys2Proof.Machine.execCounters s
  | .fault => Sys2Proof.Machine.execFault s
  | .time => Sys2Proof.Machine.execTime s
  | .fences => Sys2Proof.Machine.execFences s
  | .cacheStorageUpset w page => Sys2Proof.Machine.execCacheStorageUpset w page s

end Sys2Proof.Machine
end

