-- ==== Sys2Proof/Safety.lean ====
section
/-! DEFINITION. What a well-run bridge looks like: the laws that the spec says its blocks keep, each a
predicate of one state, and the words in which the statements about commands are written. -/

namespace Sys2Proof.Machine

/-! ## Counting -/

/-- The entries of requester `r` in TRANSLATING, QUEUED, ISSUED, RETRY_WAIT or ANSWERING (R66). -/
def countedEntries (r : ReqId) (s : State) : Nat :=
  (List.finRange 64).countP fun i =>
    (s.entries[i]).state.counted && decide ((s.entries[i]).requester = r)

/-- The entries that carry the mark of fence slot `k` (R119). -/
def markedEntries (k : FenceId) (s : State) : Nat :=
  (List.finRange 64).countP fun i => (s.entries[i]).marks[k]

/-- The entries that wait on walks, slot by slot in list order, and then those of the backlog
(R25, R28). -/
def waitingEntries (s : State) : List EntryId :=
  (s.walks[0]).waiters ++ (s.walks[1]).waiters ++ (s.walks[2]).waiters ++ (s.walks[3]).waiters ++ s.backlog

/-- The management slots that long work awaits: those named by fences and by contexts
(R112, R64, R151). -/
def awaitedSlots (s : State) : List MgmtId :=
  (List.finRange 4).filterMap (fun k => (s.fences[k]).awaiting)
    ++ (List.finRange 16).filterMap (fun r => (s.contexts[r]).quiesce)

/-! ## The laws -/

/-- No queue, list or count passes its capacity (R20, R48, R132, R154, R168 to R170, R172). -/
def CapacityLaw (s : State) : Prop :=
  s.uReqIn.length ≤ 16 ∧ s.uCplIn.length ≤ 16 ∧ s.dReqIn.length ≤ 16 ∧ s.dCplIn.length ≤ 16
    ∧ s.refusalQ.length ≤ 16 ∧ s.downQ.length ≤ 16 ∧ s.replyRefusals.length ≤ 4 ∧ s.faults.length ≤ 16
    ∧ s.lost ≤ 255 ∧ s.cache.length ≤ 48

/-- The state of the two arbiters: the guarantee and the counters stay in their ranges, the rotation counter
is 0 while no own request waits, and the run count is 0 while no host request is to be sent
(R79, R85, R171, R172). -/
def ArbiterLaw (s : State) : Prop :=
  1 ≤ s.guarantee ∧ s.guarantee ≤ 8 ∧ s.rotation ≤ 8 ∧ (s.ownList = [] → s.rotation = 0)
    ∧ s.refusalCount ≤ s.downQ.length ∧ s.runCount ≤ 8 ∧ (requestsToSend s = 0 → s.runCount = 0)

/-- The outstanding counts (R66; R75 for DRAINING). -/
def CountLaw (s : State) : Prop :=
  ∀ r : ReqId,
    (s.contexts[r]).outstanding = countedEntries r s
      ∧ (s.contexts[r]).outstanding ≤ (s.contexts[r]).limit
      ∧ ((s.contexts[r]).state = .off → (s.contexts[r]).outstanding = 0)
      ∧ ((s.contexts[r]).state = .draining → 0 < (s.contexts[r]).outstanding)

/-- The marks and the remaining counts (R119, R112, R118). -/
def MarkLaw (s : State) : Prop :=
  ∀ k : FenceId,
    ((s.fences[k]).state = .waiting →
        0 < (s.fences[k]).remaining ∧ (s.fences[k]).remaining = markedEntries k s)
      ∧ ((s.fences[k]).state = .free → markedEntries k s = 0)
      ∧ ∀ i : EntryId, (s.entries[i]).marks[k] = true → (s.entries[i]).state.markable = true

/-- The fields of a window that is not FREE (R1). -/
def Window.legal (x : Window) : Prop :=
  x.reqSet ≠ 0 ∧ 20 ≤ x.sizeExp ∧ x.sizeExp ≤ 36 ∧ x.base.toNat % x.size = 0
    ∧ x.base.toNat + x.size ≤ 2 ^ 48 ∧ (x.rights.read = true ∨ x.rights.write = true)
    ∧ match x.mode with
      | none => False
      | some .mapped => x.mapRoot.toNat % 4096 = 0 ∧ x.mapRoot.toNat + x.pages * 8 ≤ 2 ^ 50
      | some .direct => x.hostBase.toNat % 16384 = 0 ∧ x.hostBase.toNat + x.size ≤ 2 ^ 50

/-- Every VALID or RETIRING window is legal, and no two of them overlap while sharing a requester
(R1, R4). -/
def WindowLaw (s : State) : Prop :=
  (∀ w : WinId, (s.windows[w]).state ≠ .free → (s.windows[w]).legal)
    ∧ ∀ v w : WinId, v ≠ w → (s.windows[v]).state ≠ .free → (s.windows[w]).state ≠ .free →
        (s.windows[v]).overlaps s.windows[w] = true → (s.windows[v]).shares s.windows[w] = false

/-- A fence slot carries the retirement of window `w` (R112, R122). -/
def retires (s : State) (k : FenceId) (w : WinId) : Prop :=
  (s.fences[k]).state = .waiting ∧ (s.fences[k]).command = some .retireWindow
    ∧ (s.fences[k]).scope = some (.window w)

/-- A window is RETIRING exactly while one WAITING fence carries its retirement (R2, R122). -/
def RetireLaw (s : State) : Prop :=
  (∀ w : WinId, (s.windows[w]).state = .retiring → ∃ k : FenceId, retires s k w)
    ∧ (∀ k : FenceId, (s.fences[k]).state = .waiting → (s.fences[k]).command = some .retireWindow →
        ∃ w : WinId, (s.fences[k]).scope = some (.window w) ∧ (s.windows[w]).state = .retiring)
    ∧ ∀ (j k : FenceId) (w : WinId), retires s j w → retires s k w → j = k

/-- No two entries that are neither FREE nor ABANDONED hold the same requester and tag (R46). -/
def TagLaw (s : State) : Prop :=
  ∀ i j : EntryId, i ≠ j → (s.entries[i]).state.counted = true → (s.entries[j]).state.counted = true →
    (s.entries[i]).requester = (s.entries[j]).requester → (s.entries[i]).reqTag ≠ (s.entries[j]).reqTag

/-- Walk slot `k` covers its page (R25). -/
def covers (s : State) (k : WalkId) : Prop :=
  (s.walks[k]).state.underWay = true ∧ (s.walks[k]).stale = false

/-- The window is VALID and MAPPED. -/
def Window.mappedValid (x : Window) : Prop :=
  x.state = .valid ∧ x.mode = some .mapped

/-- The Map Cache holds no two entries for one window and page, only entries of VALID MAPPED windows, and
none for a page that a walk covers; a walk that covers is for a VALID MAPPED window, and no two walks
cover one page (R20, R26). -/
def CacheLaw (s : State) : Prop :=
  s.cache.Pairwise (fun a b => ¬(a.window = b.window ∧ a.page = b.page))
    ∧ (∀ c ∈ s.cache, (s.windows[c.window]).mappedValid)
    ∧ (∀ k : WalkId, covers s k →
        (s.windows[(s.walks[k]).window]).mappedValid
          ∧ ∀ c ∈ s.cache, ¬(c.window = (s.walks[k]).window ∧ c.page = (s.walks[k]).page))
    ∧ ∀ j k : WalkId, j ≠ k → covers s j → covers s k →
        ¬((s.walks[j]).window = (s.walks[k]).window ∧ (s.walks[j]).page = (s.walks[k]).page)

/-- Every entry stands where its state puts it, once: the QUEUED ones in the issue queue, the ANSWERING ones
in the answer queue with an answer, the TRANSLATING ones on one waiter list or in the backlog; FREE and
ABANDONED walk slots have no waiters (R25, R28, R53, R55). -/
def PlaceLaw (s : State) : Prop :=
  s.issueQ.Nodup ∧ (∀ i : EntryId, i ∈ s.issueQ ↔ (s.entries[i]).state = .queued)
    ∧ s.answerQ.Nodup ∧ (∀ i : EntryId, i ∈ s.answerQ ↔ (s.entries[i]).state = .answering)
    ∧ (waitingEntries s).Nodup ∧ (∀ i : EntryId, i ∈ waitingEntries s ↔ (s.entries[i]).state = .translating)
    ∧ (∀ k : WalkId, (s.walks[k]).state.underWay = false → (s.walks[k]).waiters = [])
    ∧ ∀ i : EntryId, (s.entries[i]).state = .answering → (s.entries[i]).answer.isSome = true

/-- The own list holds exactly the QUEUED walk slots and the QUEUED alert slot, each once, so at most
five (R83). -/
def OwnListLaw (s : State) : Prop :=
  s.ownList.Nodup ∧ s.ownList.length ≤ 5
    ∧ (∀ k : WalkId, .walk k ∈ s.ownList ↔ (s.walks[k]).state = .queued)
    ∧ (.alert ∈ s.ownList ↔ s.alertSlot.state = .queued)

/-- The backlog waits only while every walk slot is busy (R28, R29). -/
def BacklogLaw (s : State) : Prop :=
  s.backlog ≠ [] → ∀ k : WalkId, (s.walks[k]).state ≠ .free

/-- The management slots: the order holds the QUEUED ones and `replyOrder` the REPLYING ones, each once;
the RUNNING ones are those that one fence or one drain awaits; the head waits for a fence slot only
if it holds a fence command (R112, R151, R152, R156). -/
def MgmtLaw (s : State) : Prop :=
  s.mgmtOrder.Nodup ∧ (∀ m : MgmtId, m ∈ s.mgmtOrder ↔ (s.mgmt[m]).state = .queued)
    ∧ s.replyOrder.Nodup ∧ (∀ m : MgmtId, m ∈ s.replyOrder ↔ (s.mgmt[m]).state = .replying)
    ∧ (awaitedSlots s).Nodup ∧ (∀ m : MgmtId, m ∈ awaitedSlots s ↔ (s.mgmt[m]).state = .running)
    ∧ (∀ k : FenceId, (s.fences[k]).state = .free → (s.fences[k]).awaiting = none)
    ∧ (∀ r : ReqId, (s.contexts[r]).state ≠ .draining → (s.contexts[r]).quiesce = none)
    ∧ (∀ m : MgmtId, (s.mgmt[m]).state = .queued → (s.mgmt[m]).op.isSome = true)
    ∧ (s.headWaiting = true → ∃ m, s.mgmtOrder.head? = some m
        ∧ ((s.mgmt[m]).op = some .retireWindow ∨ (s.mgmt[m]).op = some .invalidate))

/-- What FREE means for every slot and entry: each of its other fields is cleared
(R42, R51, R52, R112, R142, R151). -/
def FreeLaw (s : State) : Prop :=
  (∀ i : EntryId, (s.entries[i]).state = .free → s.entries[i] = {})
    ∧ (∀ k : WalkId, (s.walks[k]).state = .free → s.walks[k] = {})
    ∧ (∀ k : FenceId, (s.fences[k]).state = .free → s.fences[k] = {})
    ∧ (s.alertSlot.state = .free → s.alertSlot = {})
    ∧ ∀ m : MgmtId, (s.mgmt[m]).state = .free → s.mgmt[m] = {}

/-- The words of data that an answer carries: the length of a READ answered OK, otherwise none (R55). -/
def Entry.answerLength (e : Entry) (a : Answer) : Nat :=
  if a.status = .ok ∧ e.kind = .read then e.length else 0

/-- The fields of an entry that is not FREE (R51, R55). -/
def Entry.legal (e : Entry) : Prop :=
  1 ≤ e.length ∧ e.length ≤ 64 ∧ e.reqTag.toNat ≤ 31
    ∧ (e.state = .translating → e.hostAddr = none)
    ∧ (e.state = .queued ∨ e.state = .issued ∨ e.state = .retryWait ∨ e.state = .abandoned →
        e.hostAddr.isSome = true)
    ∧ (e.releaseTick.isSome = true ↔ e.state = .retryWait)
    ∧ (e.abandonTick.isSome = true ↔ e.state = .abandoned)
    ∧ (e.answer.isSome = true ↔ e.state = .answering)
    ∧ (e.upstreamOpen = true → e.state = .answering ∧ e.hostAddr.isSome = true)
    ∧ (e.state.inFlight = true → e.payload.length = if e.kind = .write then e.length else 0)
    ∧ (e.state.inFlight = false → e.payload = [])
    ∧ ∀ a ∈ e.answer, a.data.length = e.answerLength a

/-- Every entry that is not FREE has the fields its state gives it (R51). -/
def EntryLaw (s : State) : Prop :=
  ∀ i : EntryId, (s.entries[i]).state ≠ .free → (s.entries[i]).legal

/-- Five timing settings in their ranges (R103). -/
def Timing.legal (t : Timing) : Prop :=
  t.periodCode ≤ 4 ∧ 1 ≤ t.walkTimeout ∧ t.walkTimeout ≤ 65535 ∧ 1 ≤ t.reclaimTime ∧ t.reclaimTime ≤ 65535
    ∧ t.walkRetryLimit ≤ 15 ∧ t.walkBackoffBase ≤ 15

/-- The six settings of a context in their ranges (R64). -/
def Context.legal (c : Context) : Prop :=
  1 ≤ c.limit ∧ c.limit ≤ 32 ∧ 1 ≤ c.timeout ∧ c.timeout ≤ 65535 ∧ c.retryLimit ≤ 15 ∧ c.backoffBase ≤ 15

/-- Every setting and every retry count is in its range
(R25, R51, R64, R79, R103, R139, R142, R147). -/
def SettingsLaw (s : State) : Prop :=
  (∀ r : ReqId, (s.contexts[r]).legal) ∧ s.timing.legal ∧ s.tickTiming.legal
    ∧ 1 ≤ s.guarantee ∧ s.guarantee ≤ 8
    ∧ s.apertureBase.toNat % 65536 = 0
    ∧ s.alertAddress.toNat % 8 = 0 ∧ s.alertAddress.toNat + 16 ≤ 2 ^ 50
    ∧ (∀ i : EntryId, (s.entries[i]).retryCount ≤ 15)
    ∧ (∀ k : WalkId, (s.walks[k]).retryCount ≤ 15)
    ∧ s.alertSlot.retryCount ≤ 15

/-- What stands in the bridge while the U-port is DOWN
(R41, R61, R77, R79, R128, R146, R162, R167, R170, R172, R174). -/
def UpstreamDownLaw (s : State) : Prop :=
  s.uUp = false →
    s.uHoldReq = false ∧ s.uHoldCpl = false ∧ s.uReqIn = [] ∧ s.uCplIn = [] ∧ s.uTx = none
      ∧ s.dCplIn = [] ∧ s.downQ = [] ∧ s.refusalCount = 0
      ∧ s.cache = [] ∧ s.backlog = [] ∧ s.issueQ = [] ∧ s.ownList = []
      ∧ (∀ k : WalkId, (s.walks[k]).state = .free)
      ∧ (∀ i : EntryId, ((s.entries[i]).state = .free ∨ (s.entries[i]).state = .answering)
          ∧ (s.entries[i]).upstreamOpen = false)
      ∧ s.alertSlot.state = .free
      ∧ (∀ k : FenceId, (s.fences[k]).state = .free)
      ∧ (∀ w : WinId, (s.windows[w]).state ≠ .retiring)
      ∧ (∀ m : MgmtId, (s.mgmt[m]).state = .free)
      ∧ s.mgmtOrder = [] ∧ s.headWaiting = false ∧ s.replyOrder = [] ∧ s.replyRefusals = []
      ∧ ∀ r : ReqId, (s.contexts[r]).quiesce = none

/-- What stands in the bridge while the D-port is DOWN (R59, R60, R78, R167, R176). -/
def DownstreamDownLaw (s : State) : Prop :=
  s.dUp = false →
    s.dHoldReq = false ∧ s.dHoldCpl = false ∧ s.dReqIn = [] ∧ s.dTx = none
      ∧ s.refusalQ = [] ∧ s.answerQ = [] ∧ s.issueQ = [] ∧ s.backlog = []
      ∧ (∀ k : WalkId, (s.walks[k]).waiters = [])
      ∧ (∀ i : EntryId, (s.entries[i]).state = .free ∨ (s.entries[i]).state = .abandoned)
      ∧ ∀ r : ReqId, (s.contexts[r]).outstanding = 0 ∧ (s.contexts[r]).state ≠ .draining

/-- The alert trigger has been acted on: its five conditions do not hold together (R141). -/
def AlertLaw (s : State) : Prop :=
  triggerHolds s = false

/-! ## The words of the statements

Each of these writes out, from the spec's rules, an effect that several statements name. -/

/-- The records are offered in order, and the alert trigger is evaluated once if one of them was enqueued
(R132, R141). -/
def noteRecords (rs : List FaultRecord) (s : State) : State :=
  let t := rs.foldl (fun u r => offerRecord r u) s
  if rs ≠ [] ∧ s.faults.length < 16 then evalTrigger t else t

/-- The fence slots that end when fence `k` loses `lost k` marks: the WAITING ones whose count reaches 0
(R119, R120). -/
def endedFences (lost : FenceId → Nat) (s : State) : List FenceId :=
  (List.finRange 4).filter fun k =>
    decide ((s.fences[k]).state = .waiting) && decide (0 < (s.fences[k]).remaining)
      && decide ((s.fences[k]).remaining ≤ lost k)

/-- Fence `k` loses `lost k` marks: counts fall, fences whose counts reach 0 free their slots and their
RETIRING windows, and their awaiting slots become REPLYING with DONE in ascending order (R119, R120). -/
def shed (lost : FenceId → Nat) (s : State) : State :=
  let ended := endedFences lost s
  { s with
    fences := Vector.ofFn fun k : Fin 4 =>
      if k ∈ ended then {} else { s.fences[k] with remaining := (s.fences[k]).remaining - lost k }
    windows := Vector.ofFn fun w : Fin 24 =>
      if (s.windows[w]).state = .retiring
          ∧ ended.any (fun k => decide ((s.fences[k]).command = some .retireWindow)
              && decide ((s.fences[k]).scope = some (.window w))) = true then
        { s.windows[w] with state := .free }
      else s.windows[w]
    mgmt := Vector.ofFn fun m : Fin 8 =>
      if ended.any (fun k => decide ((s.fences[k]).awaiting = some m)) = true then
        { s.mgmt[m] with state := .replying, payload := [], reply := [resultWord .done] }
      else s.mgmt[m]
    replyOrder := s.replyOrder ++ ended.filterMap fun k => (s.fences[k]).awaiting }

/-- One entry's marks, as losses of the fences. -/
def marksOf (e : Entry) (k : FenceId) : Nat :=
  if e.marks[k] then 1 else 0

/-- An entry that has been answered (R54). -/
def Entry.answered (e : Entry) (a : Answer) (openUp : Bool) : Entry :=
  { e with
    state := .answering
    hostAddr := if openUp then e.hostAddr else none
    payload := []
    releaseTick := none
    marks := noMarks
    answer := some a
    upstreamOpen := openUp }

/-- A context after a stopping fault of this kind (R72). -/
def Context.stoppedBy (c : Context) (kind : FaultKind) : Context :=
  if c.faultPolicy = .stop ∧ c.state = .active then { c with state := .stopped, stopCause := some kind } else c

/-- The head of the management order is slot `m`, which holds this command or query and payload, and it is
not waiting for a fence slot (R152). -/
def HeadHolds (s : State) (m : MgmtId) (rest : List MgmtId) (op : MgmtOp) (ws : List Word) : Prop :=
  s.mgmtOrder = m :: rest ∧ s.headWaiting = false ∧ (s.mgmt[m]).op = some op ∧ (s.mgmt[m]).payload = ws

/-- The head has left the order and its slot is REPLYING with these words (R155). -/
def replied (m : MgmtId) (rest : List MgmtId) (words : List Word) (s : State) : State :=
  { s with
    mgmt := s.mgmt.set m { s.mgmt[m] with state := .replying, payload := [], reply := words }
    mgmtOrder := rest
    headWaiting := false
    replyOrder := s.replyOrder ++ [m] }

/-- The head of the D-port request ingress can be taken: entry `i` is the lowest-numbered FREE one, and the
refusal queue has room (R43, R49). -/
def Takeable (s : State) (p : ReqPacket) (rest : List ReqPacket) (i : EntryId) : Prop :=
  s.dReqIn = p :: rest ∧ s.refusalQ.length < 16 ∧ (s.entries[i]).state = .free
    ∧ ∀ j : EntryId, j < i → (s.entries[j]).state ≠ .free

/-- The request meets the condition of R45 with this detail: 1 SOURCE, 2 TAG, 3 LENGTH, 4 PAYLOAD, 5 RANGE,
6 ALIGNMENT, 7 BOUNDARY. -/
def Breaks (p : ReqPacket) (d : Nat) : Prop :=
  let len := headerLength p.h0
  let addr := (requestAddress p).toNat
  (d = 1 ∧ 16 ≤ (headerSource p.h0).toNat)
    ∨ (d = 2 ∧ 31 < (headerTag p.h0).toNat)
    ∨ (d = 3 ∧ (len < 1 ∨ 64 < len))
    ∨ (d = 4 ∧ ((requestKind p = .write ∧ p.body.length ≠ len) ∨ (requestKind p = .read ∧ p.body ≠ [])))
    ∨ (d = 5 ∧ 2 ^ 48 ≤ addr)
    ∨ (d = 6 ∧ addr % 8 ≠ 0)
    ∨ (d = 7 ∧ addr / 16384 ≠ (addr + 8 * len - 1) / 16384)

/-- Some entry that is neither FREE nor ABANDONED holds the requester and tag (R46). -/
def TagTaken (s : State) (r : ReqId) (tag : Tag) : Prop :=
  ∃ j : EntryId, (s.entries[j]).state.counted = true ∧ (s.entries[j]).requester = r
    ∧ (s.entries[j]).reqTag = tag

/-- Window `w` is the one window that matches (R3, R4). -/
def Matches (s : State) (r : ReqId) (a : DAddr) (w : WinId) : Prop :=
  (s.windows[w]).matches r a = true ∧ ∀ v : WinId, v ≠ w → (s.windows[v]).matches r a = false

/-- The request passes the checks of R44 up to check 6: the U-port is UP, it is well formed, its requester
`r` is ACTIVE and below its limit, and its tag is not in use. -/
def PassesSix (s : State) (p : ReqPacket) (r : ReqId) : Prop :=
  s.uUp = true ∧ malformedDetail p = none ∧ (headerSource p.h0).toNat = r.val
    ∧ (s.contexts[r]).state = .active ∧ ¬TagTaken s r (headerTag p.h0)
    ∧ (s.contexts[r]).outstanding < (s.contexts[r]).limit

/-- The request passes every check of R44, and its match is the VALID window `w`. -/
def Admissible (s : State) (p : ReqPacket) (rest : List ReqPacket) (i : EntryId) (r : ReqId)
    (w : WinId) : Prop :=
  Takeable s p rest i ∧ PassesSix s p r ∧ Matches s r (requestDAddr p) w
    ∧ (s.windows[w]).state = .valid ∧ (s.windows[w]).rights.permits (requestKind p) = true

/-- The refusal of the head `p`: it joins the refusal queue, INTAKE_REFUSALS counts, and REFUSED counts for a
source below 16 (R47). -/
def refusedTo (p : ReqPacket) (rest : List ReqPacket) (st : Status) (s : State) : State :=
  let u := bump intakeRefusals
    { s with
      dReqIn := rest
      refusalQ := s.refusalQ ++ [⟨headerSource p.h0, headerTag p.h0, st⟩] }
  if h : (headerSource p.h0).toNat < 16 then bump (refused ⟨(headerSource p.h0).toNat, h⟩) u else u

/-- The fields of an accepted entry, before its translation (R49). -/
def acceptedAs (s : State) (p : ReqPacket) (r : ReqId) (w : WinId) : Entry where
  state := .translating
  requester := r
  reqTag := headerTag p.h0
  kind := requestKind p
  length := headerLength p.h0
  dAddr := requestDAddr p
  window := w
  page := ((requestDAddr p).toNat - (s.windows[w]).base.toNat) / 16384
  hostAddr := none
  payload := if requestKind p = .write then p.body else []
  acceptTick := s.now

/-- Acceptance into entry `i` with the fields `e`: the outstanding count rises and ACCEPTED counts
(R49). -/
def acceptedTo (rest : List ReqPacket) (i : EntryId) (r : ReqId) (e : Entry) (s : State) : State :=
  bump (accepted r)
    { s with
      dReqIn := rest
      entries := s.entries.set i e
      contexts := s.contexts.set r { s.contexts[r] with outstanding := (s.contexts[r]).outstanding + 1 } }

/-- The head of the U-port completion ingress carries source 31 and this tag (R93). -/
def CompletionFor (s : State) (p : CplPacket) (rest : List CplPacket) (tag : Nat) : Prop :=
  s.uCplIn = p :: rest ∧ headerSource p.h0 = 31 ∧ (headerTag p.h0).toNat = tag

/-- No walk covers the page (R25). -/
def Uncovered (s : State) (w : WinId) (p : Nat) : Prop :=
  ∀ k : WalkId, covers s k → ¬((s.walks[k]).window = w ∧ (s.walks[k]).page = p)

/-- The Map Cache holds no entry for the page (R20). -/
def Uncached (s : State) (w : WinId) (p : Nat) : Prop :=
  ∀ c ∈ s.cache, ¬(c.window = w ∧ c.page = p)

/-- Walk slot `k` is the lowest-numbered FREE one (R26). -/
def LowestFreeWalk (s : State) (k : WalkId) : Prop :=
  (s.walks[k]).state = .free ∧ ∀ j : WalkId, j < k → (s.walks[j]).state ≠ .free

/-- A walk that starts for entry `i` (R26). -/
def startedWalk (s : State) (i : EntryId) (w : WinId) (p : Nat) : WalkSlot where
  state := .queued
  window := w
  page := p
  mapAddr := (s.windows[w]).mapRoot + BitVec.ofNat 50 (8 * p)
  waiters := [i]
  startTick := s.now

/-- The entries' states after every entry of a list is answered UNMAPPED (R34, R37). -/
def unmappedEntries (is : List EntryId) (s : State) : Vector Entry 64 :=
  Vector.ofFn fun i : Fin 64 =>
    if i ∈ is then (s.entries[i]).answered { status := .unmapped } false else s.entries[i]

/-- The contexts after a stopping fault that names the requesters of a list of waiters (R72). -/
def stoppedContexts (kind : FaultKind) (is : List EntryId) (s : State) : Vector Context 16 :=
  Vector.ofFn fun r : Fin 16 =>
    if is.any (fun i => decide ((s.entries[i]).requester = r)) = true then (s.contexts[r]).stoppedBy kind
    else s.contexts[r]

/-- A record that a walk makes names its first waiter, its window and its map-entry address
(R11, R37). -/
def walkNote (kind : FaultKind) (detail : Nat) (k : WalkId) (s : State) : FaultRecord :=
  let first := (s.walks[k]).waiters.head?
  { kind := kind
    detail := detail
    requester := first.map fun i => (s.entries[i]).requester
    reqTag := first.map fun i => (s.entries[i]).reqTag
    window := some (s.walks[k]).window
    dAddr := first.map fun i => (s.entries[i]).dAddr
    hostAddr := some (s.walks[k]).mapAddr }

/-- A record that names an entry: its requester, tag, window and addresses (R92, R95, R96, R104, R108). -/
def entryNote (kind : FaultKind) (detail : Nat) (e : Entry) : FaultRecord where
  kind := kind
  detail := detail
  requester := some e.requester
  reqTag := some e.reqTag
  window := some e.window
  dAddr := some e.dAddr
  hostAddr := e.hostAddr

/-- No timer of the Transaction Table has run out at an entry (R102). -/
def EntryQuiet (s : State) (i : EntryId) : Prop :=
  entryExpires s i = false ∧ entryReleases s i = false ∧ entryReclaims s i = false

/-- No timer of a walk slot has run out (R38). -/
def WalkQuiet (s : State) (k : WalkId) : Prop :=
  walkTimesOut s k = false ∧ walkReleases s k = false ∧ walkReclaims s k = false

/-- The command releases entry `i` as the release finds it, `e`, in the state `u` that it has made of `s` by
then: the release tick has come, at which no other timer of the table has run out, or a RETRY below the
limit has a backoff of 0; the age has not reached the timeout (R88, R89, R102). -/
def Releases (cmd : Instr) (p : CplPacket) (rest : List CplPacket) (i : EntryId) (s u : State)
    (e : Entry) : Prop :=
  let x := s.entries[i]
  let c := s.contexts[x.requester]
  (cmd = .entryRelease i ∧ s.tableDue = true ∧ entryReleases s i = true ∧ entryExpires s i = false
      ∧ (∀ j : EntryId, j ≠ i → EntryQuiet s j) ∧ u = { s with tableDue := false } ∧ e = x)
    ∨ (cmd = .completionMatching ∧ CompletionFor s p rest i.val ∧ x.state = .issued ∧ headerStatus p.h0 = 1
      ∧ x.retryCount < c.retryLimit ∧ min (c.backoffBase * 2 ^ x.retryCount) 255 = 0
      ∧ (s.now - x.acceptTick).toNat < c.timeout
      ∧ u = bump retriesReceived { s with uCplIn := rest }
      ∧ e = { x with retryCount := x.retryCount + 1 })

/-- The bits of the payload name this scope for this fence command, and the command's checks pass
(R114, R115, R181). -/
def PassesChecks (s : State) (ws : List Word) : FenceCommand → Scope → Prop
  | .retireWindow, .window w => field (payloadWord ws 0) 0 5 = w.val ∧ (s.windows[w]).state = .valid
  | .retireWindow, _ => False
  | .invalidate, .all => field (payloadWord ws 0) 0 2 = 0
  | .invalidate, .window w =>
    field (payloadWord ws 0) 0 2 = 1 ∧ field (payloadWord ws 0) 8 5 = w.val ∧ (s.windows[w]).state ≠ .free
  | .invalidate, .pages w first count =>
    field (payloadWord ws 0) 0 2 = 2 ∧ field (payloadWord ws 0) 8 5 = w.val ∧ (s.windows[w]).state ≠ .free
      ∧ field (payloadWord ws 1) 0 22 = first ∧ field (payloadWord ws 1) 32 13 = count
      ∧ 1 ≤ count ∧ count ≤ 4096 ∧ first + count ≤ (s.windows[w]).pages

/-- The result of the first check that fails, for a fence command whose payload does not pass
(R114, R115). -/
def FailsChecks (s : State) (ws : List Word) : FenceCommand → Result → Prop
  | .retireWindow, .badArgument => 24 ≤ field (payloadWord ws 0) 0 5
  | .retireWindow, .badState =>
    ∃ w : WinId, field (payloadWord ws 0) 0 5 = w.val ∧ (s.windows[w]).state ≠ .valid
  | .invalidate, .badArgument =>
    field (payloadWord ws 0) 0 2 = 3
      ∨ ((field (payloadWord ws 0) 0 2 = 1 ∨ field (payloadWord ws 0) 0 2 = 2)
          ∧ 24 ≤ field (payloadWord ws 0) 8 5)
      ∨ (field (payloadWord ws 0) 0 2 = 2
          ∧ ∃ w : WinId, field (payloadWord ws 0) 8 5 = w.val ∧ (s.windows[w]).state ≠ .free
            ∧ (field (payloadWord ws 1) 32 13 < 1 ∨ 4096 < field (payloadWord ws 1) 32 13
              ∨ (s.windows[w]).pages < field (payloadWord ws 1) 0 22 + field (payloadWord ws 1) 32 13))
  | .invalidate, .badState =>
    (field (payloadWord ws 0) 0 2 = 1 ∨ field (payloadWord ws 0) 0 2 = 2)
      ∧ ∃ w : WinId, field (payloadWord ws 0) 8 5 = w.val ∧ (s.windows[w]).state = .free
  | _, _ => False

/-- The row of the opcode table, and the entry of the aperture map, of a fence command. -/
def fenceOp : FenceCommand → MgmtOp
  | .invalidate => .invalidate
  | .retireWindow => .retireWindow

/-- The command that executes a fence command at the head of the order. -/
def fenceRow : FenceCommand → Instr
  | .invalidate => .invalidate
  | .retireWindow => .retireWindow

/-- Fence slot `k` is the lowest-numbered FREE one (R116). -/
def LowestFreeFence (s : State) (k : FenceId) : Prop :=
  (s.fences[k]).state = .free ∧ ∀ j : FenceId, j < k → (s.fences[j]).state ≠ .free

/-- Whether entry `i` is marked at the start of a fence (R118). -/
def markedAtStart (scope : Scope) (s : State) (i : EntryId) : Bool :=
  (decide ((s.entries[i]).state = .queued) || decide ((s.entries[i]).state = .issued)
      || decide ((s.entries[i]).state = .retryWait) || decide ((s.entries[i]).state = .abandoned))
    && scope.covers (s.entries[i]).window (s.entries[i]).page

/-- The window table after the start of a fence, where the retired window takes this state. -/
def startedWindows (cmd : FenceCommand) (scope : Scope) (x : WinState) (s : State) : Vector Window 24 :=
  match cmd, scope with
  | .retireWindow, .window w => s.windows.set w { s.windows[w] with state := x }
  | _, _ => s.windows

/-- The state after the fence at the head, slot `m`, starts in fence slot `k`
(R117, R118; R120 for a fence that marks no entry). -/
def startedFence (k : FenceId) (cmd : FenceCommand) (scope : Scope) (m : MgmtId) (rest : List MgmtId)
    (s : State) : State :=
  let n := (List.finRange 64).countP (markedAtStart scope s)
  let u :=
    { s with
      cache := s.cache.filter fun c => !scope.covers c.window c.page
      walks := Vector.ofFn fun j : Fin 4 =>
        if (s.walks[j]).state.underWay = true ∧ scope.covers (s.walks[j]).window (s.walks[j]).page = true then
          { s.walks[j] with stale := true }
        else s.walks[j]
      entries := Vector.ofFn fun i : Fin 64 =>
        if markedAtStart scope s i = true then
          { s.entries[i] with marks := (s.entries[i]).marks.set k true }
        else s.entries[i] }
  if n = 0 then replied m rest [resultWord .done] { u with windows := startedWindows cmd scope .free s }
  else
    { u with
      windows := startedWindows cmd scope .retiring s
      fences :=
        s.fences.set k
          { state := .waiting, command := some cmd, scope := some scope, remaining := n, awaiting := some m }
      mgmt := s.mgmt.set m { s.mgmt[m] with state := .running, payload := [] }
      mgmtOrder := rest
      headWaiting := false }

end Sys2Proof.Machine
end

