-- ==== Sys2Proof/Certificates/Slice0/Obligations.lean ====
section
/-! DEFINITION. The statements about the bridge, one `Prop` each: what every command does, and the laws that
every step keeps. OBLIGATIONS.json lists them. -/

section

open Sys2Proof Sys2Proof.Machine

/-- For every command c, queue rest and state s, the step of s with c in front of the rest is exec of c on s
with the rest as its queue. The queue is the model's own (log entry 1). (From Conventions, Happenings
(spec/00_scope.md).) -/
def Obligations.StepTakesFrontCommand : Prop :=
  ∀ (c : Instr) (rest : List Instr) (s : State),
    step { s with pending := c :: rest } = exec c { s with pending := rest }

/-- For every command and every state, exec answers a next state, whose queue of waiting commands is the one
it was given: no happening of the spec stops the bridge. That no command stops is the model's reading of
the spec (log entry 2), and the queue of commands is the model's own (log entry 1). (From Conventions,
Happenings (spec/00_scope.md), R52, R93.) -/
def Obligations.EveryCommandAnswersNext : Prop :=
  ∀ (c : Instr) (s : State),
    ∃ t, exec c s = .next t ∧ t.pending = s.pending

/-- POWER_ON with the straps reading aps answers a next state in which both ports are DOWN, every queue and
list is empty, every window, walk slot, entry, fence slot, alert slot and management slot is FREE with
its fields cleared, every context has the values of R64, the settings, counters, fault queue, alert and
arbiters have their power-on values, and the aperture base is 0x3F00_0000_0000 + aps * 0x1_0000. The
queue of commands, which POWER_ON leaves, is the model's own (log entry 1). The transmit registers, which
read none, are the model's choice (log entry 8). The settings as the latest tick found them are the
power-on settings and no block has a tick to take, in fields that are the model's (log entries 4 and 6).
(From R19, R42, R63, R76, R79, R112, R135, R138, R146, R147, R163, R177.) -/
def Obligations.PowerOnValues : Prop :=
  ∀ (aps : BitVec 3) (s : State),
    ∃ t, exec (.powerOn aps) s = .next t
      ∧ t.pending = s.pending ∧ t.uUp = false ∧ t.dUp = false
      ∧ t.uHoldReq = false ∧ t.uHoldCpl = false ∧ t.dHoldReq = false ∧ t.dHoldCpl = false
      ∧ t.uReqIn = [] ∧ t.uCplIn = [] ∧ t.dReqIn = [] ∧ t.dCplIn = [] ∧ t.uTx = none ∧ t.dTx = none
      ∧ t.refusalQ = [] ∧ t.downQ = [] ∧ t.refusalCount = 0 ∧ t.answerTurn = .refusal ∧ t.runCount = 0
      ∧ (∀ w : WinId, t.windows[w]
          = { state := .free, reqSet := 0, base := 0, sizeExp := 0, mode := none
              rights := { read := false, write := false }, mapRoot := 0, hostBase := 0, checkMode := .off })
      ∧ t.cache = [] ∧ t.backlog = []
      ∧ (∀ k : WalkId, t.walks[k]
          = { state := .free, window := 0, page := 0, mapAddr := 0, stale := false, waiters := []
              startTick := 0, retryCount := 0, releaseTick := none, abandonTick := none })
      ∧ (∀ i : EntryId, t.entries[i]
          = { state := .free, requester := 0, reqTag := 0, kind := .read, length := 0, dAddr := 0, window := 0
              page := 0, hostAddr := none, payload := [], acceptTick := 0, retryCount := 0
              releaseTick := none, abandonTick := none, marks := noMarks, answer := none
              upstreamOpen := false })
      ∧ t.issueQ = [] ∧ t.answerQ = []
      ∧ (∀ r : ReqId, t.contexts[r]
          = { state := .off, limit := 8, timeout := 4096, retryLimit := 4, backoffBase := 2
              exhaustion := .fail, faultPolicy := .continue_, outstanding := 0, stopCause := none
              quiesce := none })
      ∧ t.rotation = 0 ∧ t.guarantee = 2 ∧ t.cplTurn = .management ∧ t.ownList = []
      ∧ t.now = 0
      ∧ t.timing = { periodCode := 2, walkTimeout := 1024, reclaimTime := 8192, walkRetryLimit := 4
                     walkBackoffBase := 2 }
      ∧ t.tickTiming = { periodCode := 2, walkTimeout := 1024, reclaimTime := 8192, walkRetryLimit := 4
                         walkBackoffBase := 2 }
      ∧ t.tableDue = false ∧ t.walkDue = false ∧ t.alertDue = false
      ∧ (∀ k : FenceId, t.fences[k]
          = { state := .free, command := none, scope := none, remaining := 0, awaiting := none })
      ∧ t.faults = [] ∧ t.lost = 0 ∧ t.overflowPending = false
      ∧ (∀ c : Counter, t.counter c = 0)
      ∧ t.alertAddress = 0 ∧ t.alertEnabled = false ∧ t.alertArmed = true
      ∧ t.alertSlot = { state := .free, address := 0, payload := [], startTick := 0, retryCount := 0
                        releaseTick := none, abandonTick := none }
      ∧ t.apertureBase.toNat = 0x3F0000000000 + aps.toNat * 0x10000
      ∧ (∀ m : MgmtId, t.mgmt[m]
          = { state := .free, source := 0, tag := 0, op := none, payload := [], reply := [] })
      ∧ t.mgmtOrder = [] ∧ t.headWaiting = false ∧ t.replyOrder = [] ∧ t.replyRefusals = []

/-- With the U-port UP, U_PORT_DOWN answers the state in which the link is DOWN, its ingress queues, hold
lines and the packet being sent are gone, the down pass-through queue, the D-port completion ingress, the
own list, the Map Cache, the walk slots, the backlog, the issue queue, the fence slots, the management
slots and the reply refusals are cleared, the arbiter keeps only its guarantee, RETIRING windows are
FREE, every quiesce slot is absent, the alert slot is FREE and armed is set, entries in flight are
answered ABORT in order of index behind the answers already queued, ABANDONED entries are FREE, upstream
open notes are cleared, and one UPSTREAM_RESET record with the number of swept entries, saturating at 63,
is offered. Nothing else changes. That a packet being sent is held in a transmit register is the model's
choice (log entry 8). (From R19, R41, R61, R62, R77, R79, R128, R146, R162, R170, R172, R174.) -/
def Obligations.UPortDownClearsAndSweeps : Prop :=
  ∀ (s : State),
    s.uUp = true →
    exec .uPortDown s = .next
      (offerRecord
        { kind := .upstreamReset
          detail := min ((List.finRange 64).countP fun i => (s.entries[i]).state.inFlight) 63 }
        { s with
          uUp := false, uHoldReq := false, uHoldCpl := false, uReqIn := [], uCplIn := [], uTx := none
          downQ := [], refusalCount := 0, runCount := 0, dCplIn := []
          rotation := 0, cplTurn := .management, ownList := []
          cache := [], walks := Vector.replicate 4 {}, backlog := [], issueQ := []
          entries := Vector.ofFn fun i : Fin 64 =>
            if (s.entries[i]).state.inFlight = true then (s.entries[i]).answered { status := .abort } false
            else if (s.entries[i]).state = .abandoned then {}
            else if (s.entries[i]).state = .answering then { s.entries[i] with upstreamOpen := false }
            else s.entries[i]
          answerQ := s.answerQ ++ (List.finRange 64).filter fun i => (s.entries[i]).state.inFlight
          contexts := Vector.ofFn fun r : Fin 16 => { s.contexts[r] with quiesce := none }
          fences := Vector.replicate 4 {}
          windows := Vector.ofFn fun w : Fin 24 =>
            if (s.windows[w]).state = .retiring then { s.windows[w] with state := .free } else s.windows[w]
          mgmt := Vector.replicate 8 {}, mgmtOrder := [], headWaiting := false, replyOrder := []
          replyRefusals := [], alertSlot := {}, alertArmed := true })

/-- With the U-port UP, the state that RESET_MESSAGE answers is the one that U_PORT_DOWN and then U_PORT_UP
answer, and the U-port is UP in it; while the U-port is DOWN a reset message is not received and nothing
changes. (Formalises R175.) -/
def Obligations.ResetMessageIsLossAndReturn : Prop :=
  ∀ (s : State),
    (s.uUp = true →
      ∃ t u, exec .uPortDown s = .next t ∧ exec .uPortUp t = .next u ∧ exec .resetMessage s = .next u
        ∧ u.uUp = true)
    ∧ (s.uUp = false → exec .resetMessage s = .next s)

/-- With the U-port DOWN, U_PORT_UP makes it UP. If the alert is enabled and armed, records wait and the
alert slot is FREE, then armed is cleared and the slot becomes QUEUED with the alert address, a payload
of the queue depth, the lost count and the tick, the current tick as its start tick and retry count 0,
and joins the tail of the own list; otherwise nothing else changes. (From R141, R146, R174.) -/
def Obligations.UPortUpEvaluatesTrigger : Prop :=
  ∀ (s : State),
    s.uUp = false →
    exec .uPortUp s = .next
      (if s.alertEnabled = true ∧ s.alertArmed = true ∧ s.faults ≠ [] ∧ s.alertSlot.state = .free then
        { s with
          uUp := true
          alertArmed := false
          alertSlot :=
            { state := .queued, address := s.alertAddress
              payload := alertWords s.faults.length s.lost s.now
              startTick := s.now, retryCount := 0, releaseTick := none, abandonTick := none }
          ownList := s.ownList ++ [.alert] }
      else { s with uUp := true })

/-- With the D-port UP, D_PORT_DOWN answers the state in which the link is DOWN, its request ingress, hold
lines, the packet being sent, the refusal queue, the answer queue, the issue queue, the waiter lists and
the backlog are gone, the answer arbiter is reset, the refusal count is the length of the down pass-
through queue, every entry is handled by the table of R59, every outstanding count is 0, the marks of
QUEUED and RETRY_WAIT entries are lost to their fences, whose ends come first in order of slot, and every
drain ends in order of requester id. Nothing else changes. The transmit register and the writing of 0 to
every count are the model's choice and reading (log entries 8 and 19). (From R59, R60, R71, R78, R120,
R127, R171, R173, R176.) -/
def Obligations.DPortDownFreesAndAbandons : Prop :=
  ∀ (s : State),
    s.dUp = true →
    let lost : FenceId → Nat := fun k => (List.finRange 64).countP fun i =>
      (s.entries[i]).marks[k]
        && (decide ((s.entries[i]).state = .queued) || decide ((s.entries[i]).state = .retryWait))
    let u := shed lost
      { s with
        dUp := false, dHoldReq := false, dHoldCpl := false, dTx := none, dReqIn := []
        refusalQ := [], answerQ := [], issueQ := [], backlog := []
        walks := Vector.ofFn fun k : Fin 4 => { s.walks[k] with waiters := [] }
        answerTurn := .refusal, runCount := 0, refusalCount := s.downQ.length
        entries := Vector.ofFn fun i : Fin 64 =>
          let e := s.entries[i]
          match e.state with
          | .free | .abandoned => e
          | .translating | .queued | .retryWait => {}
          | .issued => { e with state := .abandoned, abandonTick := some s.now, payload := [] }
          | .answering =>
            if e.upstreamOpen = true then
              { e with state := .abandoned, abandonTick := some s.now, answer := none, upstreamOpen := false }
            else {}
        contexts := Vector.ofFn fun r : Fin 16 =>
          if (s.contexts[r]).state = .draining then
            { s.contexts[r] with state := .off, outstanding := 0, quiesce := none }
          else { s.contexts[r] with outstanding := 0 } }
    let drained := (List.finRange 16).filterMap fun r =>
      if (s.contexts[r]).state = .draining then (s.contexts[r]).quiesce else none
    exec .dPortDown s = .next
      { u with
        mgmt := Vector.ofFn fun m : Fin 8 =>
          if m ∈ drained then
            { u.mgmt[m] with state := .replying, payload := [], reply := [resultWord .done] }
          else u.mgmt[m]
        replyOrder := u.replyOrder ++ drained }

/-- D_PORT_UP makes the D-port UP and changes nothing else. HOLD_LINE_CHANGE makes the named line as received
on an UP port take the partner's value and changes nothing else; on a DOWN port it changes nothing. (From
R167, R174, R176.) -/
def Obligations.DPortUpAndHoldLines : Prop :=
  ∀ (s : State) (on : Bool),
    exec .dPortUp s = .next { s with dUp := true }
    ∧ (s.uUp = true →
        exec (.holdLineChange .upstream .request on) s = .next { s with uHoldReq := on }
          ∧ exec (.holdLineChange .upstream .completion on) s = .next { s with uHoldCpl := on })
    ∧ (s.dUp = true →
        exec (.holdLineChange .downstream .request on) s = .next { s with dHoldReq := on }
          ∧ exec (.holdLineChange .downstream .completion on) s = .next { s with dHoldCpl := on })
    ∧ (s.uUp = false →
        exec (.holdLineChange .upstream .request on) s = .next s
          ∧ exec (.holdLineChange .upstream .completion on) s = .next s)
    ∧ (s.dUp = false →
        exec (.holdLineChange .downstream .request on) s = .next s
          ∧ exec (.holdLineChange .downstream .completion on) s = .next s)

/-- A packet that arrives on an UP port joins the tail of its ingress while that holds fewer than 16 and is
otherwise discarded with no other effect; a device completion is discarded while the U-port is DOWN;
nothing is received on a DOWN port. The bridge raises each of its four hold lines exactly while that port
is UP and the ingress of that class is full, holding 16; that the lines are computed from the state is
the model's reading (log entry 17). (From R168, R169, R170, R174, R176.) -/
def Obligations.ArrivalsJoinOrAreDiscarded : Prop :=
  ∀ (s : State) (p : ReqPacket) (c : CplPacket),
    (s.dUp = true →
      exec (.deviceRequestArrival p) s
        = .next (if s.dReqIn.length < 16 then { s with dReqIn := s.dReqIn ++ [p] } else s))
    ∧ (s.dUp = true → s.uUp = true →
      exec (.deviceCompletionArrival c) s
        = .next (if s.dCplIn.length < 16 then { s with dCplIn := s.dCplIn ++ [c] } else s))
    ∧ (s.uUp = true →
      exec (.hostRequestArrival p) s
          = .next (if s.uReqIn.length < 16 then { s with uReqIn := s.uReqIn ++ [p] } else s)
        ∧ exec (.hostCompletionArrival c) s
          = .next (if s.uCplIn.length < 16 then { s with uCplIn := s.uCplIn ++ [c] } else s))
    ∧ (s.dUp = false →
      exec (.deviceRequestArrival p) s = .next s ∧ exec (.deviceCompletionArrival c) s = .next s)
    ∧ (s.uUp = false →
      exec (.deviceCompletionArrival c) s = .next s ∧ exec (.hostRequestArrival p) s = .next s
        ∧ exec (.hostCompletionArrival c) s = .next s)
    ∧ (holdRaised .upstream .request s = true ↔ s.uUp = true ∧ 16 ≤ s.uReqIn.length)
    ∧ (holdRaised .upstream .completion s = true ↔ s.uUp = true ∧ 16 ≤ s.uCplIn.length)
    ∧ (holdRaised .downstream .request s = true ↔ s.dUp = true ∧ 16 ≤ s.dReqIn.length)
    ∧ (holdRaised .downstream .completion s = true ↔ s.dUp = true ∧ 16 ≤ s.dCplIn.length)

/-- When the head p of the D-port request ingress can be taken, it is refused, in the order of R44: ABORT
while the U-port is DOWN; MALFORMED with a MALFORMED_REQUEST record whose detail is the first of the
seven conditions of R45 that holds (1 a source of 16 or above, 2 a tag above 31, 3 a length outside
1..64, 4 words that do not match the kind and length, 5 an address of 2^48 or above, 6 one that is not a
multiple of 8, 7 bytes that cross a 16 KiB boundary), while a request that breaks none goes on to the
checks that follow; DENIED in OFF or STOPPED; RETRY in DRAINING; MALFORMED with a DUPLICATE_TAG record;
RETRY at the limit; DENIED with a NO_WINDOW record, UNMAPPED in a RETIRING window, and DENIED with a
RIGHTS record, where NO_WINDOW and RIGHTS stop an ACTIVE requester whose policy is STOP. The refusal
joins the refusal queue and the counters of R47 rise; nothing else changes but what an enqueued record's
alert does. (From R5, R43, R44, R45, R46, R47, R65, R72.) -/
def Obligations.IntakeRefuses : Prop :=
  ∀ (s : State) (p : ReqPacket) (rest : List ReqPacket) (i : EntryId),
    Takeable s p rest i →
    let src := headerSource p.h0
    let tag := headerTag p.h0
    let a := requestDAddr p
    let stopped (kind : FaultKind) (r : ReqId) (u : State) : State :=
      { u with contexts := u.contexts.set r ((u.contexts[r]).stoppedBy kind) }
    (s.uUp = false → exec .intakeTakeRequest s = .next (refusedTo p rest .abort s))
    ∧ (malformedDetail p = none ↔ ∀ d : Nat, ¬Breaks p d)
    ∧ (s.uUp = true → ∀ d : Nat, Breaks p d → (∀ c : Nat, c < d → ¬Breaks p c) →
        exec .intakeTakeRequest s = .next
          (noteRecords
            [{ kind := .malformedRequest, detail := d
               requester := if h : src.toNat < 16 then some ⟨src.toNat, h⟩ else none
               reqTag := if src.toNat < 16 then some tag else none
               dAddr := if 5 < d then some a else none }]
            (refusedTo p rest .malformed s)))
    ∧ (s.uUp = true → (∀ d : Nat, ¬Breaks p d) → ∀ r : ReqId, src.toNat = r.val →
        (((s.contexts[r]).state = .off ∨ (s.contexts[r]).state = .stopped) →
          exec .intakeTakeRequest s = .next (refusedTo p rest .denied s))
        ∧ ((s.contexts[r]).state = .draining →
          exec .intakeTakeRequest s = .next (refusedTo p rest .retry s))
        ∧ ((s.contexts[r]).state = .active → TagTaken s r tag →
          exec .intakeTakeRequest s = .next
            (noteRecords [{ kind := .duplicateTag, requester := some r, reqTag := some tag, dAddr := some a }]
              (refusedTo p rest .malformed s)))
        ∧ ((s.contexts[r]).state = .active → ¬TagTaken s r tag →
            (s.contexts[r]).limit ≤ (s.contexts[r]).outstanding →
          exec .intakeTakeRequest s = .next (refusedTo p rest .retry s)))
    ∧ ∀ r : ReqId, PassesSix s p r →
        ((∀ w : WinId, (s.windows[w]).matches r a = false) →
          exec .intakeTakeRequest s = .next
            (stopped .noWindow r
              (noteRecords [{ kind := .noWindow, requester := some r, reqTag := some tag, dAddr := some a }]
                (refusedTo p rest .denied s))))
        ∧ ∀ w : WinId, Matches s r a w →
          ((s.windows[w]).state = .retiring →
            exec .intakeTakeRequest s = .next (refusedTo p rest .unmapped s))
          ∧ ((s.windows[w]).state = .valid → (s.windows[w]).rights.permits (requestKind p) = false →
            exec .intakeTakeRequest s = .next
              (stopped .rights r
                (noteRecords
                  [{ kind := .rights, requester := some r, reqTag := some tag, window := some w
                     dAddr := some a }]
                  (refusedTo p rest .denied s))))

/-- A request that passes every check of R44 and matches a VALID DIRECT window is accepted into the lowest-
numbered FREE entry: the entry takes the fields of R49, the host address host base + (a - base), becomes
QUEUED and joins the tail of the issue queue; the outstanding count and ACCEPTED rise by 1; nothing else
changes. (From R6, R7, R49, R50, R53, R66.) -/
def Obligations.IntakeAcceptsDirect : Prop :=
  ∀ (s : State) (p : ReqPacket) (rest : List ReqPacket) (i : EntryId) (r : ReqId) (w : WinId),
    Admissible s p rest i r w → (s.windows[w]).mode = some .direct →
    let a := requestDAddr p
    let e :=
      { acceptedAs s p r w with
        state := .queued
        hostAddr := some ((s.windows[w]).hostBase + (a - (s.windows[w]).base).setWidth 50) }
    exec .intakeTakeRequest s = .next { acceptedTo rest i r e s with issueQ := s.issueQ ++ [i] }

/-- A request that passes every check of R44 and matches a VALID MAPPED window is accepted. On a good cache
entry for its page CACHE_HITS counts, that entry becomes most recent, and the request becomes QUEUED at
frame * 16 KiB + (a mod 16 KiB) or, if the effective rights lack its kind, is answered DENIED with a
RIGHTS record and the stop policy. With no cache entry CACHE_MISSES counts and the entry stays
TRANSLATING: it joins the walk that covers the page, or starts a walk in the lowest-numbered FREE slot
(no backlog entry holding the page), or joins the backlog when no slot is FREE. Premises: the laws of
places and of the Map Cache. (From R5, R8, R20, R21, R25, R26, R28, R49, R50, R54, R72, R83.) -/
def Obligations.IntakeLooksUpMapped : Prop :=
  ∀ (s : State) (p : ReqPacket) (rest : List ReqPacket) (i : EntryId) (r : ReqId) (w : WinId),
    PlaceLaw s → CacheLaw s → Admissible s p rest i r w → (s.windows[w]).mode = some .mapped →
    let a := requestDAddr p
    let e := acceptedAs s p r w
    let u := acceptedTo rest i r e s
    (∀ c ∈ s.cache, c.window = w → c.page = e.page → c.upset = false →
      let v := bump cacheHits
        { u with cache := c :: s.cache.filter fun x => !(decide (x.window = w) && decide (x.page = e.page)) }
      ((((s.windows[w]).rights.meet c.rights).permits e.kind = true →
        exec .intakeTakeRequest s = .next
          { v with
            entries := s.entries.set i
              { e with state := .queued, hostAddr := some (c.frame ++ a.extractLsb' 0 14) }
            issueQ := s.issueQ ++ [i] })
      ∧ (((s.windows[w]).rights.meet c.rights).permits e.kind = false →
        let x := noteRecords
          [{ kind := .rights, requester := some r, reqTag := some e.reqTag, window := some w
             dAddr := some a }]
          { v with
            entries := s.entries.set i (e.answered { status := .denied } false)
            answerQ := s.answerQ ++ [i] }
        exec .intakeTakeRequest s = .next
          { x with contexts := x.contexts.set r ((x.contexts[r]).stoppedBy .rights) })))
    ∧ (Uncached s w e.page →
      let v := bump cacheMisses u
      (∀ k : WalkId, covers s k → (s.walks[k]).window = w → (s.walks[k]).page = e.page →
        exec .intakeTakeRequest s = .next
          { v with
            walks := s.walks.set k { s.walks[k] with waiters := (s.walks[k]).waiters ++ [i] } })
      ∧ (Uncovered s w e.page →
        (∀ k : WalkId, LowestFreeWalk s k →
            (∀ j ∈ s.backlog, ¬((s.entries[j]).window = w ∧ (s.entries[j]).page = e.page)) →
          exec .intakeTakeRequest s = .next
            { v with
              walks := s.walks.set k (startedWalk s i w e.page)
              ownList := s.ownList ++ [.walk k] })
        ∧ ((∀ k : WalkId, (s.walks[k]).state ≠ .free) →
          exec .intakeTakeRequest s = .next { v with backlog := s.backlog ++ [i] })))

/-- With the U-port UP and HOLD_CPL off, ISSUE_ARBITER_GRANT sends: the oldest REPLYING slot's reply with
status OK, the slot becoming FREE, or, with no slot REPLYING, the head of the reply-refusal queue with
its status and no data, when no device completion waits or the turn is MANAGEMENT, after which the turn
is PASS_THROUGH; the head of the D-port completion ingress as it arrived, when management has nothing
waiting or the turn is PASS_THROUGH, after which the turn is MANAGEMENT. Nothing else changes. That the
packet sent is held in a transmit register is the model's choice (log entry 8). (From R81, R82.) -/
def Obligations.CompletionClassGrant : Prop :=
  ∀ (s : State) (m : MgmtId) (mrest : List MgmtId) (r : Refused) (rrest : List Refused) (p : CplPacket)
    (prest : List CplPacket),
    s.uUp = true → s.uHoldCpl = false →
    (s.replyOrder = m :: mrest → (s.dCplIn = [] ∨ s.cplTurn = .management) →
      exec .issueArbiterGrant s = .next
        { s with
          mgmt := s.mgmt.set m {}
          replyOrder := mrest
          uTx := some (.completion
            (buildCompletion (s.mgmt[m]).source (s.mgmt[m]).tag .ok (s.mgmt[m]).reply))
          cplTurn := .passThrough })
    ∧ (s.replyOrder = [] → s.replyRefusals = r :: rrest → (s.dCplIn = [] ∨ s.cplTurn = .management) →
      exec .issueArbiterGrant s = .next
        { s with
          replyRefusals := rrest
          uTx := some (.completion (buildCompletion r.source r.tag r.status []))
          cplTurn := .passThrough })
    ∧ (s.dCplIn = p :: prest → ((s.replyOrder = [] ∧ s.replyRefusals = []) ∨ s.cplTurn = .passThrough) →
      exec .issueArbiterGrant s = .next
        { s with dCplIn := prest, uTx := some (.completion p), cplTurn := .management })

/-- With the U-port UP, no completion that can be sent and HOLD_REQ off, ISSUE_ARBITER_GRANT sends the head
of the issue queue when the own list is empty or the rotation counter is below N: the QUEUED entry
becomes ISSUED, its request goes with source 31, its index as tag, its kind, length, host address and
payload, FORWARDED counts a first issue, and the counter becomes 0 or rises by 1. Otherwise it sends the
head of the own list: a walk slot's one-word READ with tag 64 + slot, counting WALKS_ISSUED or
WALK_RETRIES, or the alert slot's two-word WRITE with tag 68, the slot becoming ISSUED and the counter 0.
Nothing else changes. That the packet is held in a transmit register is the model's choice (log entry 8).
(From R30, R80, R83, R84, R85, R86, R87, R142.) -/
def Obligations.RequestClassGrant : Prop :=
  ∀ (s : State) (i : EntryId) (irest : List EntryId) (a : HAddr) (k : WalkId) (orest : List OwnRequest),
    s.uUp = true → ((s.replyOrder = [] ∧ s.replyRefusals = [] ∧ s.dCplIn = []) ∨ s.uHoldCpl = true) →
    s.uHoldReq = false →
    (s.issueQ = i :: irest → (s.entries[i]).state = .queued → (s.entries[i]).hostAddr = some a →
        (s.ownList = [] ∨ s.rotation < s.guarantee) →
      let e := s.entries[i]
      let u :=
        { s with
          issueQ := irest
          entries := s.entries.set i { e with state := .issued }
          uTx := some (.request (buildRequest e.kind 31 (BitVec.ofNat 7 i.val) e.length a e.payload))
          rotation := if s.ownList = [] then 0 else s.rotation + 1 }
      exec .issueArbiterGrant s = .next (if e.retryCount = 0 then bump forwarded u else u))
    ∧ (s.ownList = .walk k :: orest → (s.walks[k]).state = .queued →
        (s.issueQ = [] ∨ s.guarantee ≤ s.rotation) →
      exec .issueArbiterGrant s = .next
        (bump (if (s.walks[k]).retryCount = 0 then walksIssued else walkRetries)
          { s with
            ownList := orest
            walks := s.walks.set k { s.walks[k] with state := .issued }
            uTx := some (.request
              (buildRequest .read 31 (BitVec.ofNat 7 (64 + k.val)) 1 (s.walks[k]).mapAddr []))
            rotation := 0 }))
    ∧ (s.ownList = .alert :: orest → s.alertSlot.state = .queued →
        (s.issueQ = [] ∨ s.guarantee ≤ s.rotation) →
      exec .issueArbiterGrant s = .next
        { s with
          ownList := orest
          alertSlot := { s.alertSlot with state := .issued }
          uTx := some (.request (buildRequest .write 31 68 2 s.alertSlot.address s.alertSlot.payload))
          rotation := 0 })

/-- With the D-port UP, HOLD_CPL off, no request due after a run of 8, and the head of the answer queue
chosen, ANSWER_ARBITER_GRANT sends the entry's answer to its requester: the entry becomes FREE, or
ABANDONED with abandon tick now if its upstream request is open; COMPLETED counts an OK answer that is
not filled and FAULTED every other; the outstanding count falls by 1; a DRAINING context whose count
reaches 0 becomes OFF and its quiesce slot, if present, becomes REPLYING with DONE; the turn becomes
REFUSAL and the run count rises, up to 8, while a host request is to be sent. Nothing else changes. That
the packet sent is held in a transmit register is the model's choice (log entry 8). What counts as a
request to be sent, which the run count reads, is the model's reading (log entry 18). (From R55, R56,
R66, R71, R171.) -/
def Obligations.AnswerSentFreesOrAbandons : Prop :=
  ∀ (s : State) (i : EntryId) (rest : List EntryId) (a : Answer),
    s.dUp = true → s.dHoldCpl = false →
    ¬(8 ≤ s.runCount ∧ s.downQ ≠ [] ∧ s.refusalCount = 0 ∧ s.dHoldReq = false) →
    s.answerQ = i :: rest → (s.refusalQ = [] ∨ s.answerTurn = .answer) →
    (s.entries[i]).state = .answering → (s.entries[i]).answer = some a →
    let e := s.entries[i]
    let r := e.requester
    let c := s.contexts[r]
    let u := bump (if a.status = .ok ∧ a.filled = false then completed r else faulted r)
      { s with
        answerQ := rest
        answerTurn := .refusal
        runCount := if s.refusalCount < s.downQ.length then min (s.runCount + 1) 8 else s.runCount
        dTx := some (.completion (buildCompletion (BitVec.ofNat 5 r.val) e.reqTag a.status a.data))
        entries := s.entries.set i
          (if e.upstreamOpen = true then
            { e with state := .abandoned, abandonTick := some s.now, answer := none, upstreamOpen := false }
          else {}) }
    exec .answerArbiterGrant s = .next
      (if c.state = .draining ∧ c.outstanding = 1 then
        let v :=
          { u with contexts := s.contexts.set r { c with state := .off, outstanding := 0, quiesce := none } }
        match c.quiesce with
        | none => v
        | some m =>
          { v with
            mgmt := s.mgmt.set m
              { s.mgmt[m] with state := .replying, payload := [], reply := [resultWord .done] }
            replyOrder := s.replyOrder ++ [m] }
      else { u with contexts := s.contexts.set r { c with outstanding := c.outstanding - 1 } })

/-- With the D-port UP: the head of the refusal queue, when HOLD_CPL is off, no request is due after a run of
8 and it is chosen, is sent with its source, tag and status and no data and leaves its queue, the turn
becoming ANSWER; the head of the down pass-through queue, when the refusal count is 0, HOLD_REQ is off,
and the run count is 8 or no completion can go, is sent as it arrived and leaves its queue, the run count
becoming 0. Nothing else changes but the run count of a completion grant. The transmit register, and what
counts as a request to be sent, are the model's choice and reading (log entries 8 and 18). (From R47,
R48, R171, R172.) -/
def Obligations.RefusalOrRequestSent : Prop :=
  ∀ (s : State) (r : Refused) (rest : List Refused) (p : ReqPacket) (prest : List ReqPacket),
    s.dUp = true →
    (s.dHoldCpl = false → ¬(8 ≤ s.runCount ∧ s.downQ ≠ [] ∧ s.refusalCount = 0 ∧ s.dHoldReq = false) →
        s.refusalQ = r :: rest → (s.answerQ = [] ∨ s.answerTurn = .refusal) →
      exec .answerArbiterGrant s = .next
        { s with
          refusalQ := rest
          answerTurn := .answer
          runCount := if s.refusalCount < s.downQ.length then min (s.runCount + 1) 8 else s.runCount
          dTx := some (.completion (buildCompletion r.source r.tag r.status [])) })
    ∧ (s.downQ = p :: prest → s.refusalCount = 0 → s.dHoldReq = false →
        (8 ≤ s.runCount ∨ (s.answerQ = [] ∧ s.refusalQ = []) ∨ s.dHoldCpl = true) →
      exec .answerArbiterGrant s = .next
        { s with downQ := prest, dTx := some (.request p), runCount := 0 })

/-- Nothing changes when: intake has no request, no FREE entry or no room for a refusal; the Issue Arbiter is
DOWN or has nothing it may send; the answer arbiter is DOWN or has nothing it may send; no pass-through
refusal is due or has room; no completion waits; no host request waits; the row of a timer that has not
run out, or whose block has taken the tick, comes; a management row comes while the order is empty or its
head waits for a fence slot; a step finds no command waiting. That a row which is not due leaves the
state as it is, and that an empty queue idles, are the model's choices (log entries 1 and 2). (From R38,
R43, R52, R80, R102, R145, R152, R171, R173.) -/
def Obligations.HappeningsWait : Prop :=
  ∀ (s : State) (e : EntryId) (k : WalkId),
    ((s.dReqIn = [] ∨ 16 ≤ s.refusalQ.length ∨ ∀ i : EntryId, (s.entries[i]).state ≠ .free) →
      exec .intakeTakeRequest s = .next s)
    ∧ ((s.uUp = false
        ∨ (((s.replyOrder = [] ∧ s.replyRefusals = [] ∧ s.dCplIn = []) ∨ s.uHoldCpl = true)
          ∧ ((s.issueQ = [] ∧ s.ownList = []) ∨ s.uHoldReq = true))) →
      exec .issueArbiterGrant s = .next s)
    ∧ ((s.dUp = false
        ∨ (((s.answerQ = [] ∧ s.refusalQ = []) ∨ s.dHoldCpl = true)
          ∧ (s.downQ = [] ∨ 0 < s.refusalCount ∨ s.dHoldReq = true))) →
      exec .answerArbiterGrant s = .next s)
    ∧ ((s.downQ = [] ∨ s.refusalCount = 0 ∨ 4 ≤ s.replyRefusals.length) →
      exec .passThroughRefusal s = .next s)
    ∧ (s.uCplIn = [] → exec .completionMatching s = .next s)
    ∧ (s.uReqIn = [] → exec .managementDecode s = .next s)
    ∧ ((s.tableDue = false ∨ entryExpires s e = false) → exec (.requestAgeExpiry e) s = .next s)
    ∧ ((s.tableDue = false ∨ entryReleases s e = false) → exec (.entryRelease e) s = .next s)
    ∧ ((s.tableDue = false ∨ entryReclaims s e = false) → exec (.entryReclaim e) s = .next s)
    ∧ ((s.walkDue = false ∨ walkTimesOut s k = false) → exec (.walkTimeout k) s = .next s)
    ∧ ((s.walkDue = false ∨ walkReleases s k = false) → exec (.walkRelease k) s = .next s)
    ∧ ((s.walkDue = false ∨ walkReclaims s k = false) → exec (.walkReclaim k) s = .next s)
    ∧ ((s.alertDue = false ∨ alertTimesOut s = false) → exec .alertTimeout s = .next s)
    ∧ ((s.alertDue = false ∨ alertReleases s = false) → exec .alertRelease s = .next s)
    ∧ ((s.alertDue = false ∨ alertReclaims s = false) → exec .alertReclaim s = .next s)
    ∧ ((s.mgmtOrder = [] ∨ s.headWaiting = true) →
      ∀ c ∈ [Instr.loadWindow, .retireWindow, .invalidate, .configureRequester, .enableRequester,
          .resumeRequester, .quiesceRequester, .setTiming, .setArbiter, .setAlert, .ackAlert,
          .clearCounters, .clearFaults, .moveAperture, .status, .window, .requester, .counters, .fault,
          .time, .fences],
        exec c s = .next s)
    ∧ ((s.headWaiting = false ∨ ∀ j : FenceId, (s.fences[j]).state ≠ .free) →
      exec .fenceCommandResumption s = .next s)
    ∧ (s.pending = [] → step s = .next s)

/-- While the refusal count is above 0 and the reply-refusal queue has room, the D-port takes the head of the
down pass-through queue: it leaves the queue, the refusal count falls by 1, and a reply refusal with its
source and tag and status ERROR joins the reply-refusal queue; nothing else changes. (From R153, R154,
R172, R173.) -/
def Obligations.PassThroughRefusalAnswersError : Prop :=
  ∀ (s : State) (p : ReqPacket) (rest : List ReqPacket),
    s.downQ = p :: rest → 0 < s.refusalCount → s.replyRefusals.length < 4 →
    exec .passThroughRefusal s = .next
      { s with
        downQ := rest
        refusalCount := s.refusalCount - 1
        replyRefusals := s.replyRefusals ++ [⟨headerSource p.h0, headerTag p.h0, .error⟩] }

/-- A host request in the aperture whose offset, kind, length and payload are those of a row of the aperture
map takes the lowest-numbered FREE management slot, which becomes QUEUED at the tail of the order with
the source, tag, name and payload; with no slot FREE it is refused RETRY; one that names nothing exactly
is refused ERROR; a request outside the aperture joins the down pass-through queue while the D-port is UP
and is refused ERROR while it is DOWN. The head waits, and nothing changes, while its outcome lacks room.
That a READ is matched without regard to words that follow its header is the model's reading (log entry
25). (From R148.) -/
def Obligations.DecodeFollowsItsTable : Prop :=
  ∀ (s : State) (p : ReqPacket) (rest : List ReqPacket),
    s.uReqIn = p :: rest →
    let inside := s.apertureBase.toNat ≤ (requestAddress p).toNat
      ∧ (requestAddress p).toNat < s.apertureBase.toNat + 0x10000
    let off := (requestAddress p).toNat - s.apertureBase.toNat
    let names (row : ApertureRow) : Prop := row.offset = off ∧ row.kind = requestKind p
      ∧ row.words = headerLength p.h0 ∧ (requestKind p = .write → p.body.length = headerLength p.h0)
    let refusal (st : Status) : State :=
      if s.replyRefusals.length < 4 then
        { s with
          uReqIn := rest
          replyRefusals := s.replyRefusals ++ [⟨headerSource p.h0, headerTag p.h0, st⟩] }
      else s
    (inside → ∀ row ∈ apertureMap, names row →
      (∀ m : MgmtId, (s.mgmt[m]).state = .free → (∀ j : MgmtId, j < m → (s.mgmt[j]).state ≠ .free) →
        exec .managementDecode s = .next
          { s with
            uReqIn := rest
            mgmt := s.mgmt.set m
              { state := .queued, source := headerSource p.h0, tag := headerTag p.h0, op := some row.op
                payload := if requestKind p = .write then p.body else [], reply := [] }
            mgmtOrder := s.mgmtOrder ++ [m] })
      ∧ ((∀ m : MgmtId, (s.mgmt[m]).state ≠ .free) → exec .managementDecode s = .next (refusal .retry)))
    ∧ (inside → (∀ row ∈ apertureMap, ¬names row) → exec .managementDecode s = .next (refusal .error))
    ∧ (¬inside → s.dUp = true →
      exec .managementDecode s = .next
        (if s.downQ.length < 16 then { s with uReqIn := rest, downQ := s.downQ ++ [p] } else s))
    ∧ (¬inside → s.dUp = false → exec .managementDecode s = .next (refusal .error))

/-- A completion whose source is not 31, whose tag is 69..127, or whose tag names an entry in FREE,
TRANSLATING, QUEUED, RETRY_WAIT or ANSWERING, a walk slot in FREE, QUEUED or RETRY_WAIT, or the alert
slot in those states, leaves the ingress; STRAY_COMPLETIONS counts 1 and one STRAY_COMPLETION record is
made, with the fields R97 gives for what the tag names; nothing else changes but what an enqueued
record's alert does. With fewer than 16 records queued the record joins the tail with the current tick
and the overflow-pending flag, which is then cleared, and the trigger is evaluated; with 16 it is
dropped, the lost count rises by 1 unless it stands at 255, overflow-pending is set, and the trigger is
not evaluated. Every record is offered so. That the alert slot's record carries the address the slot
captured is the model's reading (log entry 13). (From R31, R93, R97, R132, R143.) -/
def Obligations.StrayCompletionDiscarded : Prop :=
  ∀ (s : State) (p : CplPacket) (rest : List CplPacket),
    s.uCplIn = p :: rest →
    let joined (r : FaultRecord) (v : State) : State :=
      { v with
        faults := v.faults ++ [{ r with tick := v.now, overflow := v.overflowPending }]
        overflowPending := false }
    let dropped (v : State) : State :=
      { v with lost := if v.lost < 255 then v.lost + 1 else v.lost, overflowPending := true }
    let u := bump strayCompletions { s with uCplIn := rest }
    let stray (r : FaultRecord) : State :=
      if s.faults.length < 16 then evalTrigger (joined r u) else dropped u
    ((headerSource p.h0 ≠ 31 ∨ 69 ≤ (headerTag p.h0).toNat) →
      exec .completionMatching s = .next (stray { kind := .strayCompletion }))
    ∧ (∀ i : EntryId, CompletionFor s p rest i.val →
      ((s.entries[i]).state = .free →
        exec .completionMatching s = .next (stray { kind := .strayCompletion }))
      ∧ ((s.entries[i]).state ∈ [EntryState.translating, .queued, .retryWait, .answering] →
        exec .completionMatching s = .next (stray (entryNote .strayCompletion 0 s.entries[i]))))
    ∧ (∀ k : WalkId, CompletionFor s p rest (64 + k.val) →
      ((s.walks[k]).state = .free →
        exec .completionMatching s = .next (stray { kind := .strayCompletion }))
      ∧ ((s.walks[k]).state ∈ [SlotState.queued, .retryWait] →
        exec .completionMatching s = .next
          (stray
            { kind := .strayCompletion, window := some (s.walks[k]).window
              hostAddr := some (s.walks[k]).mapAddr })))
    ∧ (CompletionFor s p rest 68 →
      (s.alertSlot.state = .free →
        exec .completionMatching s = .next (stray { kind := .strayCompletion }))
      ∧ (s.alertSlot.state ∈ [SlotState.queued, .retryWait] →
        exec .completionMatching s = .next
          (stray { kind := .strayCompletion, hostAddr := some s.alertSlot.address })))
    ∧ (∀ (r : FaultRecord) (v : State),
      (v.faults.length < 16 → offerRecord r v = joined r v)
      ∧ (16 ≤ v.faults.length → offerRecord r v = dropped v))

/-- A completion matched to an ABANDONED entry, of any status, length and data, counts LATE_COMPLETIONS,
makes one LATE_COMPLETION record with the entry's requester, tag, window and addresses, removes the
entry's marks, which lowers the counts of their fences and ends those that reach 0, and makes the entry
FREE with its fields cleared; nothing is sent to any device and nothing else changes but what an enqueued
record's alert does. (Formalises R96.) -/
def Obligations.LateCompletionFreesEntry : Prop :=
  ∀ (s : State) (p : CplPacket) (rest : List CplPacket) (i : EntryId),
    CompletionFor s p rest i.val → (s.entries[i]).state = .abandoned →
    exec .completionMatching s = .next
      (shed (marksOf s.entries[i])
        (noteRecords [entryNote .lateCompletion 0 s.entries[i]]
          (bump lateCompletions { s with uCplIn := rest, entries := s.entries.set i {} })))

/-- At an ISSUED entry, a completion of status OK whose data is exactly the length of a READ, or none for a
WRITE, answers the entry OK with that data. An OK completion of another length, or one of any code but OK
and RETRY, counts UPSTREAM_ERRORS, makes one UPSTREAM_ERROR record with detail LENGTH or STATUS and the
entry's fields, and answers it ABORT. The answered entry sheds its marks, payload and host address and
joins the tail of the answer queue; fences whose counts reach 0 end. Premise: the law of places.
(Formalises R94, R95.) -/
def Obligations.EntryCompletionEnds : Prop :=
  ∀ (s : State) (p : CplPacket) (rest : List CplPacket) (i : EntryId),
    PlaceLaw s → CompletionFor s p rest i.val → (s.entries[i]).state = .issued →
    let e := s.entries[i]
    let fits := p.body.length = if e.kind = .read then e.length else 0
    let answered (a : Answer) : State :=
      { s with
        uCplIn := rest
        entries := s.entries.set i (e.answered a false)
        answerQ := s.answerQ ++ [i] }
    let failed (detail : Nat) : State :=
      shed (marksOf e)
        (noteRecords [entryNote .upstreamError detail e] (bump upstreamErrors (answered { status := .abort })))
    (headerStatus p.h0 = 0 → fits →
      exec .completionMatching s = .next (shed (marksOf e) (answered { status := .ok, data := p.body })))
    ∧ (headerStatus p.h0 = 0 → ¬fits → exec .completionMatching s = .next (failed 2))
    ∧ (headerStatus p.h0 ≠ 0 → headerStatus p.h0 ≠ 1 → exec .completionMatching s = .next (failed 1))

/-- At an ISSUED entry a RETRY counts RETRIES_RECEIVED. Below the requester's limit the retry count rises to
c and the backoff is d = min(b * 2^(c - 1), 255): with d > 0 the entry becomes RETRY_WAIT with release
tick now + d; with d = 0 it is answered TIMEOUT with a TIMEOUT record of detail RETRY_WAIT if its age has
reached the timeout, and otherwise, unmarked, becomes QUEUED at the tail of the issue queue. At the limit
a RETRY_EXHAUSTED record with the policy as detail is made and the entry is answered ABORT, or for a READ
under FILL OK with length words of all ones, filled. Premise: the law of places. The marked release, at
its tick or at once, is MarkedReleaseRetranslates. (From R54, R88, R89, R92, R104.) -/
def Obligations.HostRetryAtEntry : Prop :=
  ∀ (s : State) (p : CplPacket) (rest : List CplPacket) (i : EntryId),
    PlaceLaw s → CompletionFor s p rest i.val → (s.entries[i]).state = .issued → headerStatus p.h0 = 1 →
    let e := s.entries[i]
    let c := s.contexts[e.requester]
    let d := min (c.backoffBase * 2 ^ e.retryCount) 255
    let aged := c.timeout ≤ (s.now - e.acceptTick).toNat
    let u := bump retriesReceived { s with uCplIn := rest }
    (e.retryCount < c.retryLimit → 0 < d →
      exec .completionMatching s = .next
        { u with
          entries := s.entries.set i
            { e with
              state := .retryWait, retryCount := e.retryCount + 1
              releaseTick := some (s.now + BitVec.ofNat 32 d) } })
    ∧ (e.retryCount < c.retryLimit → d = 0 → aged →
      exec .completionMatching s = .next
        (shed (marksOf e)
          (noteRecords [entryNote .timeout 4 e]
            (bump timeouts
              { u with
                entries := s.entries.set i
                  ({ e with retryCount := e.retryCount + 1 }.answered { status := .timeout } false)
                answerQ := s.answerQ ++ [i] }))))
    ∧ (e.retryCount < c.retryLimit → d = 0 → ¬aged → e.marks = noMarks →
      exec .completionMatching s = .next
        { u with
          entries := s.entries.set i
            { e with state := .queued, retryCount := e.retryCount + 1, releaseTick := none }
          issueQ := s.issueQ ++ [i] })
    ∧ (c.retryLimit ≤ e.retryCount →
      exec .completionMatching s = .next
        (shed (marksOf e)
          (noteRecords [entryNote .retryExhausted (if c.exhaustion = .fail then 1 else 2) e]
            { u with
              entries := s.entries.set i
                (e.answered
                  (if c.exhaustion = .fill ∧ e.kind = .read then
                    { status := .ok, data := List.replicate e.length (BitVec.allOnes 64), filled := true }
                  else { status := .abort })
                  false)
              answerQ := s.answerQ ++ [i] })))

/-- When an ISSUED walk that is not stale is brought one word with no reserved bit set, present, and with a
matching check byte unless the check mode is OFF or REPORT, the slot becomes FREE, the word joins the Map
Cache as its most recent entry, the least recent going when it held 48, each waiter whose kind is in its
effective rights becomes QUEUED at frame * 16 KiB + (a mod 16 KiB) in list order, and every other is
answered DENIED in list order with a RIGHTS record and the stop policy. Under REPORT a mismatch counts
and is recorded first. Premises: the laws of places, marks and the own list, and an empty backlog (its
serving is LateWalkFreesAndServes). (From R5, R8, R11, R12, R13, R20, R23, R32, R33, R72.) -/
def Obligations.UsableWalkInstalls : Prop :=
  ∀ (s : State) (p : CplPacket) (rest : List CplPacket) (k : WalkId) (word : Word),
    PlaceLaw s → MarkLaw s → OwnListLaw s → s.backlog = [] → CompletionFor s p rest (64 + k.val) →
    headerStatus p.h0 = 0 → p.body = [word] → (s.walks[k]).state = .issued → (s.walks[k]).stale = false →
    let x := s.walks[k]
    let win := s.windows[x.window]
    reservedClear word = true → (checkByteMatches word = true ∨ win.checkMode ≠ .enforce) →
    mapPresent word = true →
    let frame : BitVec 36 := word.extractLsb' 14 36
    let kinds : Rights := { read := word.getLsbD 1, write := word.getLsbD 2 }
    let permitted (i : EntryId) : Bool := (win.rights.meet kinds).permits (s.entries[i]).kind
    let denied := x.waiters.filter fun i => !permitted i
    let mismatch : Bool := decide (win.checkMode = .report) && !checkByteMatches word
    let u :=
      { s with
        uCplIn := rest
        walks := s.walks.set k {}
        cache := ({ window := x.window, page := x.page, frame := frame, rights := kinds } :: s.cache).take 48
        entries := Vector.ofFn fun i : Fin 64 =>
          if i ∈ x.waiters then
            (if permitted i = true then
              { s.entries[i] with
                state := .queued
                hostAddr := some (frame ++ (s.entries[i]).dAddr.extractLsb' 0 14) }
            else (s.entries[i]).answered { status := .denied } false)
          else s.entries[i]
        issueQ := s.issueQ ++ x.waiters.filter permitted
        answerQ := s.answerQ ++ denied
        contexts := stoppedContexts .rights denied s }
    let records :=
      (if mismatch = true then [walkNote .mapCheck 1 k s] else [])
        ++ denied.map fun i =>
          ({ kind := .rights, requester := some (s.entries[i]).requester, reqTag := some (s.entries[i]).reqTag
             window := some x.window, dAddr := some (s.entries[i]).dAddr } : FaultRecord)
    exec .completionMatching s = .next
      (noteRecords records (if mismatch = true then bump mapCheckMismatches u else u))

/-- When an ISSUED walk that is not stale is brought one word: a set reserved bit makes a MAP_FORMAT record
whatever the check mode; else an ENFORCE mismatch counts and makes a MAP_CHECK record ENFORCED; else a
clear present bit makes a NOT_PRESENT record, after a counted MAP_CHECK record REPORTED for a REPORT
mismatch. Every waiter is answered UNMAPPED in list order, the stop policy acts on their requesters, and
the slot becomes FREE, with nothing installed. A stale walk's word is not looked at: no mismatch counts
and no cache entry is added. Its slot becomes FREE and its waiters re-translate in list order: to
UNMAPPED when their matches are RETIRING or none; and when they all match one VALID window, to DENIED
with RIGHTS records and the stop policy if it lacks their kinds, to QUEUED by a DIRECT window, and in one
page of a MAPPED window to QUEUED or DENIED by the effective rights of its cache entry, or on a miss onto
the walk that covers the page, or onto one new walk in the lowest-numbered FREE slot. Premises: the laws
of places, marks and the own list; for all but what a stale word leaves alone an empty backlog, and for
lookups the law of the Map Cache. What a refused re-translation leaves in the entry is the model's
reading (log entry 14). (From R5, R11, R12, R13, R18, R21, R26, R31, R32, R34, R35, R72.) -/
def Obligations.UnusableOrStaleWord : Prop :=
  ∀ (s : State) (p : CplPacket) (rest : List CplPacket) (k : WalkId) (word : Word) (w : WinId) (page : Nat)
    (c : CacheEntry) (j : WalkId),
    PlaceLaw s → MarkLaw s → OwnListLaw s → CompletionFor s p rest (64 + k.val) →
    headerStatus p.h0 = 0 → p.body = [word] → (s.walks[k]).state = .issued →
    let x := s.walks[k]
    let mode := (s.windows[x.window]).checkMode
    let bad := checkByteMatches word = false
    let freed := { s with uCplIn := rest, walks := s.walks.set k {} }
    let u := { freed with entries := unmappedEntries x.waiters s, answerQ := s.answerQ ++ x.waiters }
    let stopped (kind : FaultKind) : State := { u with contexts := stoppedContexts kind x.waiters s }
    let win := s.windows[w]
    let pageIn (e : Entry) : Nat := (e.dAddr.toNat - win.base.toNat) / 16384
    let handed (f : Entry → Entry) : Vector Entry 64 :=
      Vector.ofFn fun i : Fin 64 => if i ∈ x.waiters then f s.entries[i] else s.entries[i]
    let refusals (is : List EntryId) : List FaultRecord := is.map fun i =>
      { kind := .rights, requester := some (s.entries[i]).requester, reqTag := some (s.entries[i]).reqTag
        window := some w, dAddr := some (s.entries[i]).dAddr }
    let match1 := x.stale = true ∧ win.state = .valid
      ∧ ∀ i ∈ x.waiters, Matches s (s.entries[i]).requester (s.entries[i]).dAddr w
    let allowed := match1 ∧ ∀ i ∈ x.waiters, win.rights.permits (s.entries[i]).kind = true
    let looked := allowed ∧ CacheLaw s ∧ win.mode = some .mapped ∧ x.waiters ≠ []
      ∧ ∀ i ∈ x.waiters, pageIn s.entries[i] = page
    let missed := { freed with
      translationCtrs := s.translationCtrs.set 1 (s.translationCtrs[1] + BitVec.ofNat 32 x.waiters.length)
      entries := handed fun e => { e with window := w, page := page, hostAddr := none } }
    (x.stale = true → ∀ t : State, exec .completionMatching s = .next t →
      (∀ d ∈ t.cache, d ∈ s.cache) ∧ t.counter mapCheckMismatches = s.counter mapCheckMismatches)
    ∧ (s.backlog = [] →
      (x.stale = false → reservedClear word = false →
        exec .completionMatching s = .next (noteRecords [walkNote .mapFormat 0 k s] (stopped .mapFormat)))
      ∧ (x.stale = false → reservedClear word = true → mode = .enforce → bad →
        exec .completionMatching s = .next
          (noteRecords [walkNote .mapCheck 2 k s] (bump mapCheckMismatches (stopped .mapCheck))))
      ∧ (x.stale = false → reservedClear word = true → mode = .report → bad → mapPresent word = false →
        exec .completionMatching s = .next
          (noteRecords [walkNote .mapCheck 1 k s, walkNote .notPresent 0 k s]
            (bump mapCheckMismatches (stopped .notPresent))))
      ∧ (x.stale = false → reservedClear word = true → (mode = .off ∨ ¬bad) → mapPresent word = false →
        exec .completionMatching s = .next (noteRecords [walkNote .notPresent 0 k s] (stopped .notPresent)))
      ∧ (x.stale = true →
          (∀ i ∈ x.waiters, ∀ v : WinId,
            (s.windows[v]).matches (s.entries[i]).requester (s.entries[i]).dAddr = true →
              (s.windows[v]).state = .retiring) →
        exec .completionMatching s = .next u)
      ∧ (match1 → (∀ i ∈ x.waiters, win.rights.permits (s.entries[i]).kind = false) →
        exec .completionMatching s = .next
          (noteRecords (refusals x.waiters)
            { freed with
              entries := handed fun e => e.answered { status := .denied } false
              answerQ := s.answerQ ++ x.waiters
              contexts := stoppedContexts .rights x.waiters s }))
      ∧ (allowed → win.mode = some .direct →
        exec .completionMatching s = .next
          { freed with
            entries := handed fun e =>
              { e with
                state := .queued, window := w, page := pageIn e
                hostAddr := some (win.hostBase + (e.dAddr - win.base).setWidth 50) }
            issueQ := s.issueQ ++ x.waiters })
      ∧ (looked → c ∈ s.cache → c.window = w → c.page = page → c.upset = false →
        let permitted (e : Entry) : Bool := (win.rights.meet c.rights).permits e.kind
        let denied := x.waiters.filter fun i => !permitted s.entries[i]
        exec .completionMatching s = .next
          (noteRecords (refusals denied)
            { freed with
              cache := c :: s.cache.filter fun y => !(decide (y.window = w) && decide (y.page = page))
              translationCtrs :=
                s.translationCtrs.set 0 (s.translationCtrs[0] + BitVec.ofNat 32 x.waiters.length)
              entries := handed fun e =>
                let f := { e with window := w, page := page }
                if permitted e = true then
                  { f with state := .queued, hostAddr := some (c.frame ++ e.dAddr.extractLsb' 0 14) }
                else f.answered { status := .denied } false
              issueQ := s.issueQ ++ x.waiters.filter fun i => permitted s.entries[i]
              answerQ := s.answerQ ++ denied
              contexts := stoppedContexts .rights denied s }))
      ∧ (looked → Uncached s w page → covers s j → (s.walks[j]).window = w → (s.walks[j]).page = page →
        exec .completionMatching s = .next
          { missed with
            walks := freed.walks.set j { s.walks[j] with waiters := (s.walks[j]).waiters ++ x.waiters } })
      ∧ (looked → Uncached s w page → Uncovered s w page → LowestFreeWalk freed j →
        exec .completionMatching s = .next
          { missed with
            walks := freed.walks.set j
              { state := .queued, window := w, page := page, mapAddr := win.mapRoot + BitVec.ofNat 50 (8 * page)
                waiters := x.waiters, startTick := s.now }
            ownList := s.ownList ++ [.walk j] }))

/-- At an ISSUED walk, stale or not, a status other than OK and RETRY, or OK with other than one word, fails
the walk with detail ERROR; a RETRY at the walk retry limit fails it with detail RETRIES: WALK_FAILURES
counts, one WALK_FAILED record is made, every waiter is answered UNMAPPED in list order, the stop policy
acts on their requesters, and the slot becomes FREE. A RETRY below the limit raises the retry count to c
and the slot becomes RETRY_WAIT with release tick now + min(b * 2^(c - 1), 255), or QUEUED at the tail of
the own list when that is 0. Premises: the laws of places, marks and the own list; for a failure an empty
backlog. (From R31, R36, R37, R72, R83.) -/
def Obligations.WalkFailsOrRetries : Prop :=
  ∀ (s : State) (p : CplPacket) (rest : List CplPacket) (k : WalkId),
    PlaceLaw s → MarkLaw s → OwnListLaw s → CompletionFor s p rest (64 + k.val) →
    (s.walks[k]).state = .issued →
    let x := s.walks[k]
    let c := x.retryCount + 1
    let d := min (s.timing.walkBackoffBase * 2 ^ x.retryCount) 255
    let failed (detail : Nat) : State :=
      noteRecords [walkNote .walkFailed detail k s]
        (bump walkFailures
          { s with
            uCplIn := rest
            walks := s.walks.set k {}
            entries := unmappedEntries x.waiters s
            answerQ := s.answerQ ++ x.waiters
            contexts := stoppedContexts .walkFailed x.waiters s })
    (s.backlog = [] → headerStatus p.h0 ≠ 1 → (headerStatus p.h0 ≠ 0 ∨ p.body.length ≠ 1) →
      exec .completionMatching s = .next (failed 1))
    ∧ (s.backlog = [] → headerStatus p.h0 = 1 → s.timing.walkRetryLimit ≤ x.retryCount →
      exec .completionMatching s = .next (failed 3))
    ∧ (headerStatus p.h0 = 1 → x.retryCount < s.timing.walkRetryLimit → 0 < d →
      exec .completionMatching s = .next
        { s with
          uCplIn := rest
          walks := s.walks.set k
            { x with
              state := .retryWait, retryCount := c, releaseTick := some (s.now + BitVec.ofNat 32 d) } })
    ∧ (headerStatus p.h0 = 1 → x.retryCount < s.timing.walkRetryLimit → d = 0 →
      exec .completionMatching s = .next
        { s with
          uCplIn := rest
          walks := s.walks.set k { x with state := .queued, retryCount := c }
          ownList := s.ownList ++ [.walk k] })

/-- A completion of any status at an ABANDONED walk slot counts LATE_COMPLETIONS and makes a LATE_COMPLETION
record with the slot's window and map-entry address; the slot becomes FREE and the backlog is served into
it. With an empty backlog nothing else changes. With one backlog entry, every other slot busy, and the
entry's one match a VALID MAPPED window with the right whose page is neither cached nor covered, the
entry takes that window and page, CACHE_MISSES counts, and the freed slot starts its walk, which joins
the own list. Premise: the law of the own list. (From R18, R21, R26, R28, R29, R39, R83.) -/
def Obligations.LateWalkFreesAndServes : Prop :=
  ∀ (s : State) (p : CplPacket) (rest : List CplPacket) (k : WalkId) (i : EntryId) (w : WinId),
    OwnListLaw s → CompletionFor s p rest (64 + k.val) → (s.walks[k]).state = .abandoned →
    let note : FaultRecord :=
      { kind := .lateCompletion, window := some (s.walks[k]).window, hostAddr := some (s.walks[k]).mapAddr }
    let e := s.entries[i]
    let win := s.windows[w]
    let page := (e.dAddr.toNat - win.base.toNat) / 16384
    (s.backlog = [] →
      exec .completionMatching s = .next
        (noteRecords [note] (bump lateCompletions { s with uCplIn := rest, walks := s.walks.set k {} })))
    ∧ (s.backlog = [i] → e.state = .translating → Matches s e.requester e.dAddr w → win.state = .valid →
        win.mode = some .mapped → win.rights.permits e.kind = true → Uncached s w page → Uncovered s w page →
        (∀ j : WalkId, j ≠ k → (s.walks[j]).state ≠ .free) →
      exec .completionMatching s = .next
        (noteRecords [note]
          (bump lateCompletions
            (bump cacheMisses
              { s with
                uCplIn := rest
                backlog := []
                entries := s.entries.set i { e with window := w, page := page, hostAddr := none }
                walks := s.walks.set k (startedWalk s i w page)
                ownList := s.ownList ++ [.walk k] }))))

/-- At the ISSUED alert slot an OK completion without data makes the slot FREE; an ERROR, any other code, OK
with data, or a RETRY at the walk retry limit fails the alert: one ALERT_FAILED record with the captured
address and the slot FREE; a RETRY below the limit raises the retry count and the slot becomes
RETRY_WAIT, or QUEUED at the tail of the own list when the backoff is 0. At the ABANDONED slot a
completion of any status counts LATE_COMPLETIONS, makes a LATE_COMPLETION record and makes the slot FREE.
Whenever the slot becomes FREE the trigger is evaluated once, at the end. Premise: the law of the own
list. (From R83, R141, R142, R143, R144, R145.) -/
def Obligations.AlertCompletion : Prop :=
  ∀ (s : State) (p : CplPacket) (rest : List CplPacket),
    OwnListLaw s → CompletionFor s p rest 68 →
    let x := s.alertSlot
    let c := x.retryCount + 1
    let d := min (s.timing.walkBackoffBase * 2 ^ x.retryCount) 255
    let u := { s with uCplIn := rest }
    let freed := { u with alertSlot := {} }
    let failed := evalTrigger (offerRecord { kind := .alertFailed, hostAddr := some x.address } freed)
    (x.state = .issued →
      (headerStatus p.h0 = 0 → p.body = [] → exec .completionMatching s = .next (evalTrigger freed))
      ∧ (headerStatus p.h0 ≠ 1 → (headerStatus p.h0 ≠ 0 ∨ p.body ≠ []) →
        exec .completionMatching s = .next failed)
      ∧ (headerStatus p.h0 = 1 → s.timing.walkRetryLimit ≤ x.retryCount →
        exec .completionMatching s = .next failed)
      ∧ (headerStatus p.h0 = 1 → x.retryCount < s.timing.walkRetryLimit → 0 < d →
        exec .completionMatching s = .next
          { u with
            alertSlot :=
              { x with
                state := .retryWait, retryCount := c, releaseTick := some (s.now + BitVec.ofNat 32 d) } })
      ∧ (headerStatus p.h0 = 1 → x.retryCount < s.timing.walkRetryLimit → d = 0 →
        exec .completionMatching s = .next
          { u with alertSlot := { x with state := .queued, retryCount := c }, ownList := s.ownList ++ [.alert] }))
    ∧ (x.state = .abandoned →
      exec .completionMatching s = .next
        (evalTrigger
          (offerRecord { kind := .lateCompletion, hostAddr := some x.address } (bump lateCompletions freed))))

/-- When every block has taken the tick before, or no timer has run out at it, TICK advances the tick counter
by 1 modulo 2^32, the timing settings last written become those in force, and the three blocks have the
new tick to take; nothing else changes. A block that has still to take the tick before takes it first, by
its own row, in the order Transaction Table, Walk Unit, alert slot: TICK answers what it answers right
after the row of a timer of that block that has run out, and a block with no such timer only has the tick
behind it. That the blocks' examination of a tick is a happening of its own, taken before the next
advance and in that order, and how the settings are held, are the model's choice and readings (log
entries 4, 5 and 6). (From R100, R101, R102, R103.) -/
def Obligations.TickAdvances : Prop :=
  ∀ (s : State) (c : Instr) (j : EntryId) (k : WalkId),
    let tableQuiet := ∀ i : EntryId, EntryQuiet s i
    let walksQuiet := ∀ l : WalkId, WalkQuiet s l
    let alertQuiet := alertTimesOut s = false ∧ alertReleases s = false ∧ alertReclaims s = false
    (((s.tableDue = false ∧ s.walkDue = false ∧ s.alertDue = false) ∨ (tableQuiet ∧ walksQuiet ∧ alertQuiet)) →
      exec .tick s = .next
        { s with
          now := s.now + 1, tickTiming := s.timing, tableDue := true, walkDue := true, alertDue := true })
    ∧ (s.tableDue = true → tableQuiet → exec .tick s = exec .tick { s with tableDue := false })
    ∧ (s.tableDue = true →
        ((c = .requestAgeExpiry j ∧ entryExpires s j = true) ∨ (c = .entryRelease j ∧ entryReleases s j = true)
          ∨ (c = .entryReclaim j ∧ entryReclaims s j = true)) →
      ∃ t, exec c s = .next t ∧ t.tableDue = false ∧ exec .tick s = exec .tick t)
    ∧ (s.tableDue = false → s.walkDue = true → walksQuiet →
      exec .tick s = exec .tick { s with walkDue := false })
    ∧ (s.tableDue = false → s.walkDue = true →
        ((c = .walkTimeout k ∧ walkTimesOut s k = true) ∨ (c = .walkRelease k ∧ walkReleases s k = true)
          ∨ (c = .walkReclaim k ∧ walkReclaims s k = true)) →
      ∃ t, exec c s = .next t ∧ t.tableDue = false ∧ t.walkDue = false ∧ exec .tick s = exec .tick t)
    ∧ (s.tableDue = false → s.walkDue = false → s.alertDue = true →
        ((c = .alertTimeout ∧ alertTimesOut s = true) ∨ (c = .alertRelease ∧ alertReleases s = true)
          ∨ (c = .alertReclaim ∧ alertReclaims s = true)) →
      ∃ t, exec c s = .next t ∧ t.tableDue = false ∧ t.walkDue = false ∧ t.alertDue = false
        ∧ exec .tick s = exec .tick t)

/-- When an entry's timer has run out and the table has the tick to take, the entry's expiry, release or
reclaim is the whole table's taking of it: every entry whose age reached its timeout is answered TIMEOUT,
upstream open if it was ISSUED; every unmarked RETRY_WAIT entry at its release tick is QUEUED again;
every ABANDONED entry past the reclaim time is FREE. Answers, releases and the TIMEOUT and RECLAIMED
records follow the index, expired entries leave the issue queue, waiter lists and backlog, TIMEOUTS and
RECLAIMS count, marks are lost to their fences. Premise: no marked entry is released at this tick
(MarkedReleaseRetranslates). One taking per tick is the model's reading (log entries 4 and 5). (From R54,
R89, R102, R104, R105, R106, R108.) -/
def Obligations.TableTakesTick : Prop :=
  ∀ (s : State) (c : Instr) (j : EntryId),
    s.tableDue = true →
    (∀ i : EntryId, entryReleases s i = true → entryExpires s i = true ∨ (s.entries[i]).marks = noMarks) →
    ((c = .requestAgeExpiry j ∧ entryExpires s j = true) ∨ (c = .entryRelease j ∧ entryReleases s j = true)
      ∨ (c = .entryReclaim j ∧ entryReclaims s j = true)) →
    let expired (i : EntryId) : Bool := entryExpires s i
    let released (i : EntryId) : Bool := !expired i && entryReleases s i
    let reclaimed (i : EntryId) : Bool := entryReclaims s i
    let all := List.finRange 64
    let records := all.filterMap fun i =>
      if expired i = true then some (entryNote .timeout (expiryDetail (s.entries[i]).state) s.entries[i])
      else if reclaimed i = true then some (entryNote .reclaimed 0 s.entries[i])
      else none
    let lost (k : FenceId) : Nat :=
      all.countP fun i => (s.entries[i]).marks[k] && (expired i || reclaimed i)
    exec c s = .next
      (shed lost
        (noteRecords records
          { s with
            tableDue := false
            entries := Vector.ofFn fun i : Fin 64 =>
              if expired i = true then
                (s.entries[i]).answered { status := .timeout } (decide ((s.entries[i]).state = .issued))
              else if released i = true then { s.entries[i] with state := .queued, releaseTick := none }
              else if reclaimed i = true then {}
              else s.entries[i]
            issueQ := (s.issueQ.filter fun i => !expired i) ++ all.filter released
            answerQ := s.answerQ ++ all.filter expired
            backlog := s.backlog.filter fun i => !expired i
            walks := Vector.ofFn fun k : Fin 4 =>
              { s.walks[k] with waiters := (s.walks[k]).waiters.filter fun i => !expired i }
            transactionCtrs :=
              (s.transactionCtrs.set 2 (s.transactionCtrs[2] + BitVec.ofNat 32 (all.countP expired))).set 5
                (s.transactionCtrs[5] + BitVec.ofNat 32 (all.countP reclaimed)) }))

/-- When a marked entry is released, at its release tick as the one entry whose timer has run out or at once
by a RETRY below the limit whose backoff is 0 and whose age has not reached the timeout, its marks are
lost to their fences and its old host address is discarded, and it re-translates from the window match:
answered UNMAPPED for no window or a RETIRING one; answered DENIED with a RIGHTS record and the stop
policy for a VALID window without its kind; QUEUED with the window's DIRECT address; on a good cache
entry, counting CACHE_HITS, QUEUED in its frame, or answered DENIED in the same way if the effective
rights lack its kind; on a miss, counting CACHE_MISSES, TRANSLATING at the tail of the waiters of the
walk that covers the page, or as the first waiter of a walk in the lowest-numbered FREE slot (no backlog
entry holding the page), or at the tail of the backlog when no slot is FREE. It keeps its retry count and
payload. Premises: the laws of places and of the Map Cache. One taking per tick, and the row as that
taking, are the model's readings (log entries 4 and 5), and so is what a refused re-translation leaves in
the entry (log entry 14). (From R5, R7, R8, R18, R21, R26, R28, R88, R89, R90, R119, R120.) -/
def Obligations.MarkedReleaseRetranslates : Prop :=
  ∀ (s : State) (cmd : Instr) (p : CplPacket) (rest : List CplPacket) (i : EntryId) (u : State) (e : Entry)
    (w : WinId) (c : CacheEntry) (k : WalkId),
    PlaceLaw s → CacheLaw s → Releases cmd p rest i s u e → e.marks ≠ noMarks →
    let win := s.windows[w]
    let page := (e.dAddr.toNat - win.base.toNat) / 16384
    let fresh := { e with releaseTick := none, marks := noMarks, window := w, page := page }
    let waits := s.entries.set i { fresh with state := .translating, hostAddr := none }
    let one := Matches s e.requester e.dAddr w ∧ win.state = .valid ∧ win.rights.permits e.kind = true
    let denied (f : Entry) (v : State) : State :=
      let x := noteRecords
        [{ kind := .rights, requester := some e.requester, reqTag := some e.reqTag, window := some w
           dAddr := some e.dAddr }]
        { v with
          entries := s.entries.set i (f.answered { status := .denied } false)
          answerQ := s.answerQ ++ [i] }
      { x with contexts := x.contexts.set e.requester ((x.contexts[e.requester]).stoppedBy .rights) }
    ((∀ v : WinId, (s.windows[v]).matches e.requester e.dAddr = true → (s.windows[v]).state = .retiring) →
      exec cmd s = .next
        (shed (marksOf e)
          { u with
            entries := s.entries.set i (e.answered { status := .unmapped } false)
            answerQ := s.answerQ ++ [i] }))
    ∧ (Matches s e.requester e.dAddr w → win.state = .valid → win.rights.permits e.kind = false →
      exec cmd s = .next (shed (marksOf e) (denied e u)))
    ∧ (one → win.mode = some .direct →
      exec cmd s = .next
        (shed (marksOf e)
          { u with
            entries := s.entries.set i
              { fresh with
                state := .queued, hostAddr := some (win.hostBase + (e.dAddr - win.base).setWidth 50) }
            issueQ := s.issueQ ++ [i] }))
    ∧ (one → win.mode = some .mapped → c ∈ s.cache → c.window = w → c.page = page → c.upset = false →
      let hit := bump cacheHits
        { u with cache := c :: s.cache.filter fun x => !(decide (x.window = w) && decide (x.page = page)) }
      ((win.rights.meet c.rights).permits e.kind = true →
        exec cmd s = .next
          (shed (marksOf e)
            { hit with
              entries := s.entries.set i
                { fresh with state := .queued, hostAddr := some (c.frame ++ e.dAddr.extractLsb' 0 14) }
              issueQ := s.issueQ ++ [i] }))
      ∧ ((win.rights.meet c.rights).permits e.kind = false →
        exec cmd s = .next (shed (marksOf e) (denied fresh hit))))
    ∧ (one → win.mode = some .mapped → Uncached s w page →
      let miss := bump cacheMisses { u with entries := waits }
      (covers s k → (s.walks[k]).window = w → (s.walks[k]).page = page →
        exec cmd s = .next
          (shed (marksOf e)
            { miss with walks := s.walks.set k { s.walks[k] with waiters := (s.walks[k]).waiters ++ [i] } }))
      ∧ (Uncovered s w page →
        (LowestFreeWalk s k →
            (∀ j ∈ s.backlog, ¬((s.entries[j]).window = w ∧ (s.entries[j]).page = page)) →
          exec cmd s = .next
            (shed (marksOf e)
              { miss with walks := s.walks.set k (startedWalk s i w page), ownList := s.ownList ++ [.walk k] }))
        ∧ ((∀ l : WalkId, (s.walks[l]).state ≠ .free) →
          exec cmd s = .next (shed (marksOf e) { miss with backlog := s.backlog ++ [i] }))))

/-- When a slot is the one walk slot whose timer has run out and the Walk Unit has the tick to take: a slot
past the walk timeout fails with detail TIMEOUT as R37 gives, becoming ABANDONED with abandon tick now
from ISSUED and FREE from QUEUED, whose read leaves the own list, or RETRY_WAIT; a RETRY_WAIT slot at its
release tick becomes QUEUED at the tail of the own list; an ABANDONED slot past the reclaim time becomes
FREE, counting RECLAIMS with a RECLAIMED record. A happening that leaves the own list empty makes the
rotation counter 0. Premises: the laws of places, marks and the own list, and an empty backlog. That a
RETRY taken first at a tick does not keep that tick's timeout from the slot is the model's choice (log
entry 26), and one taking per tick its reading (log entries 4, 5 and 16). (From R36, R37, R38, R39, R83,
R85, R102.) -/
def Obligations.WalkTimers : Prop :=
  ∀ (s : State) (k : WalkId),
    PlaceLaw s → MarkLaw s → OwnListLaw s → s.backlog = [] → s.walkDue = true →
    (∀ j : WalkId, j ≠ k → WalkQuiet s j) →
    let x := s.walks[k]
    let u := { s with walkDue := false }
    let failed (slot : WalkSlot) (own : List OwnRequest) : State :=
      noteRecords [walkNote .walkFailed 2 k s]
        (bump walkFailures
          { u with
            walks := s.walks.set k slot
            ownList := own
            entries := unmappedEntries x.waiters s
            answerQ := s.answerQ ++ x.waiters
            contexts := stoppedContexts .walkFailed x.waiters s })
    let withdrawn := failed {} (s.ownList.filter (· ≠ .walk k))
    (walkTimesOut s k = true → x.state = .issued →
      exec (.walkTimeout k) s = .next
        (failed
          { x with state := .abandoned, waiters := [], releaseTick := none, abandonTick := some s.now }
          s.ownList))
    ∧ (walkTimesOut s k = true → x.state ≠ .issued →
      exec (.walkTimeout k) s = .next
        (if s.ownList ≠ [] ∧ withdrawn.ownList = [] then { withdrawn with rotation := 0 } else withdrawn))
    ∧ (walkTimesOut s k = false → walkReleases s k = true →
      exec (.walkRelease k) s = .next
        { u with
          walks := s.walks.set k { x with state := .queued, releaseTick := none }
          ownList := s.ownList ++ [.walk k] })
    ∧ (walkReclaims s k = true →
      exec (.walkReclaim k) s = .next
        (noteRecords
          [{ kind := .reclaimed, window := some x.window, hostAddr := some x.mapAddr }]
          (bump reclaims { u with walks := s.walks.set k {} })))

/-- When the alert slot has the tick to take: past the walk timeout the alert fails with an ALERT_FAILED
record, becoming ABANDONED with abandon tick now from ISSUED, and FREE from QUEUED, leaving the own list,
or RETRY_WAIT; a RETRY_WAIT slot at its release tick becomes QUEUED at the tail of the own list; an
ABANDONED slot past the reclaim time becomes FREE, counting RECLAIMS with a RECLAIMED record. The trigger
is evaluated once when a record was enqueued or the slot became FREE, and a happening that leaves the own
list empty makes the rotation counter 0. Premise: the law of the own list. That a RETRY taken first at a
tick does not keep that tick's timeout from the slot is the model's choice (log entry 26), and one taking
per tick its reading (log entries 4, 5 and 16). (From R83, R85, R102, R141, R144, R145.) -/
def Obligations.AlertTimers : Prop :=
  ∀ (s : State),
    OwnListLaw s → s.alertDue = true →
    let x := s.alertSlot
    let u := { s with alertDue := false }
    let note : FaultRecord := { kind := .alertFailed, hostAddr := some x.address }
    let freed :=
      evalTrigger (offerRecord note { u with alertSlot := {}, ownList := s.ownList.filter (· ≠ .alert) })
    (alertTimesOut s = true → x.state = .issued →
      exec .alertTimeout s = .next
        (noteRecords [note]
          { u with
            alertSlot := { x with state := .abandoned, releaseTick := none, abandonTick := some s.now } }))
    ∧ (alertTimesOut s = true → x.state ≠ .issued →
      exec .alertTimeout s = .next
        (if s.ownList ≠ [] ∧ freed.ownList = [] then { freed with rotation := 0 } else freed))
    ∧ (alertTimesOut s = false → alertReleases s = true →
      exec .alertRelease s = .next
        { u with
          alertSlot := { x with state := .queued, releaseTick := none }, ownList := s.ownList ++ [.alert] })
    ∧ (alertReclaims s = true →
      exec .alertReclaim s = .next
        (evalTrigger
          (offerRecord { kind := .reclaimed, hostAddr := some x.address }
            (bump reclaims { u with alertSlot := {} }))))

/-- At the head of the order LOAD_WINDOW answers BAD_ARGUMENT for an index above 23; BAD_STATE for a window
that is not FREE; BAD_ARGUMENT for fields that break a condition of R15, those of the other mode not
judged; OVERLAP with the lowest index among the VALID or RETIRING windows that overlap the new range and
share a requester; and otherwise writes the named fields, those of the other mode zero, with state VALID,
and answers DONE. A refused command changes nothing else. (Formalises R15.) -/
def Obligations.LoadWindowChecksAndLoads : Prop :=
  ∀ (s : State) (m : MgmtId) (rest : List MgmtId) (ws : List Word),
    HeadHolds s m rest .loadWindow ws →
    let w0 := payloadWord ws 0
    let mode := field w0 16 2
    let check := field w0 24 2
    let x : Window :=
      { state := .valid
        reqSet := w0.extractLsb' 32 16
        base := (payloadWord ws 1).extractLsb' 0 48
        sizeExp := field w0 8 6
        mode := if mode = 1 then some .mapped else if mode = 2 then some .direct else none
        rights := { read := w0.getLsbD 20, write := w0.getLsbD 21 }
        mapRoot := if mode = 1 then (payloadWord ws 2).extractLsb' 0 50 else 0
        hostBase := if mode = 2 then (payloadWord ws 3).extractLsb' 0 50 else 0
        checkMode := if mode = 1 then (if check = 1 then .report else if check = 2 then .enforce else .off)
          else .off }
    let good := x.legal ∧ (mode = 1 → check ≠ 3)
    let conflicts (v : WinId) : Prop :=
      (s.windows[v]).state ≠ .free ∧ (s.windows[v]).overlaps x = true ∧ (s.windows[v]).shares x = true
    (24 ≤ field w0 0 5 → exec .loadWindow s = .next (replied m rest [resultWord .badArgument] s))
    ∧ ∀ w : WinId, field w0 0 5 = w.val →
      ((s.windows[w]).state ≠ .free → exec .loadWindow s = .next (replied m rest [resultWord .badState] s))
      ∧ ((s.windows[w]).state = .free → ¬good →
        exec .loadWindow s = .next (replied m rest [resultWord .badArgument] s))
      ∧ ((s.windows[w]).state = .free → good →
        (∀ v : WinId, conflicts v → (∀ u : WinId, u < v → ¬conflicts u) →
          exec .loadWindow s = .next (replied m rest [resultWord (.overlap v)] s))
        ∧ ((∀ v : WinId, ¬conflicts v) →
          exec .loadWindow s = .next
            (replied m rest [resultWord .done] { s with windows := s.windows.set w x })))

/-- At the head of the order an INVALIDATE or RETIRE_WINDOW, or a resumed one, whose checks pass while a
fence slot is FREE starts its fence in the lowest-numbered FREE slot: a retired window becomes RETIRING,
cache entries in scope are removed, walks under way in scope become stale, entries in scope in QUEUED,
ISSUED, RETRY_WAIT or ABANDONED take the slot's mark and are counted; the fence slot becomes WAITING and
the management slot RUNNING. If none is marked the fence ends at once: the window is FREE and the slot
REPLYING with DONE. The head leaves the order and nothing else changes. (From R113, R114, R115, R116,
R117, R118, R120, R156.) -/
def Obligations.FenceStarts : Prop :=
  ∀ (s : State) (m : MgmtId) (rest : List MgmtId) (ws : List Word) (cmd : FenceCommand) (scope : Scope)
    (k : FenceId),
    s.mgmtOrder = m :: rest → (s.mgmt[m]).op = some (fenceOp cmd) → (s.mgmt[m]).payload = ws →
    PassesChecks s ws cmd scope → LowestFreeFence s k →
    (s.headWaiting = false →
      (cmd = .invalidate → exec .invalidate s = .next (startedFence k cmd scope m rest s))
      ∧ (cmd = .retireWindow → exec .retireWindow s = .next (startedFence k cmd scope m rest s)))
    ∧ (s.headWaiting = true →
      exec .fenceCommandResumption s = .next (startedFence k cmd scope m rest s))

/-- A fence command that passes its checks while no fence slot is FREE waits at the head of the order:
nothing else changes. A fence command that fails a check, at its first execution or at its resumption,
answers the result of the first check that fails, uses no fence slot and changes nothing else: for
INVALIDATE a scope code that names none, then an index above 23, a FREE window, a count outside 1..4096,
pages past the window's end; for RETIRE_WINDOW an index above 23, then a window that is not VALID. (From
R114, R115, R116, R152, R156, R181.) -/
def Obligations.FenceWaitsOrFails : Prop :=
  ∀ (s : State) (m : MgmtId) (rest : List MgmtId) (ws : List Word) (cmd : FenceCommand) (scope : Scope)
    (r : Result),
    s.mgmtOrder = m :: rest → (s.mgmt[m]).op = some (fenceOp cmd) → (s.mgmt[m]).payload = ws →
    (s.headWaiting = false → PassesChecks s ws cmd scope → (∀ k : FenceId, (s.fences[k]).state ≠ .free) →
      exec (fenceRow cmd) s = .next { s with headWaiting := true })
    ∧ (s.headWaiting = false → FailsChecks s ws cmd r →
      exec (fenceRow cmd) s = .next (replied m rest [resultWord r] s))
    ∧ (s.headWaiting = true → FailsChecks s ws cmd r → (∃ k : FenceId, (s.fences[k]).state = .free) →
      exec .fenceCommandResumption s = .next (replied m rest [resultWord r] s))

/-- Each answers BAD_ARGUMENT for an id above 15. CONFIGURE_REQUESTER answers BAD_STATE unless the context is
OFF, BAD_ARGUMENT for a setting out of its range, and otherwise writes its six settings alone and answers
DONE. ENABLE_REQUESTER takes OFF, and RESUME_REQUESTER takes STOPPED, to ACTIVE with the stop cause
cleared and answers DONE; from any other state each answers BAD_STATE. Nothing else changes. (Formalises
R67, R68, R69.) -/
def Obligations.ConfigureEnableResume : Prop :=
  ∀ (s : State) (m : MgmtId) (rest : List MgmtId) (ws : List Word),
    let w0 := payloadWord ws 0
    let w1 := payloadWord ws 1
    let answer (r : Result) : State := replied m rest [resultWord r] s
    let became (r : ReqId) (c : Context) : State :=
      replied m rest [resultWord .done] { s with contexts := s.contexts.set r c }
    (HeadHolds s m rest .configureRequester ws →
      let limit := field w0 8 6
      let retry := field w0 16 5
      let base := field w0 24 5
      let exhaust := field w0 32 2
      let policy := field w0 36 2
      let bad := limit = 0 ∨ 32 < limit ∨ field w1 0 16 = 0 ∨ 15 < retry ∨ 15 < base
        ∨ (exhaust ≠ 1 ∧ exhaust ≠ 2) ∨ (policy ≠ 1 ∧ policy ≠ 2)
      (16 ≤ field w0 0 5 → exec .configureRequester s = .next (answer .badArgument))
      ∧ ∀ r : ReqId, field w0 0 5 = r.val →
        ((s.contexts[r]).state ≠ .off → exec .configureRequester s = .next (answer .badState))
        ∧ ((s.contexts[r]).state = .off → bad → exec .configureRequester s = .next (answer .badArgument))
        ∧ ((s.contexts[r]).state = .off → ¬bad →
          exec .configureRequester s = .next
            (became r
              { s.contexts[r] with
                limit := limit, timeout := field w1 0 16, retryLimit := retry, backoffBase := base
                exhaustion := if exhaust = 1 then .fail else .fill
                faultPolicy := if policy = 1 then .continue_ else .stop })))
    ∧ (HeadHolds s m rest .enableRequester ws →
      (16 ≤ field w0 0 5 → exec .enableRequester s = .next (answer .badArgument))
      ∧ ∀ r : ReqId, field w0 0 5 = r.val →
        ((s.contexts[r]).state = .off →
          exec .enableRequester s = .next
            (became r { s.contexts[r] with state := .active, stopCause := none }))
        ∧ ((s.contexts[r]).state ≠ .off → exec .enableRequester s = .next (answer .badState)))
    ∧ (HeadHolds s m rest .resumeRequester ws →
      (16 ≤ field w0 0 5 → exec .resumeRequester s = .next (answer .badArgument))
      ∧ ∀ r : ReqId, field w0 0 5 = r.val →
        ((s.contexts[r]).state = .stopped →
          exec .resumeRequester s = .next
            (became r { s.contexts[r] with state := .active, stopCause := none }))
        ∧ ((s.contexts[r]).state ≠ .stopped → exec .resumeRequester s = .next (answer .badState)))

/-- QUIESCE_REQUESTER answers BAD_ARGUMENT for an id above 15. An ACTIVE or STOPPED context with outstanding
count 0 becomes OFF and the answer is DONE; with a count above 0 it becomes DRAINING, its quiesce slot is
the command's management slot, which becomes RUNNING and leaves the order; on an OFF context the answer
is DONE and on a DRAINING one BAD_STATE, with no change. The stop cause is kept and nothing else changes.
(Formalises R70.) -/
def Obligations.QuiesceRequester : Prop :=
  ∀ (s : State) (m : MgmtId) (rest : List MgmtId) (ws : List Word),
    HeadHolds s m rest .quiesceRequester ws →
    let id := field (payloadWord ws 0) 0 5
    (16 ≤ id → exec .quiesceRequester s = .next (replied m rest [resultWord .badArgument] s))
    ∧ ∀ r : ReqId, id = r.val →
      let c := s.contexts[r]
      (c.state = .off → exec .quiesceRequester s = .next (replied m rest [resultWord .done] s))
      ∧ (c.state = .draining → exec .quiesceRequester s = .next (replied m rest [resultWord .badState] s))
      ∧ ((c.state = .active ∨ c.state = .stopped) → c.outstanding = 0 →
        exec .quiesceRequester s = .next
          (replied m rest [resultWord .done] { s with contexts := s.contexts.set r { c with state := .off } }))
      ∧ ((c.state = .active ∨ c.state = .stopped) → 0 < c.outstanding →
        exec .quiesceRequester s = .next
          { s with
            contexts := s.contexts.set r { c with state := .draining, quiesce := some m }
            mgmt := s.mgmt.set m { s.mgmt[m] with state := .running, payload := [] }
            mgmtOrder := rest })

/-- SET_TIMING answers BAD_ARGUMENT and changes nothing for a period code above 4, a walk timeout or reclaim
time of 0, or a retry limit or backoff base above 15, and otherwise writes all five settings; SET_ARBITER
answers BAD_ARGUMENT for an N of 0 or above 8 and otherwise makes N the guarantee; MOVE_APERTURE answers
BAD_ARGUMENT for a base that is not a multiple of 64 KiB or is 2^50 or above and otherwise makes it the
aperture base. A command that writes answers DONE, and nothing else changes: not the rotation counter,
the completion turn or the settings the latest tick found, which is the model's reading of when they take
effect (log entry 6). (From R103, R150, R155, R158, R181.) -/
def Obligations.SettingCommands : Prop :=
  ∀ (s : State) (m : MgmtId) (rest : List MgmtId) (ws : List Word),
    let w0 := payloadWord ws 0
    let bad := replied m rest [resultWord .badArgument] s
    (HeadHolds s m rest .setTiming ws →
      let t : Timing :=
        { periodCode := field w0 0 3, walkRetryLimit := field w0 8 5, walkBackoffBase := field w0 16 5
          walkTimeout := field w0 32 16, reclaimTime := field (payloadWord ws 1) 0 16 }
      let good := t.periodCode ≤ 4 ∧ t.walkTimeout ≠ 0 ∧ t.reclaimTime ≠ 0 ∧ t.walkRetryLimit ≤ 15
        ∧ t.walkBackoffBase ≤ 15
      (good → exec .setTiming s = .next (replied m rest [resultWord .done] { s with timing := t }))
      ∧ (¬good → exec .setTiming s = .next bad))
    ∧ (HeadHolds s m rest .setArbiter ws →
      let n := field w0 0 4
      (1 ≤ n → n ≤ 8 →
        exec .setArbiter s = .next (replied m rest [resultWord .done] { s with guarantee := n }))
      ∧ ((n = 0 ∨ 8 < n) → exec .setArbiter s = .next bad))
    ∧ (HeadHolds s m rest .moveAperture ws →
      (w0.toNat % 0x10000 = 0 → w0.toNat < 2 ^ 50 →
        exec .moveAperture s = .next
          (replied m rest [resultWord .done] { s with apertureBase := w0.extractLsb' 0 50 }))
      ∧ ((w0.toNat % 0x10000 ≠ 0 ∨ 2 ^ 50 ≤ w0.toNat) → exec .moveAperture s = .next bad))

/-- SET_ALERT answers BAD_ARGUMENT and changes nothing for an address that is not a multiple of 8 or whose
end exceeds 2^50, or an enable code that names neither yes nor no; otherwise it writes the address and
enabled, answers DONE and the trigger is evaluated. ACK_ALERT sets armed, answers DONE and the trigger is
evaluated. A fired alert clears armed and the slot, QUEUED, captures the address, the queue depth, the
lost count and the tick and joins the own list; nothing else changes. (From R139, R140, R141, R181,
R182.) -/
def Obligations.AlertCommands : Prop :=
  ∀ (s : State) (m : MgmtId) (rest : List MgmtId) (ws : List Word),
    let a := payloadWord ws 0
    let code := field (payloadWord ws 1) 0 2
    let fired (t : State) : State :=
      if t.alertEnabled = true ∧ t.alertArmed = true ∧ t.faults ≠ [] ∧ t.alertSlot.state = .free ∧ t.uUp = true
      then
        { t with
          alertArmed := false
          alertSlot :=
            { state := .queued, address := t.alertAddress
              payload :=
                [packWord [(0, t.faults.length), (8, t.lost)], packWord [(0, t.now.toNat)]]
              startTick := t.now, retryCount := 0, releaseTick := none, abandonTick := none }
          ownList := t.ownList ++ [.alert] }
      else t
    (HeadHolds s m rest .setAlert ws →
      (a.toNat % 8 = 0 → a.toNat + 16 ≤ 2 ^ 50 → code ≤ 1 →
        exec .setAlert s = .next
          (fired
            (replied m rest [resultWord .done]
              { s with alertAddress := a.extractLsb' 0 50, alertEnabled := decide (code = 1) })))
      ∧ ((a.toNat % 8 ≠ 0 ∨ 2 ^ 50 < a.toNat + 16 ∨ 1 < code) →
        exec .setAlert s = .next (replied m rest [resultWord .badArgument] s)))
    ∧ (HeadHolds s m rest .ackAlert ws →
      exec .ackAlert s = .next (fired (replied m rest [resultWord .done] { s with alertArmed := true })))

/-- CLEAR_COUNTERS makes every counter of every group 0 for the all-groups bit, else every counter of the
named group, and answers DONE; a group above 17 is answered BAD_ARGUMENT and no counter changes.
CLEAR_FAULTS empties the fault queue, makes the lost count 0, clears overflow-pending and answers DONE.
Nothing else changes, and no trigger is evaluated. (Formalises R134, R137.) -/
def Obligations.ClearCommands : Prop :=
  ∀ (s : State) (m : MgmtId) (rest : List MgmtId) (ws : List Word),
    let w0 := payloadWord ws 0
    let done (t : State) : Host.Outcome State Fault Refusal := .next (replied m rest [resultWord .done] t)
    (HeadHolds s m rest .clearCounters ws →
      (w0.getLsbD 8 = true →
        exec .clearCounters s = done
          { s with
            translationCtrs := Vector.replicate 7 0
            transactionCtrs := Vector.replicate 8 0
            requesterCtrs := Vector.replicate 16 (Vector.replicate 4 0) })
      ∧ (w0.getLsbD 8 = false →
        (field w0 0 5 = 0 → exec .clearCounters s = done { s with translationCtrs := Vector.replicate 7 0 })
        ∧ (field w0 0 5 = 1 → exec .clearCounters s = done { s with transactionCtrs := Vector.replicate 8 0 })
        ∧ (∀ r : ReqId, field w0 0 5 = 2 + r.val →
          exec .clearCounters s = done
            { s with requesterCtrs := s.requesterCtrs.set r (Vector.replicate 4 0) })
        ∧ (18 ≤ field w0 0 5 →
          exec .clearCounters s = .next (replied m rest [resultWord .badArgument] s))))
    ∧ (HeadHolds s m rest .clearFaults ws →
      exec .clearFaults s = done { s with faults := [], lost := 0, overflowPending := false })

/-- At the head of the order each query's slot becomes REPLYING with words read from the state at execution:
WINDOW(i), REQUESTER(r) and the record of FAULT in the layouts that ReplyReadsBack pins, COUNTERS(g) one
counter a word in the order of the group table, TIME the tick counter in bits 0..31 and the period code
in force in bits 32..34, FENCES and STATUS one reply of 1 and 4 words. FAULT removes the oldest record,
and on an empty queue answers four words of 0. Nothing else changes. The period code in force is the one
the latest tick found (log entry 6). (From R75, R111, R129, R133, R136, R155, R159, R160, R161, R182.) -/
def Obligations.QueriesAnswerAtExecution : Prop :=
  ∀ (s : State) (m : MgmtId) (rest : List MgmtId) (ws : List Word),
    (∀ i : WinId, HeadHolds s m rest (.window i) ws →
      exec .window s = .next (replied m rest (windowWords i s.windows[i]) s))
    ∧ (∀ r : ReqId, HeadHolds s m rest (.requester r) ws →
      exec .requester s = .next (replied m rest (requesterWords r s.contexts[r]) s))
    ∧ (HeadHolds s m rest (.counters 0) ws →
      exec .counters s = .next
        (replied m rest ((List.finRange 7).map fun i => (s.translationCtrs[i]).setWidth 64) s))
    ∧ (HeadHolds s m rest (.counters 1) ws →
      exec .counters s = .next
        (replied m rest ((List.finRange 8).map fun i => (s.transactionCtrs[i]).setWidth 64) s))
    ∧ (∀ (r : ReqId) (g : Fin 18), g.val = 2 + r.val → HeadHolds s m rest (.counters g) ws →
      exec .counters s = .next
        (replied m rest ((List.finRange 4).map fun i => ((s.requesterCtrs[r])[i]).setWidth 64) s))
    ∧ (HeadHolds s m rest .fault ws →
      (s.faults = [] → exec .fault s = .next (replied m rest [0, 0, 0, 0] s))
      ∧ ∀ (x : FaultRecord) (xs : List FaultRecord), s.faults = x :: xs →
        exec .fault s = .next (replied m rest (recordWords x) { s with faults := xs }))
    ∧ (HeadHolds s m rest .time ws →
      exec .time s = .next
        (replied m rest [s.now.setWidth 64 + (BitVec.ofNat 64 s.tickTiming.periodCode <<< 32)] s))
    ∧ (HeadHolds s m rest .fences ws → exec .fences s = .next (replied m rest [fencesWord s.fences] s))
    ∧ (HeadHolds s m rest .status ws →
      exec .status s = .next (replied m rest (statusWords s) s) ∧ (statusWords s).length = 4)

/-- While the counts stay in their ranges, the words of STATUS hold the number of FREE entries, the backlog
length, the busy walk slots, the WAITING fences, the fault depth, the lost count, overflow-pending, the
alert's enabled, armed and slot state, the D-port's link state, the busy management slots and the
aperture base at the bits of R182, word 3 being 0; and each WAITING fence slot's sixteen bits of the
FENCES word hold 1, its command and its remaining count, a FREE slot's being 0. Premises: the capacity
law, the law of places and the law of marks. (From R129, R159, R182.) -/
def Obligations.StatusAndFencesReport : Prop :=
  ∀ (s : State) (w0 w1 w2 w3 : Word),
    CapacityLaw s → PlaceLaw s → MarkLaw s → statusWords s = [w0, w1, w2, w3] →
    (field w0 0 7 = (List.finRange 64).countP (fun i => decide ((s.entries[i]).state = .free))
      ∧ field w0 8 7 = s.backlog.length
      ∧ field w0 16 3 = (List.finRange 4).countP (fun k => decide ((s.walks[k]).state ≠ .free))
      ∧ field w0 20 3 = (List.finRange 4).countP (fun k => decide ((s.fences[k]).state = .waiting))
      ∧ field w0 24 5 = s.faults.length
      ∧ field w0 32 8 = s.lost
      ∧ w0.getLsbD 40 = s.overflowPending
      ∧ w1.getLsbD 0 = s.alertEnabled
      ∧ w1.getLsbD 1 = s.alertArmed
      ∧ field w1 4 3 = slotStateCode s.alertSlot.state
      ∧ w1.getLsbD 8 = s.dUp
      ∧ field w1 16 4 = (List.finRange 8).countP (fun m => decide ((s.mgmt[m]).state ≠ .free))
      ∧ w2 = s.apertureBase.setWidth 64
      ∧ w3 = 0)
    ∧ ∀ k : FenceId,
      ((s.fences[k]).state = .free → field (fencesWord s.fences) (16 * k.val) 16 = 0)
      ∧ ((s.fences[k]).state = .waiting →
        field (fencesWord s.fences) (16 * k.val) 1 = 1
          ∧ field (fencesWord s.fences) (16 * k.val + 1) 1
            = (if (s.fences[k]).command = some .retireWindow then 1 else 0)
          ∧ field (fencesWord s.fences) (16 * k.val + 8) 7 = (s.fences[k]).remaining)

/-- CACHE_STORAGE_UPSET makes the check of the entry for its window and page bad, and nothing else changes;
the entry keeps its place. When an accepted request's lookup meets a bad entry whose page no walk covers,
with a walk slot FREE, the entry is removed, CACHE_CHECK_ERRORS and CACHE_MISSES count, a CACHE_CHECK
record with the request's requester, tag, window and address and the map-entry address is made, and the
lowest-numbered FREE slot starts a walk (with no backlog entry on the page). Premises: the laws of places
and of the Map Cache. That the internal check is one bit is the model's choice (log entry 21). (From R21,
R22, R26, R49, R83.) -/
def Obligations.StorageUpsetFoundAtLookup : Prop :=
  ∀ (s : State) (p : ReqPacket) (rest : List ReqPacket) (i : EntryId) (r : ReqId) (w : WinId) (k : WalkId),
    (∀ (v : WinId) (page : Nat), ∃ cache : List CacheEntry,
      exec (.cacheStorageUpset v page) s = .next { s with cache := cache }
        ∧ cache.length = s.cache.length
        ∧ ∀ (n : Nat) (c d : CacheEntry), s.cache[n]? = some c → cache[n]? = some d →
          (c.window = v ∧ c.page = page → d = { c with upset := true })
            ∧ (¬(c.window = v ∧ c.page = page) → d = c))
    ∧ (PlaceLaw s → CacheLaw s → Admissible s p rest i r w → (s.windows[w]).mode = some .mapped →
      let e := acceptedAs s p r w
      ∀ c ∈ s.cache, c.window = w → c.page = e.page → c.upset = true → Uncovered s w e.page →
        LowestFreeWalk s k → (∀ j ∈ s.backlog, ¬((s.entries[j]).window = w ∧ (s.entries[j]).page = e.page)) →
        exec .intakeTakeRequest s = .next
          (noteRecords
            [{ kind := .cacheCheck, requester := some r, reqTag := some e.reqTag, window := some w
               dAddr := some e.dAddr
               hostAddr := some ((s.windows[w]).mapRoot + BitVec.ofNat 50 (8 * e.page)) }]
            (bump cacheCheckErrors
              (bump cacheMisses
                { acceptedTo rest i r e s with
                  cache := s.cache.filter fun x => !(decide (x.window = w) && decide (x.page = e.page))
                  walks := s.walks.set k (startedWalk s i w e.page)
                  ownList := s.ownList ++ [.walk k] }))))

/-- The reserved bits are 3..13 and 50..55, the check byte matches exactly when byte 7 is the exclusive-or of
bytes 0 to 6 with 0xA5, and the outcome is a format failure, an enforced check failure, not present or
usable by the table of R13; a mismatch counts exactly under REPORT or ENFORCE with clear reserved bits. A
changed bit anywhere in a word whose check byte matches makes it mismatch. (From R10, R11, R12, R13,
R180.) -/
def Obligations.WordCheckFollowsItsTable : Prop :=
  ∀ (w : Word) (mode : CheckMode),
    (reservedClear w = true ↔ ∀ n : Fin 64, (3 ≤ n.val ∧ n.val ≤ 13 ∨ 50 ≤ n.val ∧ n.val ≤ 55) →
        w.getLsbD n.val = false)
    ∧ (checkByteMatches w = true ↔ ∀ b : Fin 8, w.getLsbD (56 + b.val)
        = (((List.finRange 7).countP (fun n => w.getLsbD (8 * n.val + b.val))
            + (if (0xA5 : BitVec 8).getLsbD b.val then 1 else 0)) % 2 == 1))
    ∧ (reservedClear w = false → judgeWord mode w = .formatFailure)
    ∧ (reservedClear w = true → mode = .enforce → checkByteMatches w = false →
        judgeWord mode w = .checkFailure)
    ∧ (reservedClear w = true → (mode ≠ .enforce ∨ checkByteMatches w = true) →
        judgeWord mode w = (if w.getLsbD 0 then .usable else .notPresent))
    ∧ (wordMismatches mode w = true
        ↔ reservedClear w = true ∧ checkByteMatches w = false ∧ (mode = .report ∨ mode = .enforce))
    ∧ (checkByteMatches w = true → ∀ n : Fin 64,
        checkByteMatches (w ^^^ BitVec.ofNat 64 (2 ^ n.val)) = false)

/-- For every legal window the four words of WINDOW(i), read as LOAD_WINDOW's payload, give its index and
every field of the window again, and its state at bits 28..29; for every context with legal settings the
words of REQUESTER(r), read as CONFIGURE_REQUESTER's payload, give r and its six settings again, with its
state, outstanding count, stop cause and quiesce flag in their places; the four words of FAULT give every
field of a record, absent ones reading 0 with their flag clear, the kind by its code of R131; the result
word gives the code and the detail, and the alert payload the queue depth, the lost count and the tick;
the header of a request or completion that the bridge builds holds kind, class, source, tag, length,
status code and address at the places of R179 and 0 in every other bit, with the words after it as given;
and the header of any packet is read at those places. (From R75, R130, R131, R133, R142, R155, R160,
R166, R179, R181, R182.) -/
def Obligations.ReplyReadsBack : Prop :=
  ∀ (i : WinId) (x : Window) (r : ReqId) (c : Context) (f : FaultRecord) (res : Result) (depth lost : Nat)
    (now : Tick) (kind : Kind) (src : Source) (tag : Tag) (len : Nat) (addr : HAddr) (body : List Word)
    (st : Status) (q : ReqPacket),
    (x.legal →
      loadFields (windowWords i x)
          = { index := i.val, sizeExp := x.sizeExp, mode := x.mode, rights := x.rights
              checkMode := some x.checkMode, reqSet := x.reqSet, base := x.base, mapRoot := x.mapRoot
              hostBase := x.hostBase }
        ∧ field (payloadWord (windowWords i x) 0) 28 2
          = (match x.state with
            | .free => 0
            | .valid => 1
            | .retiring => 2))
    ∧ (c.legal → c.outstanding ≤ 32 →
      configureFields (requesterWords r c)
          = { requester := r.val, limit := c.limit, retryLimit := c.retryLimit, backoffBase := c.backoffBase
              exhaustion := some c.exhaustion, faultPolicy := some c.faultPolicy, timeout := c.timeout }
        ∧ field (payloadWord (requesterWords r c) 0) 40 2
          = (match c.state with
            | .off => 0
            | .active => 1
            | .stopped => 2
            | .draining => 3)
        ∧ field (payloadWord (requesterWords r c) 0) 48 6 = c.outstanding
        ∧ field (payloadWord (requesterWords r c) 0) 56 5 = (c.stopCause.map FaultKind.code).getD 0
        ∧ (payloadWord (requesterWords r c) 0).getLsbD 62 = c.quiesce.isSome)
    ∧ (f.detail ≤ 63 →
      let w0 := payloadWord (recordWords f) 0
      field w0 0 5
          = (match f.kind with
            | .noWindow => 1
            | .rights => 2
            | .notPresent => 3
            | .mapCheck => 4
            | .mapFormat => 5
            | .walkFailed => 6
            | .cacheCheck => 7
            | .upstreamError => 8
            | .retryExhausted => 9
            | .timeout => 10
            | .lateCompletion => 11
            | .strayCompletion => 12
            | .reclaimed => 13
            | .duplicateTag => 14
            | .malformedRequest => 15
            | .alertFailed => 16
            | .upstreamReset => 17)
        ∧ field w0 8 6 = f.detail
        ∧ w0.getLsbD 15 = f.overflow
        ∧ field w0 16 4 = (f.requester.map Fin.val).getD 0
        ∧ field w0 24 7 = (f.reqTag.map BitVec.toNat).getD 0
        ∧ field w0 32 5 = (f.window.map Fin.val).getD 0
        ∧ w0.getLsbD 40 = f.requester.isSome
        ∧ w0.getLsbD 41 = f.reqTag.isSome
        ∧ w0.getLsbD 42 = f.window.isSome
        ∧ w0.getLsbD 43 = f.dAddr.isSome
        ∧ w0.getLsbD 44 = f.hostAddr.isSome
        ∧ (payloadWord (recordWords f) 1).extractLsb' 0 32 = f.tick
        ∧ (payloadWord (recordWords f) 2).extractLsb' 0 48 = f.dAddr.getD 0
        ∧ (payloadWord (recordWords f) 3).extractLsb' 0 50 = f.hostAddr.getD 0)
    ∧ (let w0 := resultWord res
      w0.extractLsb' 0 8
          = (match res with
            | .done => 0
            | .badState => 1
            | .badArgument => 2
            | .overlap _ => 3)
        ∧ field w0 8 8
          = (match res with
            | .overlap w => w.val
            | .done | .badState | .badArgument => 0)
        ∧ w0.extractLsb' 16 48 = 0)
    ∧ (depth ≤ 16 → lost ≤ 255 →
      ∃ w0 w1 : Word, alertWords depth lost now = [w0, w1] ∧ field w0 0 5 = depth ∧ field w0 8 8 = lost
        ∧ w0.extractLsb' 5 3 = 0 ∧ w0.extractLsb' 16 48 = 0 ∧ w1 = now.setWidth 64)
    ∧ (len ≤ 127 →
      let p := buildRequest kind src tag len addr body
      p.h0.getLsbD 0 = decide (kind = .write) ∧ p.h0.getLsbD 1 = false ∧ p.h0.extractLsb' 8 5 = src
        ∧ p.h0.extractLsb' 16 7 = tag ∧ field p.h0 24 7 = len ∧ p.h1 = addr.setWidth 64 ∧ p.body = body
        ∧ p.h0.extractLsb' 2 6 = 0 ∧ p.h0.extractLsb' 13 3 = 0 ∧ p.h0.extractLsb' 23 1 = 0
        ∧ p.h0.extractLsb' 31 33 = 0)
    ∧ (body.length ≤ 127 →
      let p := buildCompletion src tag st body
      p.h0.getLsbD 0 = false ∧ p.h0.getLsbD 1 = true ∧ p.h0.extractLsb' 8 5 = src
        ∧ p.h0.extractLsb' 16 7 = tag ∧ field p.h0 24 7 = body.length
        ∧ field p.h0 32 3
          = (match st with
            | .ok => 0
            | .retry => 1
            | .denied => 2
            | .unmapped => 3
            | .timeout => 4
            | .abort => 5
            | .malformed => 6
            | .error => 7)
        ∧ p.body = body ∧ p.h0.extractLsb' 2 6 = 0 ∧ p.h0.extractLsb' 13 3 = 0
        ∧ p.h0.extractLsb' 23 1 = 0 ∧ p.h0.extractLsb' 31 1 = 0 ∧ p.h0.extractLsb' 35 29 = 0)
    ∧ (requestKind q = .write ↔ q.h0.getLsbD 0 = true)
    ∧ (∀ n : Fin 5, (headerSource q.h0).getLsbD n.val = q.h0.getLsbD (8 + n.val))
    ∧ (∀ n : Fin 7, (headerTag q.h0).getLsbD n.val = q.h0.getLsbD (16 + n.val)
        ∧ (headerLength q.h0).testBit n.val = q.h0.getLsbD (24 + n.val))
    ∧ headerLength q.h0 < 128 ∧ headerStatus q.h0 < 8
    ∧ (∀ n : Fin 3, (headerStatus q.h0).testBit n.val = q.h0.getLsbD (32 + n.val))
    ∧ (∀ n : Fin 50, (requestAddress q).getLsbD n.val = q.h1.getLsbD n.val)
    ∧ (∀ n : Fin 48, (requestDAddr q).getLsbD n.val = q.h1.getLsbD n.val)

/-- If no queue, list or count of a state passes its capacity, the arbiters' counters stand in their ranges
(the rotation counter 0 with an empty own list, the run count 0 with no host request to be sent), and
every setting and retry count is in its range, then so in every next state of a step. The guarantee, the
aperture base and the alert address keep their legal values. (From R20, R48, R64, R79, R85, R103, R132,
R139, R147, R154, R171, R172.) -/
def Obligations.RangesKept : Prop :=
  ∀ (s t : State),
    CapacityLaw s ∧ ArbiterLaw s ∧ SettingsLaw s → step s = .next t → CapacityLaw t ∧ ArbiterLaw t ∧ SettingsLaw t

/-- If for every requester the outstanding count equals the number of its entries in TRANSLATING, QUEUED,
ISSUED, RETRY_WAIT or ANSWERING, never exceeds the limit, is 0 in OFF and above 0 in DRAINING, then so in
every next state of a step. (From R66, R71, R75.) -/
def Obligations.OutstandingCountsKept : Prop :=
  ∀ (s t : State),
    CountLaw s → step s = .next t → CountLaw t

/-- If for every WAITING fence slot the remaining count is above 0 and equals the number of entries that
carry its mark, a FREE slot's mark stands on no entry, and every marked entry is QUEUED, ISSUED,
RETRY_WAIT or ABANDONED, then so in every next state of a step. (From R112, R118, R119, R120.) -/
def Obligations.MarksKept : Prop :=
  ∀ (s t : State),
    MarkLaw s → step s = .next t → MarkLaw t

/-- If every VALID or RETIRING window has legal fields and no two of them overlap in address range while
sharing a requester, then so in every next state of a step. (Formalises R4.) -/
def Obligations.WindowsKept : Prop :=
  ∀ (s t : State),
    WindowLaw s → step s = .next t → WindowLaw t

/-- If every RETIRING window is retired by a WAITING RETIRE_WINDOW fence, every such fence retires a RETIRING
window, and no two such fences retire the same window, then so in every next state of a step. (From R2,
R112, R115, R120, R122.) -/
def Obligations.RetirementsKept : Prop :=
  ∀ (s t : State),
    RetireLaw s → step s = .next t → RetireLaw t

/-- If no two entries that are neither FREE nor ABANDONED hold the same requester and requester tag, then so
in every next state of a step. (From R46.) -/
def Obligations.TagsKept : Prop :=
  ∀ (s t : State),
    TagLaw s → step s = .next t → TagLaw t

/-- If the Map Cache holds no two entries for one window and page, only entries of VALID MAPPED windows and
none for a page that a walk covers, every covering walk is for a VALID MAPPED window, and no two walks
cover one page, then so in every next state of a step. Premise: the law of windows. (From R4, R20, R24,
R26.) -/
def Obligations.CacheAndWalksKept : Prop :=
  ∀ (s t : State),
    WindowLaw s → CacheLaw s → step s = .next t → CacheLaw t

/-- If the issue queue holds the QUEUED entries, the answer queue the ANSWERING ones, each with an answer,
and the waiter lists and the backlog together the TRANSLATING ones, each once, and slots that are FREE or
ABANDONED have no waiters, then so in every next state of a step. (From R25, R28, R53, R54, R55.) -/
def Obligations.PlacesKept : Prop :=
  ∀ (s t : State),
    PlaceLaw s → step s = .next t → PlaceLaw t

/-- If the own list holds exactly the QUEUED walk slots and the QUEUED alert slot, each once and at most
five, and the backlog is empty unless every walk slot is busy, then so in every next state of a step.
(From R28, R29, R83.) -/
def Obligations.OwnListAndBacklogKept : Prop :=
  ∀ (s t : State),
    OwnListLaw s ∧ BacklogLaw s → step s = .next t → OwnListLaw t ∧ BacklogLaw t

/-- If the management order holds the QUEUED slots and the reply order the REPLYING ones, each once, the
RUNNING slots are those that exactly one fence or drain awaits, FREE fence slots and contexts that are
not DRAINING await none, a QUEUED slot holds a command or query, and the head waits for a fence slot only
with a fence command, then so in every next state of a step. (From R64, R71, R112, R120, R151, R152,
R156, R157.) -/
def Obligations.ManagementSlotsKept : Prop :=
  ∀ (s t : State),
    MgmtLaw s → step s = .next t → MgmtLaw t

/-- If every FREE entry, walk slot, fence slot, alert slot and management slot has its other fields cleared,
and every other entry has a length of 1 to 64, a requester tag of at most 31, and the host address,
release tick, abandon tick, answer, data, payload and upstream open note that its state gives it, then so
in every next state of a step. (From R42, R51, R52, R55, R112, R142, R151.) -/
def Obligations.EntryFieldsKept : Prop :=
  ∀ (s t : State),
    FreeLaw s ∧ EntryLaw s → step s = .next t → FreeLaw t ∧ EntryLaw t

/-- If, while the U-port is DOWN, everything the loss of the U-port empties or frees stands empty or FREE and
every entry is FREE or ANSWERING without an open request, and while the D-port is DOWN everything its
loss empties stands empty, every entry is FREE or ABANDONED, every outstanding count is 0 and no context
is DRAINING, then so in every next state of a step. Premise: FREE slots and entries are cleared
(EntryFieldsKept). (From R41, R59, R60, R61, R78, R128, R162, R167, R174, R176.) -/
def Obligations.DownPortsStayClear : Prop :=
  ∀ (s t : State),
    FreeLaw s → UpstreamDownLaw s ∧ DownstreamDownLaw s → step s = .next t → UpstreamDownLaw t ∧ DownstreamDownLaw t

/-- If the five conditions of the alert trigger do not hold together in a state, then they do not in any next
state of a step: a happening that brings them about fires the alert. (From R139, R140, R141, R146.) -/
def Obligations.AlertNeverMissed : Prop :=
  ∀ (s t : State),
    AlertLaw s → step s = .next t → AlertLaw t

/-- For every value of the straps, the state right after power-on, and so the reset state, meets every law
that a step keeps. That the reset state has the straps at 0 is the model's choice (log entry 7). (From
R19, R42, R63, R76, R112, R135, R146, R163, R177.) -/
def Obligations.LawsHoldAfterPowerOn : Prop :=
  ∀ (aps : BitVec 3),
    let s := State.powerOn aps
    State.reset = State.powerOn 0
      ∧ CapacityLaw s ∧ ArbiterLaw s ∧ SettingsLaw s ∧ CountLaw s ∧ MarkLaw s ∧ WindowLaw s ∧ RetireLaw s
      ∧ TagLaw s ∧ CacheLaw s ∧ PlaceLaw s ∧ OwnListLaw s ∧ BacklogLaw s ∧ MgmtLaw s ∧ FreeLaw s ∧ EntryLaw s
      ∧ UpstreamDownLaw s ∧ DownstreamDownLaw s ∧ AlertLaw s

end
end

