-- ==== Sys2Proof/Laws/State.lean ====
section
/-! SUPPORT. One lemma per field of `State` for each plain update, true by `rfl`. -/

namespace Sys2Proof.Machine

/-! ### `setEntry` -/

@[simp] theorem setEntry_pending (i : EntryId) (e : Entry) (s : State) : (setEntry i e s).pending = s.pending :=
  rfl
@[simp] theorem setEntry_uUp (i : EntryId) (e : Entry) (s : State) : (setEntry i e s).uUp = s.uUp := rfl
@[simp] theorem setEntry_dUp (i : EntryId) (e : Entry) (s : State) : (setEntry i e s).dUp = s.dUp := rfl
@[simp] theorem setEntry_uHoldReq (i : EntryId) (e : Entry) (s : State) : (setEntry i e s).uHoldReq = s.uHoldReq :=
  rfl
@[simp] theorem setEntry_uHoldCpl (i : EntryId) (e : Entry) (s : State) : (setEntry i e s).uHoldCpl = s.uHoldCpl :=
  rfl
@[simp] theorem setEntry_dHoldReq (i : EntryId) (e : Entry) (s : State) : (setEntry i e s).dHoldReq = s.dHoldReq :=
  rfl
@[simp] theorem setEntry_dHoldCpl (i : EntryId) (e : Entry) (s : State) : (setEntry i e s).dHoldCpl = s.dHoldCpl :=
  rfl
@[simp] theorem setEntry_uReqIn (i : EntryId) (e : Entry) (s : State) : (setEntry i e s).uReqIn = s.uReqIn :=
  rfl
@[simp] theorem setEntry_uCplIn (i : EntryId) (e : Entry) (s : State) : (setEntry i e s).uCplIn = s.uCplIn :=
  rfl
@[simp] theorem setEntry_dReqIn (i : EntryId) (e : Entry) (s : State) : (setEntry i e s).dReqIn = s.dReqIn :=
  rfl
@[simp] theorem setEntry_dCplIn (i : EntryId) (e : Entry) (s : State) : (setEntry i e s).dCplIn = s.dCplIn :=
  rfl
@[simp] theorem setEntry_uTx (i : EntryId) (e : Entry) (s : State) : (setEntry i e s).uTx = s.uTx := rfl
@[simp] theorem setEntry_dTx (i : EntryId) (e : Entry) (s : State) : (setEntry i e s).dTx = s.dTx := rfl
@[simp] theorem setEntry_refusalQ (i : EntryId) (e : Entry) (s : State) : (setEntry i e s).refusalQ = s.refusalQ :=
  rfl
@[simp] theorem setEntry_downQ (i : EntryId) (e : Entry) (s : State) : (setEntry i e s).downQ = s.downQ := rfl
@[simp] theorem setEntry_refusalCount (i : EntryId) (e : Entry) (s : State) : (setEntry i e s).refusalCount = s.refusalCount :=
  rfl
@[simp] theorem setEntry_answerTurn (i : EntryId) (e : Entry) (s : State) : (setEntry i e s).answerTurn = s.answerTurn :=
  rfl
@[simp] theorem setEntry_runCount (i : EntryId) (e : Entry) (s : State) : (setEntry i e s).runCount = s.runCount :=
  rfl
@[simp] theorem setEntry_windows (i : EntryId) (e : Entry) (s : State) : (setEntry i e s).windows = s.windows :=
  rfl
@[simp] theorem setEntry_cache (i : EntryId) (e : Entry) (s : State) : (setEntry i e s).cache = s.cache := rfl
@[simp] theorem setEntry_walks (i : EntryId) (e : Entry) (s : State) : (setEntry i e s).walks = s.walks := rfl
@[simp] theorem setEntry_backlog (i : EntryId) (e : Entry) (s : State) : (setEntry i e s).backlog = s.backlog :=
  rfl
@[simp] theorem setEntry_entries (i : EntryId) (e : Entry) (s : State) : (setEntry i e s).entries = s.entries.set i e :=
  rfl
@[simp] theorem setEntry_issueQ (i : EntryId) (e : Entry) (s : State) : (setEntry i e s).issueQ = s.issueQ :=
  rfl
@[simp] theorem setEntry_answerQ (i : EntryId) (e : Entry) (s : State) : (setEntry i e s).answerQ = s.answerQ :=
  rfl
@[simp] theorem setEntry_contexts (i : EntryId) (e : Entry) (s : State) : (setEntry i e s).contexts = s.contexts :=
  rfl
@[simp] theorem setEntry_rotation (i : EntryId) (e : Entry) (s : State) : (setEntry i e s).rotation = s.rotation :=
  rfl
@[simp] theorem setEntry_guarantee (i : EntryId) (e : Entry) (s : State) : (setEntry i e s).guarantee = s.guarantee :=
  rfl
@[simp] theorem setEntry_cplTurn (i : EntryId) (e : Entry) (s : State) : (setEntry i e s).cplTurn = s.cplTurn :=
  rfl
@[simp] theorem setEntry_ownList (i : EntryId) (e : Entry) (s : State) : (setEntry i e s).ownList = s.ownList :=
  rfl
@[simp] theorem setEntry_now (i : EntryId) (e : Entry) (s : State) : (setEntry i e s).now = s.now := rfl
@[simp] theorem setEntry_timing (i : EntryId) (e : Entry) (s : State) : (setEntry i e s).timing = s.timing :=
  rfl
@[simp] theorem setEntry_tickTiming (i : EntryId) (e : Entry) (s : State) : (setEntry i e s).tickTiming = s.tickTiming :=
  rfl
@[simp] theorem setEntry_tableDue (i : EntryId) (e : Entry) (s : State) : (setEntry i e s).tableDue = s.tableDue :=
  rfl
@[simp] theorem setEntry_walkDue (i : EntryId) (e : Entry) (s : State) : (setEntry i e s).walkDue = s.walkDue :=
  rfl
@[simp] theorem setEntry_alertDue (i : EntryId) (e : Entry) (s : State) : (setEntry i e s).alertDue = s.alertDue :=
  rfl
@[simp] theorem setEntry_fences (i : EntryId) (e : Entry) (s : State) : (setEntry i e s).fences = s.fences :=
  rfl
@[simp] theorem setEntry_faults (i : EntryId) (e : Entry) (s : State) : (setEntry i e s).faults = s.faults :=
  rfl
@[simp] theorem setEntry_lost (i : EntryId) (e : Entry) (s : State) : (setEntry i e s).lost = s.lost := rfl
@[simp] theorem setEntry_overflowPending (i : EntryId) (e : Entry) (s : State) : (setEntry i e s).overflowPending = s.overflowPending :=
  rfl
@[simp] theorem setEntry_translationCtrs (i : EntryId) (e : Entry) (s : State) : (setEntry i e s).translationCtrs = s.translationCtrs :=
  rfl
@[simp] theorem setEntry_transactionCtrs (i : EntryId) (e : Entry) (s : State) : (setEntry i e s).transactionCtrs = s.transactionCtrs :=
  rfl
@[simp] theorem setEntry_requesterCtrs (i : EntryId) (e : Entry) (s : State) : (setEntry i e s).requesterCtrs = s.requesterCtrs :=
  rfl
@[simp] theorem setEntry_alertAddress (i : EntryId) (e : Entry) (s : State) : (setEntry i e s).alertAddress = s.alertAddress :=
  rfl
@[simp] theorem setEntry_alertEnabled (i : EntryId) (e : Entry) (s : State) : (setEntry i e s).alertEnabled = s.alertEnabled :=
  rfl
@[simp] theorem setEntry_alertArmed (i : EntryId) (e : Entry) (s : State) : (setEntry i e s).alertArmed = s.alertArmed :=
  rfl
@[simp] theorem setEntry_alertSlot (i : EntryId) (e : Entry) (s : State) : (setEntry i e s).alertSlot = s.alertSlot :=
  rfl
@[simp] theorem setEntry_apertureBase (i : EntryId) (e : Entry) (s : State) : (setEntry i e s).apertureBase = s.apertureBase :=
  rfl
@[simp] theorem setEntry_mgmt (i : EntryId) (e : Entry) (s : State) : (setEntry i e s).mgmt = s.mgmt := rfl
@[simp] theorem setEntry_mgmtOrder (i : EntryId) (e : Entry) (s : State) : (setEntry i e s).mgmtOrder = s.mgmtOrder :=
  rfl
@[simp] theorem setEntry_headWaiting (i : EntryId) (e : Entry) (s : State) : (setEntry i e s).headWaiting = s.headWaiting :=
  rfl
@[simp] theorem setEntry_replyOrder (i : EntryId) (e : Entry) (s : State) : (setEntry i e s).replyOrder = s.replyOrder :=
  rfl
@[simp] theorem setEntry_replyRefusals (i : EntryId) (e : Entry) (s : State) : (setEntry i e s).replyRefusals = s.replyRefusals :=
  rfl

/-! ### `setWalk` -/

@[simp] theorem setWalk_pending (k : WalkId) (w : WalkSlot) (s : State) : (setWalk k w s).pending = s.pending :=
  rfl
@[simp] theorem setWalk_uUp (k : WalkId) (w : WalkSlot) (s : State) : (setWalk k w s).uUp = s.uUp := rfl
@[simp] theorem setWalk_dUp (k : WalkId) (w : WalkSlot) (s : State) : (setWalk k w s).dUp = s.dUp := rfl
@[simp] theorem setWalk_uHoldReq (k : WalkId) (w : WalkSlot) (s : State) : (setWalk k w s).uHoldReq = s.uHoldReq :=
  rfl
@[simp] theorem setWalk_uHoldCpl (k : WalkId) (w : WalkSlot) (s : State) : (setWalk k w s).uHoldCpl = s.uHoldCpl :=
  rfl
@[simp] theorem setWalk_dHoldReq (k : WalkId) (w : WalkSlot) (s : State) : (setWalk k w s).dHoldReq = s.dHoldReq :=
  rfl
@[simp] theorem setWalk_dHoldCpl (k : WalkId) (w : WalkSlot) (s : State) : (setWalk k w s).dHoldCpl = s.dHoldCpl :=
  rfl
@[simp] theorem setWalk_uReqIn (k : WalkId) (w : WalkSlot) (s : State) : (setWalk k w s).uReqIn = s.uReqIn :=
  rfl
@[simp] theorem setWalk_uCplIn (k : WalkId) (w : WalkSlot) (s : State) : (setWalk k w s).uCplIn = s.uCplIn :=
  rfl
@[simp] theorem setWalk_dReqIn (k : WalkId) (w : WalkSlot) (s : State) : (setWalk k w s).dReqIn = s.dReqIn :=
  rfl
@[simp] theorem setWalk_dCplIn (k : WalkId) (w : WalkSlot) (s : State) : (setWalk k w s).dCplIn = s.dCplIn :=
  rfl
@[simp] theorem setWalk_uTx (k : WalkId) (w : WalkSlot) (s : State) : (setWalk k w s).uTx = s.uTx := rfl
@[simp] theorem setWalk_dTx (k : WalkId) (w : WalkSlot) (s : State) : (setWalk k w s).dTx = s.dTx := rfl
@[simp] theorem setWalk_refusalQ (k : WalkId) (w : WalkSlot) (s : State) : (setWalk k w s).refusalQ = s.refusalQ :=
  rfl
@[simp] theorem setWalk_downQ (k : WalkId) (w : WalkSlot) (s : State) : (setWalk k w s).downQ = s.downQ := rfl
@[simp] theorem setWalk_refusalCount (k : WalkId) (w : WalkSlot) (s : State) : (setWalk k w s).refusalCount = s.refusalCount :=
  rfl
@[simp] theorem setWalk_answerTurn (k : WalkId) (w : WalkSlot) (s : State) : (setWalk k w s).answerTurn = s.answerTurn :=
  rfl
@[simp] theorem setWalk_runCount (k : WalkId) (w : WalkSlot) (s : State) : (setWalk k w s).runCount = s.runCount :=
  rfl
@[simp] theorem setWalk_windows (k : WalkId) (w : WalkSlot) (s : State) : (setWalk k w s).windows = s.windows :=
  rfl
@[simp] theorem setWalk_cache (k : WalkId) (w : WalkSlot) (s : State) : (setWalk k w s).cache = s.cache := rfl
@[simp] theorem setWalk_walks (k : WalkId) (w : WalkSlot) (s : State) : (setWalk k w s).walks = s.walks.set k w :=
  rfl
@[simp] theorem setWalk_backlog (k : WalkId) (w : WalkSlot) (s : State) : (setWalk k w s).backlog = s.backlog :=
  rfl
@[simp] theorem setWalk_entries (k : WalkId) (w : WalkSlot) (s : State) : (setWalk k w s).entries = s.entries :=
  rfl
@[simp] theorem setWalk_issueQ (k : WalkId) (w : WalkSlot) (s : State) : (setWalk k w s).issueQ = s.issueQ :=
  rfl
@[simp] theorem setWalk_answerQ (k : WalkId) (w : WalkSlot) (s : State) : (setWalk k w s).answerQ = s.answerQ :=
  rfl
@[simp] theorem setWalk_contexts (k : WalkId) (w : WalkSlot) (s : State) : (setWalk k w s).contexts = s.contexts :=
  rfl
@[simp] theorem setWalk_rotation (k : WalkId) (w : WalkSlot) (s : State) : (setWalk k w s).rotation = s.rotation :=
  rfl
@[simp] theorem setWalk_guarantee (k : WalkId) (w : WalkSlot) (s : State) : (setWalk k w s).guarantee = s.guarantee :=
  rfl
@[simp] theorem setWalk_cplTurn (k : WalkId) (w : WalkSlot) (s : State) : (setWalk k w s).cplTurn = s.cplTurn :=
  rfl
@[simp] theorem setWalk_ownList (k : WalkId) (w : WalkSlot) (s : State) : (setWalk k w s).ownList = s.ownList :=
  rfl
@[simp] theorem setWalk_now (k : WalkId) (w : WalkSlot) (s : State) : (setWalk k w s).now = s.now := rfl
@[simp] theorem setWalk_timing (k : WalkId) (w : WalkSlot) (s : State) : (setWalk k w s).timing = s.timing :=
  rfl
@[simp] theorem setWalk_tickTiming (k : WalkId) (w : WalkSlot) (s : State) : (setWalk k w s).tickTiming = s.tickTiming :=
  rfl
@[simp] theorem setWalk_tableDue (k : WalkId) (w : WalkSlot) (s : State) : (setWalk k w s).tableDue = s.tableDue :=
  rfl
@[simp] theorem setWalk_walkDue (k : WalkId) (w : WalkSlot) (s : State) : (setWalk k w s).walkDue = s.walkDue :=
  rfl
@[simp] theorem setWalk_alertDue (k : WalkId) (w : WalkSlot) (s : State) : (setWalk k w s).alertDue = s.alertDue :=
  rfl
@[simp] theorem setWalk_fences (k : WalkId) (w : WalkSlot) (s : State) : (setWalk k w s).fences = s.fences :=
  rfl
@[simp] theorem setWalk_faults (k : WalkId) (w : WalkSlot) (s : State) : (setWalk k w s).faults = s.faults :=
  rfl
@[simp] theorem setWalk_lost (k : WalkId) (w : WalkSlot) (s : State) : (setWalk k w s).lost = s.lost := rfl
@[simp] theorem setWalk_overflowPending (k : WalkId) (w : WalkSlot) (s : State) : (setWalk k w s).overflowPending = s.overflowPending :=
  rfl
@[simp] theorem setWalk_translationCtrs (k : WalkId) (w : WalkSlot) (s : State) : (setWalk k w s).translationCtrs = s.translationCtrs :=
  rfl
@[simp] theorem setWalk_transactionCtrs (k : WalkId) (w : WalkSlot) (s : State) : (setWalk k w s).transactionCtrs = s.transactionCtrs :=
  rfl
@[simp] theorem setWalk_requesterCtrs (k : WalkId) (w : WalkSlot) (s : State) : (setWalk k w s).requesterCtrs = s.requesterCtrs :=
  rfl
@[simp] theorem setWalk_alertAddress (k : WalkId) (w : WalkSlot) (s : State) : (setWalk k w s).alertAddress = s.alertAddress :=
  rfl
@[simp] theorem setWalk_alertEnabled (k : WalkId) (w : WalkSlot) (s : State) : (setWalk k w s).alertEnabled = s.alertEnabled :=
  rfl
@[simp] theorem setWalk_alertArmed (k : WalkId) (w : WalkSlot) (s : State) : (setWalk k w s).alertArmed = s.alertArmed :=
  rfl
@[simp] theorem setWalk_alertSlot (k : WalkId) (w : WalkSlot) (s : State) : (setWalk k w s).alertSlot = s.alertSlot :=
  rfl
@[simp] theorem setWalk_apertureBase (k : WalkId) (w : WalkSlot) (s : State) : (setWalk k w s).apertureBase = s.apertureBase :=
  rfl
@[simp] theorem setWalk_mgmt (k : WalkId) (w : WalkSlot) (s : State) : (setWalk k w s).mgmt = s.mgmt := rfl
@[simp] theorem setWalk_mgmtOrder (k : WalkId) (w : WalkSlot) (s : State) : (setWalk k w s).mgmtOrder = s.mgmtOrder :=
  rfl
@[simp] theorem setWalk_headWaiting (k : WalkId) (w : WalkSlot) (s : State) : (setWalk k w s).headWaiting = s.headWaiting :=
  rfl
@[simp] theorem setWalk_replyOrder (k : WalkId) (w : WalkSlot) (s : State) : (setWalk k w s).replyOrder = s.replyOrder :=
  rfl
@[simp] theorem setWalk_replyRefusals (k : WalkId) (w : WalkSlot) (s : State) : (setWalk k w s).replyRefusals = s.replyRefusals :=
  rfl

/-! ### `setContext` -/

@[simp] theorem setContext_pending (r : ReqId) (c : Context) (s : State) : (setContext r c s).pending = s.pending :=
  rfl
@[simp] theorem setContext_uUp (r : ReqId) (c : Context) (s : State) : (setContext r c s).uUp = s.uUp := rfl
@[simp] theorem setContext_dUp (r : ReqId) (c : Context) (s : State) : (setContext r c s).dUp = s.dUp := rfl
@[simp] theorem setContext_uHoldReq (r : ReqId) (c : Context) (s : State) : (setContext r c s).uHoldReq = s.uHoldReq :=
  rfl
@[simp] theorem setContext_uHoldCpl (r : ReqId) (c : Context) (s : State) : (setContext r c s).uHoldCpl = s.uHoldCpl :=
  rfl
@[simp] theorem setContext_dHoldReq (r : ReqId) (c : Context) (s : State) : (setContext r c s).dHoldReq = s.dHoldReq :=
  rfl
@[simp] theorem setContext_dHoldCpl (r : ReqId) (c : Context) (s : State) : (setContext r c s).dHoldCpl = s.dHoldCpl :=
  rfl
@[simp] theorem setContext_uReqIn (r : ReqId) (c : Context) (s : State) : (setContext r c s).uReqIn = s.uReqIn :=
  rfl
@[simp] theorem setContext_uCplIn (r : ReqId) (c : Context) (s : State) : (setContext r c s).uCplIn = s.uCplIn :=
  rfl
@[simp] theorem setContext_dReqIn (r : ReqId) (c : Context) (s : State) : (setContext r c s).dReqIn = s.dReqIn :=
  rfl
@[simp] theorem setContext_dCplIn (r : ReqId) (c : Context) (s : State) : (setContext r c s).dCplIn = s.dCplIn :=
  rfl
@[simp] theorem setContext_uTx (r : ReqId) (c : Context) (s : State) : (setContext r c s).uTx = s.uTx := rfl
@[simp] theorem setContext_dTx (r : ReqId) (c : Context) (s : State) : (setContext r c s).dTx = s.dTx := rfl
@[simp] theorem setContext_refusalQ (r : ReqId) (c : Context) (s : State) : (setContext r c s).refusalQ = s.refusalQ :=
  rfl
@[simp] theorem setContext_downQ (r : ReqId) (c : Context) (s : State) : (setContext r c s).downQ = s.downQ :=
  rfl
@[simp] theorem setContext_refusalCount (r : ReqId) (c : Context) (s : State) : (setContext r c s).refusalCount = s.refusalCount :=
  rfl
@[simp] theorem setContext_answerTurn (r : ReqId) (c : Context) (s : State) : (setContext r c s).answerTurn = s.answerTurn :=
  rfl
@[simp] theorem setContext_runCount (r : ReqId) (c : Context) (s : State) : (setContext r c s).runCount = s.runCount :=
  rfl
@[simp] theorem setContext_windows (r : ReqId) (c : Context) (s : State) : (setContext r c s).windows = s.windows :=
  rfl
@[simp] theorem setContext_cache (r : ReqId) (c : Context) (s : State) : (setContext r c s).cache = s.cache :=
  rfl
@[simp] theorem setContext_walks (r : ReqId) (c : Context) (s : State) : (setContext r c s).walks = s.walks :=
  rfl
@[simp] theorem setContext_backlog (r : ReqId) (c : Context) (s : State) : (setContext r c s).backlog = s.backlog :=
  rfl
@[simp] theorem setContext_entries (r : ReqId) (c : Context) (s : State) : (setContext r c s).entries = s.entries :=
  rfl
@[simp] theorem setContext_issueQ (r : ReqId) (c : Context) (s : State) : (setContext r c s).issueQ = s.issueQ :=
  rfl
@[simp] theorem setContext_answerQ (r : ReqId) (c : Context) (s : State) : (setContext r c s).answerQ = s.answerQ :=
  rfl
@[simp] theorem setContext_contexts (r : ReqId) (c : Context) (s : State) : (setContext r c s).contexts = s.contexts.set r c :=
  rfl
@[simp] theorem setContext_rotation (r : ReqId) (c : Context) (s : State) : (setContext r c s).rotation = s.rotation :=
  rfl
@[simp] theorem setContext_guarantee (r : ReqId) (c : Context) (s : State) : (setContext r c s).guarantee = s.guarantee :=
  rfl
@[simp] theorem setContext_cplTurn (r : ReqId) (c : Context) (s : State) : (setContext r c s).cplTurn = s.cplTurn :=
  rfl
@[simp] theorem setContext_ownList (r : ReqId) (c : Context) (s : State) : (setContext r c s).ownList = s.ownList :=
  rfl
@[simp] theorem setContext_now (r : ReqId) (c : Context) (s : State) : (setContext r c s).now = s.now := rfl
@[simp] theorem setContext_timing (r : ReqId) (c : Context) (s : State) : (setContext r c s).timing = s.timing :=
  rfl
@[simp] theorem setContext_tickTiming (r : ReqId) (c : Context) (s : State) : (setContext r c s).tickTiming = s.tickTiming :=
  rfl
@[simp] theorem setContext_tableDue (r : ReqId) (c : Context) (s : State) : (setContext r c s).tableDue = s.tableDue :=
  rfl
@[simp] theorem setContext_walkDue (r : ReqId) (c : Context) (s : State) : (setContext r c s).walkDue = s.walkDue :=
  rfl
@[simp] theorem setContext_alertDue (r : ReqId) (c : Context) (s : State) : (setContext r c s).alertDue = s.alertDue :=
  rfl
@[simp] theorem setContext_fences (r : ReqId) (c : Context) (s : State) : (setContext r c s).fences = s.fences :=
  rfl
@[simp] theorem setContext_faults (r : ReqId) (c : Context) (s : State) : (setContext r c s).faults = s.faults :=
  rfl
@[simp] theorem setContext_lost (r : ReqId) (c : Context) (s : State) : (setContext r c s).lost = s.lost :=
  rfl
@[simp] theorem setContext_overflowPending (r : ReqId) (c : Context) (s : State) : (setContext r c s).overflowPending = s.overflowPending :=
  rfl
@[simp] theorem setContext_translationCtrs (r : ReqId) (c : Context) (s : State) : (setContext r c s).translationCtrs = s.translationCtrs :=
  rfl
@[simp] theorem setContext_transactionCtrs (r : ReqId) (c : Context) (s : State) : (setContext r c s).transactionCtrs = s.transactionCtrs :=
  rfl
@[simp] theorem setContext_requesterCtrs (r : ReqId) (c : Context) (s : State) : (setContext r c s).requesterCtrs = s.requesterCtrs :=
  rfl
@[simp] theorem setContext_alertAddress (r : ReqId) (c : Context) (s : State) : (setContext r c s).alertAddress = s.alertAddress :=
  rfl
@[simp] theorem setContext_alertEnabled (r : ReqId) (c : Context) (s : State) : (setContext r c s).alertEnabled = s.alertEnabled :=
  rfl
@[simp] theorem setContext_alertArmed (r : ReqId) (c : Context) (s : State) : (setContext r c s).alertArmed = s.alertArmed :=
  rfl
@[simp] theorem setContext_alertSlot (r : ReqId) (c : Context) (s : State) : (setContext r c s).alertSlot = s.alertSlot :=
  rfl
@[simp] theorem setContext_apertureBase (r : ReqId) (c : Context) (s : State) : (setContext r c s).apertureBase = s.apertureBase :=
  rfl
@[simp] theorem setContext_mgmt (r : ReqId) (c : Context) (s : State) : (setContext r c s).mgmt = s.mgmt :=
  rfl
@[simp] theorem setContext_mgmtOrder (r : ReqId) (c : Context) (s : State) : (setContext r c s).mgmtOrder = s.mgmtOrder :=
  rfl
@[simp] theorem setContext_headWaiting (r : ReqId) (c : Context) (s : State) : (setContext r c s).headWaiting = s.headWaiting :=
  rfl
@[simp] theorem setContext_replyOrder (r : ReqId) (c : Context) (s : State) : (setContext r c s).replyOrder = s.replyOrder :=
  rfl
@[simp] theorem setContext_replyRefusals (r : ReqId) (c : Context) (s : State) : (setContext r c s).replyRefusals = s.replyRefusals :=
  rfl

/-! ### `setFence` -/

@[simp] theorem setFence_pending (k : FenceId) (f : Fence) (s : State) : (setFence k f s).pending = s.pending :=
  rfl
@[simp] theorem setFence_uUp (k : FenceId) (f : Fence) (s : State) : (setFence k f s).uUp = s.uUp := rfl
@[simp] theorem setFence_dUp (k : FenceId) (f : Fence) (s : State) : (setFence k f s).dUp = s.dUp := rfl
@[simp] theorem setFence_uHoldReq (k : FenceId) (f : Fence) (s : State) : (setFence k f s).uHoldReq = s.uHoldReq :=
  rfl
@[simp] theorem setFence_uHoldCpl (k : FenceId) (f : Fence) (s : State) : (setFence k f s).uHoldCpl = s.uHoldCpl :=
  rfl
@[simp] theorem setFence_dHoldReq (k : FenceId) (f : Fence) (s : State) : (setFence k f s).dHoldReq = s.dHoldReq :=
  rfl
@[simp] theorem setFence_dHoldCpl (k : FenceId) (f : Fence) (s : State) : (setFence k f s).dHoldCpl = s.dHoldCpl :=
  rfl
@[simp] theorem setFence_uReqIn (k : FenceId) (f : Fence) (s : State) : (setFence k f s).uReqIn = s.uReqIn :=
  rfl
@[simp] theorem setFence_uCplIn (k : FenceId) (f : Fence) (s : State) : (setFence k f s).uCplIn = s.uCplIn :=
  rfl
@[simp] theorem setFence_dReqIn (k : FenceId) (f : Fence) (s : State) : (setFence k f s).dReqIn = s.dReqIn :=
  rfl
@[simp] theorem setFence_dCplIn (k : FenceId) (f : Fence) (s : State) : (setFence k f s).dCplIn = s.dCplIn :=
  rfl
@[simp] theorem setFence_uTx (k : FenceId) (f : Fence) (s : State) : (setFence k f s).uTx = s.uTx := rfl
@[simp] theorem setFence_dTx (k : FenceId) (f : Fence) (s : State) : (setFence k f s).dTx = s.dTx := rfl
@[simp] theorem setFence_refusalQ (k : FenceId) (f : Fence) (s : State) : (setFence k f s).refusalQ = s.refusalQ :=
  rfl
@[simp] theorem setFence_downQ (k : FenceId) (f : Fence) (s : State) : (setFence k f s).downQ = s.downQ := rfl
@[simp] theorem setFence_refusalCount (k : FenceId) (f : Fence) (s : State) : (setFence k f s).refusalCount = s.refusalCount :=
  rfl
@[simp] theorem setFence_answerTurn (k : FenceId) (f : Fence) (s : State) : (setFence k f s).answerTurn = s.answerTurn :=
  rfl
@[simp] theorem setFence_runCount (k : FenceId) (f : Fence) (s : State) : (setFence k f s).runCount = s.runCount :=
  rfl
@[simp] theorem setFence_windows (k : FenceId) (f : Fence) (s : State) : (setFence k f s).windows = s.windows :=
  rfl
@[simp] theorem setFence_cache (k : FenceId) (f : Fence) (s : State) : (setFence k f s).cache = s.cache := rfl
@[simp] theorem setFence_walks (k : FenceId) (f : Fence) (s : State) : (setFence k f s).walks = s.walks := rfl
@[simp] theorem setFence_backlog (k : FenceId) (f : Fence) (s : State) : (setFence k f s).backlog = s.backlog :=
  rfl
@[simp] theorem setFence_entries (k : FenceId) (f : Fence) (s : State) : (setFence k f s).entries = s.entries :=
  rfl
@[simp] theorem setFence_issueQ (k : FenceId) (f : Fence) (s : State) : (setFence k f s).issueQ = s.issueQ :=
  rfl
@[simp] theorem setFence_answerQ (k : FenceId) (f : Fence) (s : State) : (setFence k f s).answerQ = s.answerQ :=
  rfl
@[simp] theorem setFence_contexts (k : FenceId) (f : Fence) (s : State) : (setFence k f s).contexts = s.contexts :=
  rfl
@[simp] theorem setFence_rotation (k : FenceId) (f : Fence) (s : State) : (setFence k f s).rotation = s.rotation :=
  rfl
@[simp] theorem setFence_guarantee (k : FenceId) (f : Fence) (s : State) : (setFence k f s).guarantee = s.guarantee :=
  rfl
@[simp] theorem setFence_cplTurn (k : FenceId) (f : Fence) (s : State) : (setFence k f s).cplTurn = s.cplTurn :=
  rfl
@[simp] theorem setFence_ownList (k : FenceId) (f : Fence) (s : State) : (setFence k f s).ownList = s.ownList :=
  rfl
@[simp] theorem setFence_now (k : FenceId) (f : Fence) (s : State) : (setFence k f s).now = s.now := rfl
@[simp] theorem setFence_timing (k : FenceId) (f : Fence) (s : State) : (setFence k f s).timing = s.timing :=
  rfl
@[simp] theorem setFence_tickTiming (k : FenceId) (f : Fence) (s : State) : (setFence k f s).tickTiming = s.tickTiming :=
  rfl
@[simp] theorem setFence_tableDue (k : FenceId) (f : Fence) (s : State) : (setFence k f s).tableDue = s.tableDue :=
  rfl
@[simp] theorem setFence_walkDue (k : FenceId) (f : Fence) (s : State) : (setFence k f s).walkDue = s.walkDue :=
  rfl
@[simp] theorem setFence_alertDue (k : FenceId) (f : Fence) (s : State) : (setFence k f s).alertDue = s.alertDue :=
  rfl
@[simp] theorem setFence_fences (k : FenceId) (f : Fence) (s : State) : (setFence k f s).fences = s.fences.set k f :=
  rfl
@[simp] theorem setFence_faults (k : FenceId) (f : Fence) (s : State) : (setFence k f s).faults = s.faults :=
  rfl
@[simp] theorem setFence_lost (k : FenceId) (f : Fence) (s : State) : (setFence k f s).lost = s.lost := rfl
@[simp] theorem setFence_overflowPending (k : FenceId) (f : Fence) (s : State) : (setFence k f s).overflowPending = s.overflowPending :=
  rfl
@[simp] theorem setFence_translationCtrs (k : FenceId) (f : Fence) (s : State) : (setFence k f s).translationCtrs = s.translationCtrs :=
  rfl
@[simp] theorem setFence_transactionCtrs (k : FenceId) (f : Fence) (s : State) : (setFence k f s).transactionCtrs = s.transactionCtrs :=
  rfl
@[simp] theorem setFence_requesterCtrs (k : FenceId) (f : Fence) (s : State) : (setFence k f s).requesterCtrs = s.requesterCtrs :=
  rfl
@[simp] theorem setFence_alertAddress (k : FenceId) (f : Fence) (s : State) : (setFence k f s).alertAddress = s.alertAddress :=
  rfl
@[simp] theorem setFence_alertEnabled (k : FenceId) (f : Fence) (s : State) : (setFence k f s).alertEnabled = s.alertEnabled :=
  rfl
@[simp] theorem setFence_alertArmed (k : FenceId) (f : Fence) (s : State) : (setFence k f s).alertArmed = s.alertArmed :=
  rfl
@[simp] theorem setFence_alertSlot (k : FenceId) (f : Fence) (s : State) : (setFence k f s).alertSlot = s.alertSlot :=
  rfl
@[simp] theorem setFence_apertureBase (k : FenceId) (f : Fence) (s : State) : (setFence k f s).apertureBase = s.apertureBase :=
  rfl
@[simp] theorem setFence_mgmt (k : FenceId) (f : Fence) (s : State) : (setFence k f s).mgmt = s.mgmt := rfl
@[simp] theorem setFence_mgmtOrder (k : FenceId) (f : Fence) (s : State) : (setFence k f s).mgmtOrder = s.mgmtOrder :=
  rfl
@[simp] theorem setFence_headWaiting (k : FenceId) (f : Fence) (s : State) : (setFence k f s).headWaiting = s.headWaiting :=
  rfl
@[simp] theorem setFence_replyOrder (k : FenceId) (f : Fence) (s : State) : (setFence k f s).replyOrder = s.replyOrder :=
  rfl
@[simp] theorem setFence_replyRefusals (k : FenceId) (f : Fence) (s : State) : (setFence k f s).replyRefusals = s.replyRefusals :=
  rfl

/-! ### `setMgmt` -/

@[simp] theorem setMgmt_pending (k : MgmtId) (m : MgmtSlot) (s : State) : (setMgmt k m s).pending = s.pending :=
  rfl
@[simp] theorem setMgmt_uUp (k : MgmtId) (m : MgmtSlot) (s : State) : (setMgmt k m s).uUp = s.uUp := rfl
@[simp] theorem setMgmt_dUp (k : MgmtId) (m : MgmtSlot) (s : State) : (setMgmt k m s).dUp = s.dUp := rfl
@[simp] theorem setMgmt_uHoldReq (k : MgmtId) (m : MgmtSlot) (s : State) : (setMgmt k m s).uHoldReq = s.uHoldReq :=
  rfl
@[simp] theorem setMgmt_uHoldCpl (k : MgmtId) (m : MgmtSlot) (s : State) : (setMgmt k m s).uHoldCpl = s.uHoldCpl :=
  rfl
@[simp] theorem setMgmt_dHoldReq (k : MgmtId) (m : MgmtSlot) (s : State) : (setMgmt k m s).dHoldReq = s.dHoldReq :=
  rfl
@[simp] theorem setMgmt_dHoldCpl (k : MgmtId) (m : MgmtSlot) (s : State) : (setMgmt k m s).dHoldCpl = s.dHoldCpl :=
  rfl
@[simp] theorem setMgmt_uReqIn (k : MgmtId) (m : MgmtSlot) (s : State) : (setMgmt k m s).uReqIn = s.uReqIn :=
  rfl
@[simp] theorem setMgmt_uCplIn (k : MgmtId) (m : MgmtSlot) (s : State) : (setMgmt k m s).uCplIn = s.uCplIn :=
  rfl
@[simp] theorem setMgmt_dReqIn (k : MgmtId) (m : MgmtSlot) (s : State) : (setMgmt k m s).dReqIn = s.dReqIn :=
  rfl
@[simp] theorem setMgmt_dCplIn (k : MgmtId) (m : MgmtSlot) (s : State) : (setMgmt k m s).dCplIn = s.dCplIn :=
  rfl
@[simp] theorem setMgmt_uTx (k : MgmtId) (m : MgmtSlot) (s : State) : (setMgmt k m s).uTx = s.uTx := rfl
@[simp] theorem setMgmt_dTx (k : MgmtId) (m : MgmtSlot) (s : State) : (setMgmt k m s).dTx = s.dTx := rfl
@[simp] theorem setMgmt_refusalQ (k : MgmtId) (m : MgmtSlot) (s : State) : (setMgmt k m s).refusalQ = s.refusalQ :=
  rfl
@[simp] theorem setMgmt_downQ (k : MgmtId) (m : MgmtSlot) (s : State) : (setMgmt k m s).downQ = s.downQ := rfl
@[simp] theorem setMgmt_refusalCount (k : MgmtId) (m : MgmtSlot) (s : State) : (setMgmt k m s).refusalCount = s.refusalCount :=
  rfl
@[simp] theorem setMgmt_answerTurn (k : MgmtId) (m : MgmtSlot) (s : State) : (setMgmt k m s).answerTurn = s.answerTurn :=
  rfl
@[simp] theorem setMgmt_runCount (k : MgmtId) (m : MgmtSlot) (s : State) : (setMgmt k m s).runCount = s.runCount :=
  rfl
@[simp] theorem setMgmt_windows (k : MgmtId) (m : MgmtSlot) (s : State) : (setMgmt k m s).windows = s.windows :=
  rfl
@[simp] theorem setMgmt_cache (k : MgmtId) (m : MgmtSlot) (s : State) : (setMgmt k m s).cache = s.cache := rfl
@[simp] theorem setMgmt_walks (k : MgmtId) (m : MgmtSlot) (s : State) : (setMgmt k m s).walks = s.walks := rfl
@[simp] theorem setMgmt_backlog (k : MgmtId) (m : MgmtSlot) (s : State) : (setMgmt k m s).backlog = s.backlog :=
  rfl
@[simp] theorem setMgmt_entries (k : MgmtId) (m : MgmtSlot) (s : State) : (setMgmt k m s).entries = s.entries :=
  rfl
@[simp] theorem setMgmt_issueQ (k : MgmtId) (m : MgmtSlot) (s : State) : (setMgmt k m s).issueQ = s.issueQ :=
  rfl
@[simp] theorem setMgmt_answerQ (k : MgmtId) (m : MgmtSlot) (s : State) : (setMgmt k m s).answerQ = s.answerQ :=
  rfl
@[simp] theorem setMgmt_contexts (k : MgmtId) (m : MgmtSlot) (s : State) : (setMgmt k m s).contexts = s.contexts :=
  rfl
@[simp] theorem setMgmt_rotation (k : MgmtId) (m : MgmtSlot) (s : State) : (setMgmt k m s).rotation = s.rotation :=
  rfl
@[simp] theorem setMgmt_guarantee (k : MgmtId) (m : MgmtSlot) (s : State) : (setMgmt k m s).guarantee = s.guarantee :=
  rfl
@[simp] theorem setMgmt_cplTurn (k : MgmtId) (m : MgmtSlot) (s : State) : (setMgmt k m s).cplTurn = s.cplTurn :=
  rfl
@[simp] theorem setMgmt_ownList (k : MgmtId) (m : MgmtSlot) (s : State) : (setMgmt k m s).ownList = s.ownList :=
  rfl
@[simp] theorem setMgmt_now (k : MgmtId) (m : MgmtSlot) (s : State) : (setMgmt k m s).now = s.now := rfl
@[simp] theorem setMgmt_timing (k : MgmtId) (m : MgmtSlot) (s : State) : (setMgmt k m s).timing = s.timing :=
  rfl
@[simp] theorem setMgmt_tickTiming (k : MgmtId) (m : MgmtSlot) (s : State) : (setMgmt k m s).tickTiming = s.tickTiming :=
  rfl
@[simp] theorem setMgmt_tableDue (k : MgmtId) (m : MgmtSlot) (s : State) : (setMgmt k m s).tableDue = s.tableDue :=
  rfl
@[simp] theorem setMgmt_walkDue (k : MgmtId) (m : MgmtSlot) (s : State) : (setMgmt k m s).walkDue = s.walkDue :=
  rfl
@[simp] theorem setMgmt_alertDue (k : MgmtId) (m : MgmtSlot) (s : State) : (setMgmt k m s).alertDue = s.alertDue :=
  rfl
@[simp] theorem setMgmt_fences (k : MgmtId) (m : MgmtSlot) (s : State) : (setMgmt k m s).fences = s.fences :=
  rfl
@[simp] theorem setMgmt_faults (k : MgmtId) (m : MgmtSlot) (s : State) : (setMgmt k m s).faults = s.faults :=
  rfl
@[simp] theorem setMgmt_lost (k : MgmtId) (m : MgmtSlot) (s : State) : (setMgmt k m s).lost = s.lost := rfl
@[simp] theorem setMgmt_overflowPending (k : MgmtId) (m : MgmtSlot) (s : State) : (setMgmt k m s).overflowPending = s.overflowPending :=
  rfl
@[simp] theorem setMgmt_translationCtrs (k : MgmtId) (m : MgmtSlot) (s : State) : (setMgmt k m s).translationCtrs = s.translationCtrs :=
  rfl
@[simp] theorem setMgmt_transactionCtrs (k : MgmtId) (m : MgmtSlot) (s : State) : (setMgmt k m s).transactionCtrs = s.transactionCtrs :=
  rfl
@[simp] theorem setMgmt_requesterCtrs (k : MgmtId) (m : MgmtSlot) (s : State) : (setMgmt k m s).requesterCtrs = s.requesterCtrs :=
  rfl
@[simp] theorem setMgmt_alertAddress (k : MgmtId) (m : MgmtSlot) (s : State) : (setMgmt k m s).alertAddress = s.alertAddress :=
  rfl
@[simp] theorem setMgmt_alertEnabled (k : MgmtId) (m : MgmtSlot) (s : State) : (setMgmt k m s).alertEnabled = s.alertEnabled :=
  rfl
@[simp] theorem setMgmt_alertArmed (k : MgmtId) (m : MgmtSlot) (s : State) : (setMgmt k m s).alertArmed = s.alertArmed :=
  rfl
@[simp] theorem setMgmt_alertSlot (k : MgmtId) (m : MgmtSlot) (s : State) : (setMgmt k m s).alertSlot = s.alertSlot :=
  rfl
@[simp] theorem setMgmt_apertureBase (k : MgmtId) (m : MgmtSlot) (s : State) : (setMgmt k m s).apertureBase = s.apertureBase :=
  rfl
@[simp] theorem setMgmt_mgmt (k : MgmtId) (m : MgmtSlot) (s : State) : (setMgmt k m s).mgmt = s.mgmt.set k m :=
  rfl
@[simp] theorem setMgmt_mgmtOrder (k : MgmtId) (m : MgmtSlot) (s : State) : (setMgmt k m s).mgmtOrder = s.mgmtOrder :=
  rfl
@[simp] theorem setMgmt_headWaiting (k : MgmtId) (m : MgmtSlot) (s : State) : (setMgmt k m s).headWaiting = s.headWaiting :=
  rfl
@[simp] theorem setMgmt_replyOrder (k : MgmtId) (m : MgmtSlot) (s : State) : (setMgmt k m s).replyOrder = s.replyOrder :=
  rfl
@[simp] theorem setMgmt_replyRefusals (k : MgmtId) (m : MgmtSlot) (s : State) : (setMgmt k m s).replyRefusals = s.replyRefusals :=
  rfl

/-! ### `setWindow` -/

@[simp] theorem setWindow_pending (w : WinId) (x : Window) (s : State) : (setWindow w x s).pending = s.pending :=
  rfl
@[simp] theorem setWindow_uUp (w : WinId) (x : Window) (s : State) : (setWindow w x s).uUp = s.uUp := rfl
@[simp] theorem setWindow_dUp (w : WinId) (x : Window) (s : State) : (setWindow w x s).dUp = s.dUp := rfl
@[simp] theorem setWindow_uHoldReq (w : WinId) (x : Window) (s : State) : (setWindow w x s).uHoldReq = s.uHoldReq :=
  rfl
@[simp] theorem setWindow_uHoldCpl (w : WinId) (x : Window) (s : State) : (setWindow w x s).uHoldCpl = s.uHoldCpl :=
  rfl
@[simp] theorem setWindow_dHoldReq (w : WinId) (x : Window) (s : State) : (setWindow w x s).dHoldReq = s.dHoldReq :=
  rfl
@[simp] theorem setWindow_dHoldCpl (w : WinId) (x : Window) (s : State) : (setWindow w x s).dHoldCpl = s.dHoldCpl :=
  rfl
@[simp] theorem setWindow_uReqIn (w : WinId) (x : Window) (s : State) : (setWindow w x s).uReqIn = s.uReqIn :=
  rfl
@[simp] theorem setWindow_uCplIn (w : WinId) (x : Window) (s : State) : (setWindow w x s).uCplIn = s.uCplIn :=
  rfl
@[simp] theorem setWindow_dReqIn (w : WinId) (x : Window) (s : State) : (setWindow w x s).dReqIn = s.dReqIn :=
  rfl
@[simp] theorem setWindow_dCplIn (w : WinId) (x : Window) (s : State) : (setWindow w x s).dCplIn = s.dCplIn :=
  rfl
@[simp] theorem setWindow_uTx (w : WinId) (x : Window) (s : State) : (setWindow w x s).uTx = s.uTx := rfl
@[simp] theorem setWindow_dTx (w : WinId) (x : Window) (s : State) : (setWindow w x s).dTx = s.dTx := rfl
@[simp] theorem setWindow_refusalQ (w : WinId) (x : Window) (s : State) : (setWindow w x s).refusalQ = s.refusalQ :=
  rfl
@[simp] theorem setWindow_downQ (w : WinId) (x : Window) (s : State) : (setWindow w x s).downQ = s.downQ :=
  rfl
@[simp] theorem setWindow_refusalCount (w : WinId) (x : Window) (s : State) : (setWindow w x s).refusalCount = s.refusalCount :=
  rfl
@[simp] theorem setWindow_answerTurn (w : WinId) (x : Window) (s : State) : (setWindow w x s).answerTurn = s.answerTurn :=
  rfl
@[simp] theorem setWindow_runCount (w : WinId) (x : Window) (s : State) : (setWindow w x s).runCount = s.runCount :=
  rfl
@[simp] theorem setWindow_windows (w : WinId) (x : Window) (s : State) : (setWindow w x s).windows = s.windows.set w x :=
  rfl
@[simp] theorem setWindow_cache (w : WinId) (x : Window) (s : State) : (setWindow w x s).cache = s.cache :=
  rfl
@[simp] theorem setWindow_walks (w : WinId) (x : Window) (s : State) : (setWindow w x s).walks = s.walks :=
  rfl
@[simp] theorem setWindow_backlog (w : WinId) (x : Window) (s : State) : (setWindow w x s).backlog = s.backlog :=
  rfl
@[simp] theorem setWindow_entries (w : WinId) (x : Window) (s : State) : (setWindow w x s).entries = s.entries :=
  rfl
@[simp] theorem setWindow_issueQ (w : WinId) (x : Window) (s : State) : (setWindow w x s).issueQ = s.issueQ :=
  rfl
@[simp] theorem setWindow_answerQ (w : WinId) (x : Window) (s : State) : (setWindow w x s).answerQ = s.answerQ :=
  rfl
@[simp] theorem setWindow_contexts (w : WinId) (x : Window) (s : State) : (setWindow w x s).contexts = s.contexts :=
  rfl
@[simp] theorem setWindow_rotation (w : WinId) (x : Window) (s : State) : (setWindow w x s).rotation = s.rotation :=
  rfl
@[simp] theorem setWindow_guarantee (w : WinId) (x : Window) (s : State) : (setWindow w x s).guarantee = s.guarantee :=
  rfl
@[simp] theorem setWindow_cplTurn (w : WinId) (x : Window) (s : State) : (setWindow w x s).cplTurn = s.cplTurn :=
  rfl
@[simp] theorem setWindow_ownList (w : WinId) (x : Window) (s : State) : (setWindow w x s).ownList = s.ownList :=
  rfl
@[simp] theorem setWindow_now (w : WinId) (x : Window) (s : State) : (setWindow w x s).now = s.now := rfl
@[simp] theorem setWindow_timing (w : WinId) (x : Window) (s : State) : (setWindow w x s).timing = s.timing :=
  rfl
@[simp] theorem setWindow_tickTiming (w : WinId) (x : Window) (s : State) : (setWindow w x s).tickTiming = s.tickTiming :=
  rfl
@[simp] theorem setWindow_tableDue (w : WinId) (x : Window) (s : State) : (setWindow w x s).tableDue = s.tableDue :=
  rfl
@[simp] theorem setWindow_walkDue (w : WinId) (x : Window) (s : State) : (setWindow w x s).walkDue = s.walkDue :=
  rfl
@[simp] theorem setWindow_alertDue (w : WinId) (x : Window) (s : State) : (setWindow w x s).alertDue = s.alertDue :=
  rfl
@[simp] theorem setWindow_fences (w : WinId) (x : Window) (s : State) : (setWindow w x s).fences = s.fences :=
  rfl
@[simp] theorem setWindow_faults (w : WinId) (x : Window) (s : State) : (setWindow w x s).faults = s.faults :=
  rfl
@[simp] theorem setWindow_lost (w : WinId) (x : Window) (s : State) : (setWindow w x s).lost = s.lost := rfl
@[simp] theorem setWindow_overflowPending (w : WinId) (x : Window) (s : State) : (setWindow w x s).overflowPending = s.overflowPending :=
  rfl
@[simp] theorem setWindow_translationCtrs (w : WinId) (x : Window) (s : State) : (setWindow w x s).translationCtrs = s.translationCtrs :=
  rfl
@[simp] theorem setWindow_transactionCtrs (w : WinId) (x : Window) (s : State) : (setWindow w x s).transactionCtrs = s.transactionCtrs :=
  rfl
@[simp] theorem setWindow_requesterCtrs (w : WinId) (x : Window) (s : State) : (setWindow w x s).requesterCtrs = s.requesterCtrs :=
  rfl
@[simp] theorem setWindow_alertAddress (w : WinId) (x : Window) (s : State) : (setWindow w x s).alertAddress = s.alertAddress :=
  rfl
@[simp] theorem setWindow_alertEnabled (w : WinId) (x : Window) (s : State) : (setWindow w x s).alertEnabled = s.alertEnabled :=
  rfl
@[simp] theorem setWindow_alertArmed (w : WinId) (x : Window) (s : State) : (setWindow w x s).alertArmed = s.alertArmed :=
  rfl
@[simp] theorem setWindow_alertSlot (w : WinId) (x : Window) (s : State) : (setWindow w x s).alertSlot = s.alertSlot :=
  rfl
@[simp] theorem setWindow_apertureBase (w : WinId) (x : Window) (s : State) : (setWindow w x s).apertureBase = s.apertureBase :=
  rfl
@[simp] theorem setWindow_mgmt (w : WinId) (x : Window) (s : State) : (setWindow w x s).mgmt = s.mgmt := rfl
@[simp] theorem setWindow_mgmtOrder (w : WinId) (x : Window) (s : State) : (setWindow w x s).mgmtOrder = s.mgmtOrder :=
  rfl
@[simp] theorem setWindow_headWaiting (w : WinId) (x : Window) (s : State) : (setWindow w x s).headWaiting = s.headWaiting :=
  rfl
@[simp] theorem setWindow_replyOrder (w : WinId) (x : Window) (s : State) : (setWindow w x s).replyOrder = s.replyOrder :=
  rfl
@[simp] theorem setWindow_replyRefusals (w : WinId) (x : Window) (s : State) : (setWindow w x s).replyRefusals = s.replyRefusals :=
  rfl

end Sys2Proof.Machine
end

