-- ==== Sys2Proof/Laws/Frames.lean ====
section
/-! SUPPORT. The frames of the shared operations: the fields of `State` that each leaves as they were. -/

namespace Sys2Proof.Machine

set_option Elab.async false

/-! ### `bump` -/

@[simp] theorem bump_pending (c : Counter) (s : State) : (bump c s).pending = s.pending :=
  match c with | .translation _ => rfl | .transaction _ => rfl | .requester _ _ => rfl
@[simp] theorem bump_uUp (c : Counter) (s : State) : (bump c s).uUp = s.uUp :=
  match c with | .translation _ => rfl | .transaction _ => rfl | .requester _ _ => rfl
@[simp] theorem bump_dUp (c : Counter) (s : State) : (bump c s).dUp = s.dUp :=
  match c with | .translation _ => rfl | .transaction _ => rfl | .requester _ _ => rfl
@[simp] theorem bump_uHoldReq (c : Counter) (s : State) : (bump c s).uHoldReq = s.uHoldReq :=
  match c with | .translation _ => rfl | .transaction _ => rfl | .requester _ _ => rfl
@[simp] theorem bump_uHoldCpl (c : Counter) (s : State) : (bump c s).uHoldCpl = s.uHoldCpl :=
  match c with | .translation _ => rfl | .transaction _ => rfl | .requester _ _ => rfl
@[simp] theorem bump_dHoldReq (c : Counter) (s : State) : (bump c s).dHoldReq = s.dHoldReq :=
  match c with | .translation _ => rfl | .transaction _ => rfl | .requester _ _ => rfl
@[simp] theorem bump_dHoldCpl (c : Counter) (s : State) : (bump c s).dHoldCpl = s.dHoldCpl :=
  match c with | .translation _ => rfl | .transaction _ => rfl | .requester _ _ => rfl
@[simp] theorem bump_uReqIn (c : Counter) (s : State) : (bump c s).uReqIn = s.uReqIn :=
  match c with | .translation _ => rfl | .transaction _ => rfl | .requester _ _ => rfl
@[simp] theorem bump_uCplIn (c : Counter) (s : State) : (bump c s).uCplIn = s.uCplIn :=
  match c with | .translation _ => rfl | .transaction _ => rfl | .requester _ _ => rfl
@[simp] theorem bump_dReqIn (c : Counter) (s : State) : (bump c s).dReqIn = s.dReqIn :=
  match c with | .translation _ => rfl | .transaction _ => rfl | .requester _ _ => rfl
@[simp] theorem bump_dCplIn (c : Counter) (s : State) : (bump c s).dCplIn = s.dCplIn :=
  match c with | .translation _ => rfl | .transaction _ => rfl | .requester _ _ => rfl
@[simp] theorem bump_uTx (c : Counter) (s : State) : (bump c s).uTx = s.uTx :=
  match c with | .translation _ => rfl | .transaction _ => rfl | .requester _ _ => rfl
@[simp] theorem bump_dTx (c : Counter) (s : State) : (bump c s).dTx = s.dTx :=
  match c with | .translation _ => rfl | .transaction _ => rfl | .requester _ _ => rfl
@[simp] theorem bump_refusalQ (c : Counter) (s : State) : (bump c s).refusalQ = s.refusalQ :=
  match c with | .translation _ => rfl | .transaction _ => rfl | .requester _ _ => rfl
@[simp] theorem bump_downQ (c : Counter) (s : State) : (bump c s).downQ = s.downQ :=
  match c with | .translation _ => rfl | .transaction _ => rfl | .requester _ _ => rfl
@[simp] theorem bump_refusalCount (c : Counter) (s : State) : (bump c s).refusalCount = s.refusalCount :=
  match c with | .translation _ => rfl | .transaction _ => rfl | .requester _ _ => rfl
@[simp] theorem bump_answerTurn (c : Counter) (s : State) : (bump c s).answerTurn = s.answerTurn :=
  match c with | .translation _ => rfl | .transaction _ => rfl | .requester _ _ => rfl
@[simp] theorem bump_runCount (c : Counter) (s : State) : (bump c s).runCount = s.runCount :=
  match c with | .translation _ => rfl | .transaction _ => rfl | .requester _ _ => rfl
@[simp] theorem bump_windows (c : Counter) (s : State) : (bump c s).windows = s.windows :=
  match c with | .translation _ => rfl | .transaction _ => rfl | .requester _ _ => rfl
@[simp] theorem bump_cache (c : Counter) (s : State) : (bump c s).cache = s.cache :=
  match c with | .translation _ => rfl | .transaction _ => rfl | .requester _ _ => rfl
@[simp] theorem bump_walks (c : Counter) (s : State) : (bump c s).walks = s.walks :=
  match c with | .translation _ => rfl | .transaction _ => rfl | .requester _ _ => rfl
@[simp] theorem bump_backlog (c : Counter) (s : State) : (bump c s).backlog = s.backlog :=
  match c with | .translation _ => rfl | .transaction _ => rfl | .requester _ _ => rfl
@[simp] theorem bump_entries (c : Counter) (s : State) : (bump c s).entries = s.entries :=
  match c with | .translation _ => rfl | .transaction _ => rfl | .requester _ _ => rfl
@[simp] theorem bump_issueQ (c : Counter) (s : State) : (bump c s).issueQ = s.issueQ :=
  match c with | .translation _ => rfl | .transaction _ => rfl | .requester _ _ => rfl
@[simp] theorem bump_answerQ (c : Counter) (s : State) : (bump c s).answerQ = s.answerQ :=
  match c with | .translation _ => rfl | .transaction _ => rfl | .requester _ _ => rfl
@[simp] theorem bump_contexts (c : Counter) (s : State) : (bump c s).contexts = s.contexts :=
  match c with | .translation _ => rfl | .transaction _ => rfl | .requester _ _ => rfl
@[simp] theorem bump_rotation (c : Counter) (s : State) : (bump c s).rotation = s.rotation :=
  match c with | .translation _ => rfl | .transaction _ => rfl | .requester _ _ => rfl
@[simp] theorem bump_guarantee (c : Counter) (s : State) : (bump c s).guarantee = s.guarantee :=
  match c with | .translation _ => rfl | .transaction _ => rfl | .requester _ _ => rfl
@[simp] theorem bump_cplTurn (c : Counter) (s : State) : (bump c s).cplTurn = s.cplTurn :=
  match c with | .translation _ => rfl | .transaction _ => rfl | .requester _ _ => rfl
@[simp] theorem bump_ownList (c : Counter) (s : State) : (bump c s).ownList = s.ownList :=
  match c with | .translation _ => rfl | .transaction _ => rfl | .requester _ _ => rfl
@[simp] theorem bump_now (c : Counter) (s : State) : (bump c s).now = s.now :=
  match c with | .translation _ => rfl | .transaction _ => rfl | .requester _ _ => rfl
@[simp] theorem bump_timing (c : Counter) (s : State) : (bump c s).timing = s.timing :=
  match c with | .translation _ => rfl | .transaction _ => rfl | .requester _ _ => rfl
@[simp] theorem bump_tickTiming (c : Counter) (s : State) : (bump c s).tickTiming = s.tickTiming :=
  match c with | .translation _ => rfl | .transaction _ => rfl | .requester _ _ => rfl
@[simp] theorem bump_tableDue (c : Counter) (s : State) : (bump c s).tableDue = s.tableDue :=
  match c with | .translation _ => rfl | .transaction _ => rfl | .requester _ _ => rfl
@[simp] theorem bump_walkDue (c : Counter) (s : State) : (bump c s).walkDue = s.walkDue :=
  match c with | .translation _ => rfl | .transaction _ => rfl | .requester _ _ => rfl
@[simp] theorem bump_alertDue (c : Counter) (s : State) : (bump c s).alertDue = s.alertDue :=
  match c with | .translation _ => rfl | .transaction _ => rfl | .requester _ _ => rfl
@[simp] theorem bump_fences (c : Counter) (s : State) : (bump c s).fences = s.fences :=
  match c with | .translation _ => rfl | .transaction _ => rfl | .requester _ _ => rfl
@[simp] theorem bump_faults (c : Counter) (s : State) : (bump c s).faults = s.faults :=
  match c with | .translation _ => rfl | .transaction _ => rfl | .requester _ _ => rfl
@[simp] theorem bump_lost (c : Counter) (s : State) : (bump c s).lost = s.lost :=
  match c with | .translation _ => rfl | .transaction _ => rfl | .requester _ _ => rfl
@[simp] theorem bump_overflowPending (c : Counter) (s : State) : (bump c s).overflowPending = s.overflowPending :=
  match c with | .translation _ => rfl | .transaction _ => rfl | .requester _ _ => rfl
@[simp] theorem bump_alertAddress (c : Counter) (s : State) : (bump c s).alertAddress = s.alertAddress :=
  match c with | .translation _ => rfl | .transaction _ => rfl | .requester _ _ => rfl
@[simp] theorem bump_alertEnabled (c : Counter) (s : State) : (bump c s).alertEnabled = s.alertEnabled :=
  match c with | .translation _ => rfl | .transaction _ => rfl | .requester _ _ => rfl
@[simp] theorem bump_alertArmed (c : Counter) (s : State) : (bump c s).alertArmed = s.alertArmed :=
  match c with | .translation _ => rfl | .transaction _ => rfl | .requester _ _ => rfl
@[simp] theorem bump_alertSlot (c : Counter) (s : State) : (bump c s).alertSlot = s.alertSlot :=
  match c with | .translation _ => rfl | .transaction _ => rfl | .requester _ _ => rfl
@[simp] theorem bump_apertureBase (c : Counter) (s : State) : (bump c s).apertureBase = s.apertureBase :=
  match c with | .translation _ => rfl | .transaction _ => rfl | .requester _ _ => rfl
@[simp] theorem bump_mgmt (c : Counter) (s : State) : (bump c s).mgmt = s.mgmt :=
  match c with | .translation _ => rfl | .transaction _ => rfl | .requester _ _ => rfl
@[simp] theorem bump_mgmtOrder (c : Counter) (s : State) : (bump c s).mgmtOrder = s.mgmtOrder :=
  match c with | .translation _ => rfl | .transaction _ => rfl | .requester _ _ => rfl
@[simp] theorem bump_headWaiting (c : Counter) (s : State) : (bump c s).headWaiting = s.headWaiting :=
  match c with | .translation _ => rfl | .transaction _ => rfl | .requester _ _ => rfl
@[simp] theorem bump_replyOrder (c : Counter) (s : State) : (bump c s).replyOrder = s.replyOrder :=
  match c with | .translation _ => rfl | .transaction _ => rfl | .requester _ _ => rfl
@[simp] theorem bump_replyRefusals (c : Counter) (s : State) : (bump c s).replyRefusals = s.replyRefusals :=
  match c with | .translation _ => rfl | .transaction _ => rfl | .requester _ _ => rfl

/-! ### `offerRecord` -/

@[simp] theorem offerRecord_pending (r : FaultRecord) (s : State) : (offerRecord r s).pending = s.pending :=
  by unfold offerRecord; split <;> rfl
@[simp] theorem offerRecord_uUp (r : FaultRecord) (s : State) : (offerRecord r s).uUp = s.uUp :=
  by unfold offerRecord; split <;> rfl
@[simp] theorem offerRecord_dUp (r : FaultRecord) (s : State) : (offerRecord r s).dUp = s.dUp :=
  by unfold offerRecord; split <;> rfl
@[simp] theorem offerRecord_uHoldReq (r : FaultRecord) (s : State) : (offerRecord r s).uHoldReq = s.uHoldReq :=
  by unfold offerRecord; split <;> rfl
@[simp] theorem offerRecord_uHoldCpl (r : FaultRecord) (s : State) : (offerRecord r s).uHoldCpl = s.uHoldCpl :=
  by unfold offerRecord; split <;> rfl
@[simp] theorem offerRecord_dHoldReq (r : FaultRecord) (s : State) : (offerRecord r s).dHoldReq = s.dHoldReq :=
  by unfold offerRecord; split <;> rfl
@[simp] theorem offerRecord_dHoldCpl (r : FaultRecord) (s : State) : (offerRecord r s).dHoldCpl = s.dHoldCpl :=
  by unfold offerRecord; split <;> rfl
@[simp] theorem offerRecord_uReqIn (r : FaultRecord) (s : State) : (offerRecord r s).uReqIn = s.uReqIn :=
  by unfold offerRecord; split <;> rfl
@[simp] theorem offerRecord_uCplIn (r : FaultRecord) (s : State) : (offerRecord r s).uCplIn = s.uCplIn :=
  by unfold offerRecord; split <;> rfl
@[simp] theorem offerRecord_dReqIn (r : FaultRecord) (s : State) : (offerRecord r s).dReqIn = s.dReqIn :=
  by unfold offerRecord; split <;> rfl
@[simp] theorem offerRecord_dCplIn (r : FaultRecord) (s : State) : (offerRecord r s).dCplIn = s.dCplIn :=
  by unfold offerRecord; split <;> rfl
@[simp] theorem offerRecord_uTx (r : FaultRecord) (s : State) : (offerRecord r s).uTx = s.uTx :=
  by unfold offerRecord; split <;> rfl
@[simp] theorem offerRecord_dTx (r : FaultRecord) (s : State) : (offerRecord r s).dTx = s.dTx :=
  by unfold offerRecord; split <;> rfl
@[simp] theorem offerRecord_refusalQ (r : FaultRecord) (s : State) : (offerRecord r s).refusalQ = s.refusalQ :=
  by unfold offerRecord; split <;> rfl
@[simp] theorem offerRecord_downQ (r : FaultRecord) (s : State) : (offerRecord r s).downQ = s.downQ :=
  by unfold offerRecord; split <;> rfl
@[simp] theorem offerRecord_refusalCount (r : FaultRecord) (s : State) : (offerRecord r s).refusalCount = s.refusalCount :=
  by unfold offerRecord; split <;> rfl
@[simp] theorem offerRecord_answerTurn (r : FaultRecord) (s : State) : (offerRecord r s).answerTurn = s.answerTurn :=
  by unfold offerRecord; split <;> rfl
@[simp] theorem offerRecord_runCount (r : FaultRecord) (s : State) : (offerRecord r s).runCount = s.runCount :=
  by unfold offerRecord; split <;> rfl
@[simp] theorem offerRecord_windows (r : FaultRecord) (s : State) : (offerRecord r s).windows = s.windows :=
  by unfold offerRecord; split <;> rfl
@[simp] theorem offerRecord_cache (r : FaultRecord) (s : State) : (offerRecord r s).cache = s.cache :=
  by unfold offerRecord; split <;> rfl
@[simp] theorem offerRecord_walks (r : FaultRecord) (s : State) : (offerRecord r s).walks = s.walks :=
  by unfold offerRecord; split <;> rfl
@[simp] theorem offerRecord_backlog (r : FaultRecord) (s : State) : (offerRecord r s).backlog = s.backlog :=
  by unfold offerRecord; split <;> rfl
@[simp] theorem offerRecord_entries (r : FaultRecord) (s : State) : (offerRecord r s).entries = s.entries :=
  by unfold offerRecord; split <;> rfl
@[simp] theorem offerRecord_issueQ (r : FaultRecord) (s : State) : (offerRecord r s).issueQ = s.issueQ :=
  by unfold offerRecord; split <;> rfl
@[simp] theorem offerRecord_answerQ (r : FaultRecord) (s : State) : (offerRecord r s).answerQ = s.answerQ :=
  by unfold offerRecord; split <;> rfl
@[simp] theorem offerRecord_contexts (r : FaultRecord) (s : State) : (offerRecord r s).contexts = s.contexts :=
  by unfold offerRecord; split <;> rfl
@[simp] theorem offerRecord_rotation (r : FaultRecord) (s : State) : (offerRecord r s).rotation = s.rotation :=
  by unfold offerRecord; split <;> rfl
@[simp] theorem offerRecord_guarantee (r : FaultRecord) (s : State) : (offerRecord r s).guarantee = s.guarantee :=
  by unfold offerRecord; split <;> rfl
@[simp] theorem offerRecord_cplTurn (r : FaultRecord) (s : State) : (offerRecord r s).cplTurn = s.cplTurn :=
  by unfold offerRecord; split <;> rfl
@[simp] theorem offerRecord_ownList (r : FaultRecord) (s : State) : (offerRecord r s).ownList = s.ownList :=
  by unfold offerRecord; split <;> rfl
@[simp] theorem offerRecord_now (r : FaultRecord) (s : State) : (offerRecord r s).now = s.now :=
  by unfold offerRecord; split <;> rfl
@[simp] theorem offerRecord_timing (r : FaultRecord) (s : State) : (offerRecord r s).timing = s.timing :=
  by unfold offerRecord; split <;> rfl
@[simp] theorem offerRecord_tickTiming (r : FaultRecord) (s : State) : (offerRecord r s).tickTiming = s.tickTiming :=
  by unfold offerRecord; split <;> rfl
@[simp] theorem offerRecord_tableDue (r : FaultRecord) (s : State) : (offerRecord r s).tableDue = s.tableDue :=
  by unfold offerRecord; split <;> rfl
@[simp] theorem offerRecord_walkDue (r : FaultRecord) (s : State) : (offerRecord r s).walkDue = s.walkDue :=
  by unfold offerRecord; split <;> rfl
@[simp] theorem offerRecord_alertDue (r : FaultRecord) (s : State) : (offerRecord r s).alertDue = s.alertDue :=
  by unfold offerRecord; split <;> rfl
@[simp] theorem offerRecord_fences (r : FaultRecord) (s : State) : (offerRecord r s).fences = s.fences :=
  by unfold offerRecord; split <;> rfl
@[simp] theorem offerRecord_translationCtrs (r : FaultRecord) (s : State) : (offerRecord r s).translationCtrs = s.translationCtrs :=
  by unfold offerRecord; split <;> rfl
@[simp] theorem offerRecord_transactionCtrs (r : FaultRecord) (s : State) : (offerRecord r s).transactionCtrs = s.transactionCtrs :=
  by unfold offerRecord; split <;> rfl
@[simp] theorem offerRecord_requesterCtrs (r : FaultRecord) (s : State) : (offerRecord r s).requesterCtrs = s.requesterCtrs :=
  by unfold offerRecord; split <;> rfl
@[simp] theorem offerRecord_alertAddress (r : FaultRecord) (s : State) : (offerRecord r s).alertAddress = s.alertAddress :=
  by unfold offerRecord; split <;> rfl
@[simp] theorem offerRecord_alertEnabled (r : FaultRecord) (s : State) : (offerRecord r s).alertEnabled = s.alertEnabled :=
  by unfold offerRecord; split <;> rfl
@[simp] theorem offerRecord_alertArmed (r : FaultRecord) (s : State) : (offerRecord r s).alertArmed = s.alertArmed :=
  by unfold offerRecord; split <;> rfl
@[simp] theorem offerRecord_alertSlot (r : FaultRecord) (s : State) : (offerRecord r s).alertSlot = s.alertSlot :=
  by unfold offerRecord; split <;> rfl
@[simp] theorem offerRecord_apertureBase (r : FaultRecord) (s : State) : (offerRecord r s).apertureBase = s.apertureBase :=
  by unfold offerRecord; split <;> rfl
@[simp] theorem offerRecord_mgmt (r : FaultRecord) (s : State) : (offerRecord r s).mgmt = s.mgmt :=
  by unfold offerRecord; split <;> rfl
@[simp] theorem offerRecord_mgmtOrder (r : FaultRecord) (s : State) : (offerRecord r s).mgmtOrder = s.mgmtOrder :=
  by unfold offerRecord; split <;> rfl
@[simp] theorem offerRecord_headWaiting (r : FaultRecord) (s : State) : (offerRecord r s).headWaiting = s.headWaiting :=
  by unfold offerRecord; split <;> rfl
@[simp] theorem offerRecord_replyOrder (r : FaultRecord) (s : State) : (offerRecord r s).replyOrder = s.replyOrder :=
  by unfold offerRecord; split <;> rfl
@[simp] theorem offerRecord_replyRefusals (r : FaultRecord) (s : State) : (offerRecord r s).replyRefusals = s.replyRefusals :=
  by unfold offerRecord; split <;> rfl

/-! ### `evalTrigger` -/

@[simp] theorem evalTrigger_pending (s : State) : (evalTrigger s).pending = s.pending :=
  by unfold evalTrigger; split <;> rfl
@[simp] theorem evalTrigger_uUp (s : State) : (evalTrigger s).uUp = s.uUp :=
  by unfold evalTrigger; split <;> rfl
@[simp] theorem evalTrigger_dUp (s : State) : (evalTrigger s).dUp = s.dUp :=
  by unfold evalTrigger; split <;> rfl
@[simp] theorem evalTrigger_uHoldReq (s : State) : (evalTrigger s).uHoldReq = s.uHoldReq :=
  by unfold evalTrigger; split <;> rfl
@[simp] theorem evalTrigger_uHoldCpl (s : State) : (evalTrigger s).uHoldCpl = s.uHoldCpl :=
  by unfold evalTrigger; split <;> rfl
@[simp] theorem evalTrigger_dHoldReq (s : State) : (evalTrigger s).dHoldReq = s.dHoldReq :=
  by unfold evalTrigger; split <;> rfl
@[simp] theorem evalTrigger_dHoldCpl (s : State) : (evalTrigger s).dHoldCpl = s.dHoldCpl :=
  by unfold evalTrigger; split <;> rfl
@[simp] theorem evalTrigger_uReqIn (s : State) : (evalTrigger s).uReqIn = s.uReqIn :=
  by unfold evalTrigger; split <;> rfl
@[simp] theorem evalTrigger_uCplIn (s : State) : (evalTrigger s).uCplIn = s.uCplIn :=
  by unfold evalTrigger; split <;> rfl
@[simp] theorem evalTrigger_dReqIn (s : State) : (evalTrigger s).dReqIn = s.dReqIn :=
  by unfold evalTrigger; split <;> rfl
@[simp] theorem evalTrigger_dCplIn (s : State) : (evalTrigger s).dCplIn = s.dCplIn :=
  by unfold evalTrigger; split <;> rfl
@[simp] theorem evalTrigger_uTx (s : State) : (evalTrigger s).uTx = s.uTx :=
  by unfold evalTrigger; split <;> rfl
@[simp] theorem evalTrigger_dTx (s : State) : (evalTrigger s).dTx = s.dTx :=
  by unfold evalTrigger; split <;> rfl
@[simp] theorem evalTrigger_refusalQ (s : State) : (evalTrigger s).refusalQ = s.refusalQ :=
  by unfold evalTrigger; split <;> rfl
@[simp] theorem evalTrigger_downQ (s : State) : (evalTrigger s).downQ = s.downQ :=
  by unfold evalTrigger; split <;> rfl
@[simp] theorem evalTrigger_refusalCount (s : State) : (evalTrigger s).refusalCount = s.refusalCount :=
  by unfold evalTrigger; split <;> rfl
@[simp] theorem evalTrigger_answerTurn (s : State) : (evalTrigger s).answerTurn = s.answerTurn :=
  by unfold evalTrigger; split <;> rfl
@[simp] theorem evalTrigger_runCount (s : State) : (evalTrigger s).runCount = s.runCount :=
  by unfold evalTrigger; split <;> rfl
@[simp] theorem evalTrigger_windows (s : State) : (evalTrigger s).windows = s.windows :=
  by unfold evalTrigger; split <;> rfl
@[simp] theorem evalTrigger_cache (s : State) : (evalTrigger s).cache = s.cache :=
  by unfold evalTrigger; split <;> rfl
@[simp] theorem evalTrigger_walks (s : State) : (evalTrigger s).walks = s.walks :=
  by unfold evalTrigger; split <;> rfl
@[simp] theorem evalTrigger_backlog (s : State) : (evalTrigger s).backlog = s.backlog :=
  by unfold evalTrigger; split <;> rfl
@[simp] theorem evalTrigger_entries (s : State) : (evalTrigger s).entries = s.entries :=
  by unfold evalTrigger; split <;> rfl
@[simp] theorem evalTrigger_issueQ (s : State) : (evalTrigger s).issueQ = s.issueQ :=
  by unfold evalTrigger; split <;> rfl
@[simp] theorem evalTrigger_answerQ (s : State) : (evalTrigger s).answerQ = s.answerQ :=
  by unfold evalTrigger; split <;> rfl
@[simp] theorem evalTrigger_contexts (s : State) : (evalTrigger s).contexts = s.contexts :=
  by unfold evalTrigger; split <;> rfl
@[simp] theorem evalTrigger_rotation (s : State) : (evalTrigger s).rotation = s.rotation :=
  by unfold evalTrigger; split <;> rfl
@[simp] theorem evalTrigger_guarantee (s : State) : (evalTrigger s).guarantee = s.guarantee :=
  by unfold evalTrigger; split <;> rfl
@[simp] theorem evalTrigger_cplTurn (s : State) : (evalTrigger s).cplTurn = s.cplTurn :=
  by unfold evalTrigger; split <;> rfl
@[simp] theorem evalTrigger_now (s : State) : (evalTrigger s).now = s.now :=
  by unfold evalTrigger; split <;> rfl
@[simp] theorem evalTrigger_timing (s : State) : (evalTrigger s).timing = s.timing :=
  by unfold evalTrigger; split <;> rfl
@[simp] theorem evalTrigger_tickTiming (s : State) : (evalTrigger s).tickTiming = s.tickTiming :=
  by unfold evalTrigger; split <;> rfl
@[simp] theorem evalTrigger_tableDue (s : State) : (evalTrigger s).tableDue = s.tableDue :=
  by unfold evalTrigger; split <;> rfl
@[simp] theorem evalTrigger_walkDue (s : State) : (evalTrigger s).walkDue = s.walkDue :=
  by unfold evalTrigger; split <;> rfl
@[simp] theorem evalTrigger_alertDue (s : State) : (evalTrigger s).alertDue = s.alertDue :=
  by unfold evalTrigger; split <;> rfl
@[simp] theorem evalTrigger_fences (s : State) : (evalTrigger s).fences = s.fences :=
  by unfold evalTrigger; split <;> rfl
@[simp] theorem evalTrigger_faults (s : State) : (evalTrigger s).faults = s.faults :=
  by unfold evalTrigger; split <;> rfl
@[simp] theorem evalTrigger_lost (s : State) : (evalTrigger s).lost = s.lost :=
  by unfold evalTrigger; split <;> rfl
@[simp] theorem evalTrigger_overflowPending (s : State) : (evalTrigger s).overflowPending = s.overflowPending :=
  by unfold evalTrigger; split <;> rfl
@[simp] theorem evalTrigger_translationCtrs (s : State) : (evalTrigger s).translationCtrs = s.translationCtrs :=
  by unfold evalTrigger; split <;> rfl
@[simp] theorem evalTrigger_transactionCtrs (s : State) : (evalTrigger s).transactionCtrs = s.transactionCtrs :=
  by unfold evalTrigger; split <;> rfl
@[simp] theorem evalTrigger_requesterCtrs (s : State) : (evalTrigger s).requesterCtrs = s.requesterCtrs :=
  by unfold evalTrigger; split <;> rfl
@[simp] theorem evalTrigger_alertAddress (s : State) : (evalTrigger s).alertAddress = s.alertAddress :=
  by unfold evalTrigger; split <;> rfl
@[simp] theorem evalTrigger_alertEnabled (s : State) : (evalTrigger s).alertEnabled = s.alertEnabled :=
  by unfold evalTrigger; split <;> rfl
@[simp] theorem evalTrigger_apertureBase (s : State) : (evalTrigger s).apertureBase = s.apertureBase :=
  by unfold evalTrigger; split <;> rfl
@[simp] theorem evalTrigger_mgmt (s : State) : (evalTrigger s).mgmt = s.mgmt :=
  by unfold evalTrigger; split <;> rfl
@[simp] theorem evalTrigger_mgmtOrder (s : State) : (evalTrigger s).mgmtOrder = s.mgmtOrder :=
  by unfold evalTrigger; split <;> rfl
@[simp] theorem evalTrigger_headWaiting (s : State) : (evalTrigger s).headWaiting = s.headWaiting :=
  by unfold evalTrigger; split <;> rfl
@[simp] theorem evalTrigger_replyOrder (s : State) : (evalTrigger s).replyOrder = s.replyOrder :=
  by unfold evalTrigger; split <;> rfl
@[simp] theorem evalTrigger_replyRefusals (s : State) : (evalTrigger s).replyRefusals = s.replyRefusals :=
  by unfold evalTrigger; split <;> rfl

/-! ### `applyStop` -/

@[simp] theorem applyStop_pending (kind : FaultKind) (r : ReqId) (s : State) : (applyStop kind r s).pending = s.pending :=
  by simp only [applyStop]; split <;> rfl
@[simp] theorem applyStop_uUp (kind : FaultKind) (r : ReqId) (s : State) : (applyStop kind r s).uUp = s.uUp :=
  by simp only [applyStop]; split <;> rfl
@[simp] theorem applyStop_dUp (kind : FaultKind) (r : ReqId) (s : State) : (applyStop kind r s).dUp = s.dUp :=
  by simp only [applyStop]; split <;> rfl
@[simp] theorem applyStop_uHoldReq (kind : FaultKind) (r : ReqId) (s : State) : (applyStop kind r s).uHoldReq = s.uHoldReq :=
  by simp only [applyStop]; split <;> rfl
@[simp] theorem applyStop_uHoldCpl (kind : FaultKind) (r : ReqId) (s : State) : (applyStop kind r s).uHoldCpl = s.uHoldCpl :=
  by simp only [applyStop]; split <;> rfl
@[simp] theorem applyStop_dHoldReq (kind : FaultKind) (r : ReqId) (s : State) : (applyStop kind r s).dHoldReq = s.dHoldReq :=
  by simp only [applyStop]; split <;> rfl
@[simp] theorem applyStop_dHoldCpl (kind : FaultKind) (r : ReqId) (s : State) : (applyStop kind r s).dHoldCpl = s.dHoldCpl :=
  by simp only [applyStop]; split <;> rfl
@[simp] theorem applyStop_uReqIn (kind : FaultKind) (r : ReqId) (s : State) : (applyStop kind r s).uReqIn = s.uReqIn :=
  by simp only [applyStop]; split <;> rfl
@[simp] theorem applyStop_uCplIn (kind : FaultKind) (r : ReqId) (s : State) : (applyStop kind r s).uCplIn = s.uCplIn :=
  by simp only [applyStop]; split <;> rfl
@[simp] theorem applyStop_dReqIn (kind : FaultKind) (r : ReqId) (s : State) : (applyStop kind r s).dReqIn = s.dReqIn :=
  by simp only [applyStop]; split <;> rfl
@[simp] theorem applyStop_dCplIn (kind : FaultKind) (r : ReqId) (s : State) : (applyStop kind r s).dCplIn = s.dCplIn :=
  by simp only [applyStop]; split <;> rfl
@[simp] theorem applyStop_uTx (kind : FaultKind) (r : ReqId) (s : State) : (applyStop kind r s).uTx = s.uTx :=
  by simp only [applyStop]; split <;> rfl
@[simp] theorem applyStop_dTx (kind : FaultKind) (r : ReqId) (s : State) : (applyStop kind r s).dTx = s.dTx :=
  by simp only [applyStop]; split <;> rfl
@[simp] theorem applyStop_refusalQ (kind : FaultKind) (r : ReqId) (s : State) : (applyStop kind r s).refusalQ = s.refusalQ :=
  by simp only [applyStop]; split <;> rfl
@[simp] theorem applyStop_downQ (kind : FaultKind) (r : ReqId) (s : State) : (applyStop kind r s).downQ = s.downQ :=
  by simp only [applyStop]; split <;> rfl
@[simp] theorem applyStop_refusalCount (kind : FaultKind) (r : ReqId) (s : State) : (applyStop kind r s).refusalCount = s.refusalCount :=
  by simp only [applyStop]; split <;> rfl
@[simp] theorem applyStop_answerTurn (kind : FaultKind) (r : ReqId) (s : State) : (applyStop kind r s).answerTurn = s.answerTurn :=
  by simp only [applyStop]; split <;> rfl
@[simp] theorem applyStop_runCount (kind : FaultKind) (r : ReqId) (s : State) : (applyStop kind r s).runCount = s.runCount :=
  by simp only [applyStop]; split <;> rfl
@[simp] theorem applyStop_windows (kind : FaultKind) (r : ReqId) (s : State) : (applyStop kind r s).windows = s.windows :=
  by simp only [applyStop]; split <;> rfl
@[simp] theorem applyStop_cache (kind : FaultKind) (r : ReqId) (s : State) : (applyStop kind r s).cache = s.cache :=
  by simp only [applyStop]; split <;> rfl
@[simp] theorem applyStop_walks (kind : FaultKind) (r : ReqId) (s : State) : (applyStop kind r s).walks = s.walks :=
  by simp only [applyStop]; split <;> rfl
@[simp] theorem applyStop_backlog (kind : FaultKind) (r : ReqId) (s : State) : (applyStop kind r s).backlog = s.backlog :=
  by simp only [applyStop]; split <;> rfl
@[simp] theorem applyStop_entries (kind : FaultKind) (r : ReqId) (s : State) : (applyStop kind r s).entries = s.entries :=
  by simp only [applyStop]; split <;> rfl
@[simp] theorem applyStop_issueQ (kind : FaultKind) (r : ReqId) (s : State) : (applyStop kind r s).issueQ = s.issueQ :=
  by simp only [applyStop]; split <;> rfl
@[simp] theorem applyStop_answerQ (kind : FaultKind) (r : ReqId) (s : State) : (applyStop kind r s).answerQ = s.answerQ :=
  by simp only [applyStop]; split <;> rfl
@[simp] theorem applyStop_rotation (kind : FaultKind) (r : ReqId) (s : State) : (applyStop kind r s).rotation = s.rotation :=
  by simp only [applyStop]; split <;> rfl
@[simp] theorem applyStop_guarantee (kind : FaultKind) (r : ReqId) (s : State) : (applyStop kind r s).guarantee = s.guarantee :=
  by simp only [applyStop]; split <;> rfl
@[simp] theorem applyStop_cplTurn (kind : FaultKind) (r : ReqId) (s : State) : (applyStop kind r s).cplTurn = s.cplTurn :=
  by simp only [applyStop]; split <;> rfl
@[simp] theorem applyStop_ownList (kind : FaultKind) (r : ReqId) (s : State) : (applyStop kind r s).ownList = s.ownList :=
  by simp only [applyStop]; split <;> rfl
@[simp] theorem applyStop_now (kind : FaultKind) (r : ReqId) (s : State) : (applyStop kind r s).now = s.now :=
  by simp only [applyStop]; split <;> rfl
@[simp] theorem applyStop_timing (kind : FaultKind) (r : ReqId) (s : State) : (applyStop kind r s).timing = s.timing :=
  by simp only [applyStop]; split <;> rfl
@[simp] theorem applyStop_tickTiming (kind : FaultKind) (r : ReqId) (s : State) : (applyStop kind r s).tickTiming = s.tickTiming :=
  by simp only [applyStop]; split <;> rfl
@[simp] theorem applyStop_tableDue (kind : FaultKind) (r : ReqId) (s : State) : (applyStop kind r s).tableDue = s.tableDue :=
  by simp only [applyStop]; split <;> rfl
@[simp] theorem applyStop_walkDue (kind : FaultKind) (r : ReqId) (s : State) : (applyStop kind r s).walkDue = s.walkDue :=
  by simp only [applyStop]; split <;> rfl
@[simp] theorem applyStop_alertDue (kind : FaultKind) (r : ReqId) (s : State) : (applyStop kind r s).alertDue = s.alertDue :=
  by simp only [applyStop]; split <;> rfl
@[simp] theorem applyStop_fences (kind : FaultKind) (r : ReqId) (s : State) : (applyStop kind r s).fences = s.fences :=
  by simp only [applyStop]; split <;> rfl
@[simp] theorem applyStop_faults (kind : FaultKind) (r : ReqId) (s : State) : (applyStop kind r s).faults = s.faults :=
  by simp only [applyStop]; split <;> rfl
@[simp] theorem applyStop_lost (kind : FaultKind) (r : ReqId) (s : State) : (applyStop kind r s).lost = s.lost :=
  by simp only [applyStop]; split <;> rfl
@[simp] theorem applyStop_overflowPending (kind : FaultKind) (r : ReqId) (s : State) : (applyStop kind r s).overflowPending = s.overflowPending :=
  by simp only [applyStop]; split <;> rfl
@[simp] theorem applyStop_translationCtrs (kind : FaultKind) (r : ReqId) (s : State) : (applyStop kind r s).translationCtrs = s.translationCtrs :=
  by simp only [applyStop]; split <;> rfl
@[simp] theorem applyStop_transactionCtrs (kind : FaultKind) (r : ReqId) (s : State) : (applyStop kind r s).transactionCtrs = s.transactionCtrs :=
  by simp only [applyStop]; split <;> rfl
@[simp] theorem applyStop_requesterCtrs (kind : FaultKind) (r : ReqId) (s : State) : (applyStop kind r s).requesterCtrs = s.requesterCtrs :=
  by simp only [applyStop]; split <;> rfl
@[simp] theorem applyStop_alertAddress (kind : FaultKind) (r : ReqId) (s : State) : (applyStop kind r s).alertAddress = s.alertAddress :=
  by simp only [applyStop]; split <;> rfl
@[simp] theorem applyStop_alertEnabled (kind : FaultKind) (r : ReqId) (s : State) : (applyStop kind r s).alertEnabled = s.alertEnabled :=
  by simp only [applyStop]; split <;> rfl
@[simp] theorem applyStop_alertArmed (kind : FaultKind) (r : ReqId) (s : State) : (applyStop kind r s).alertArmed = s.alertArmed :=
  by simp only [applyStop]; split <;> rfl
@[simp] theorem applyStop_alertSlot (kind : FaultKind) (r : ReqId) (s : State) : (applyStop kind r s).alertSlot = s.alertSlot :=
  by simp only [applyStop]; split <;> rfl
@[simp] theorem applyStop_apertureBase (kind : FaultKind) (r : ReqId) (s : State) : (applyStop kind r s).apertureBase = s.apertureBase :=
  by simp only [applyStop]; split <;> rfl
@[simp] theorem applyStop_mgmt (kind : FaultKind) (r : ReqId) (s : State) : (applyStop kind r s).mgmt = s.mgmt :=
  by simp only [applyStop]; split <;> rfl
@[simp] theorem applyStop_mgmtOrder (kind : FaultKind) (r : ReqId) (s : State) : (applyStop kind r s).mgmtOrder = s.mgmtOrder :=
  by simp only [applyStop]; split <;> rfl
@[simp] theorem applyStop_headWaiting (kind : FaultKind) (r : ReqId) (s : State) : (applyStop kind r s).headWaiting = s.headWaiting :=
  by simp only [applyStop]; split <;> rfl
@[simp] theorem applyStop_replyOrder (kind : FaultKind) (r : ReqId) (s : State) : (applyStop kind r s).replyOrder = s.replyOrder :=
  by simp only [applyStop]; split <;> rfl
@[simp] theorem applyStop_replyRefusals (kind : FaultKind) (r : ReqId) (s : State) : (applyStop kind r s).replyRefusals = s.replyRefusals :=
  by simp only [applyStop]; split <;> rfl

/-! ### `replySlot` -/

@[simp] theorem replySlot_pending (k : MgmtId) (ws : List Word) (s : State) : (replySlot k ws s).pending = s.pending :=
  rfl
@[simp] theorem replySlot_uUp (k : MgmtId) (ws : List Word) (s : State) : (replySlot k ws s).uUp = s.uUp :=
  rfl
@[simp] theorem replySlot_dUp (k : MgmtId) (ws : List Word) (s : State) : (replySlot k ws s).dUp = s.dUp :=
  rfl
@[simp] theorem replySlot_uHoldReq (k : MgmtId) (ws : List Word) (s : State) : (replySlot k ws s).uHoldReq = s.uHoldReq :=
  rfl
@[simp] theorem replySlot_uHoldCpl (k : MgmtId) (ws : List Word) (s : State) : (replySlot k ws s).uHoldCpl = s.uHoldCpl :=
  rfl
@[simp] theorem replySlot_dHoldReq (k : MgmtId) (ws : List Word) (s : State) : (replySlot k ws s).dHoldReq = s.dHoldReq :=
  rfl
@[simp] theorem replySlot_dHoldCpl (k : MgmtId) (ws : List Word) (s : State) : (replySlot k ws s).dHoldCpl = s.dHoldCpl :=
  rfl
@[simp] theorem replySlot_uReqIn (k : MgmtId) (ws : List Word) (s : State) : (replySlot k ws s).uReqIn = s.uReqIn :=
  rfl
@[simp] theorem replySlot_uCplIn (k : MgmtId) (ws : List Word) (s : State) : (replySlot k ws s).uCplIn = s.uCplIn :=
  rfl
@[simp] theorem replySlot_dReqIn (k : MgmtId) (ws : List Word) (s : State) : (replySlot k ws s).dReqIn = s.dReqIn :=
  rfl
@[simp] theorem replySlot_dCplIn (k : MgmtId) (ws : List Word) (s : State) : (replySlot k ws s).dCplIn = s.dCplIn :=
  rfl
@[simp] theorem replySlot_uTx (k : MgmtId) (ws : List Word) (s : State) : (replySlot k ws s).uTx = s.uTx :=
  rfl
@[simp] theorem replySlot_dTx (k : MgmtId) (ws : List Word) (s : State) : (replySlot k ws s).dTx = s.dTx :=
  rfl
@[simp] theorem replySlot_refusalQ (k : MgmtId) (ws : List Word) (s : State) : (replySlot k ws s).refusalQ = s.refusalQ :=
  rfl
@[simp] theorem replySlot_downQ (k : MgmtId) (ws : List Word) (s : State) : (replySlot k ws s).downQ = s.downQ :=
  rfl
@[simp] theorem replySlot_refusalCount (k : MgmtId) (ws : List Word) (s : State) : (replySlot k ws s).refusalCount = s.refusalCount :=
  rfl
@[simp] theorem replySlot_answerTurn (k : MgmtId) (ws : List Word) (s : State) : (replySlot k ws s).answerTurn = s.answerTurn :=
  rfl
@[simp] theorem replySlot_runCount (k : MgmtId) (ws : List Word) (s : State) : (replySlot k ws s).runCount = s.runCount :=
  rfl
@[simp] theorem replySlot_windows (k : MgmtId) (ws : List Word) (s : State) : (replySlot k ws s).windows = s.windows :=
  rfl
@[simp] theorem replySlot_cache (k : MgmtId) (ws : List Word) (s : State) : (replySlot k ws s).cache = s.cache :=
  rfl
@[simp] theorem replySlot_walks (k : MgmtId) (ws : List Word) (s : State) : (replySlot k ws s).walks = s.walks :=
  rfl
@[simp] theorem replySlot_backlog (k : MgmtId) (ws : List Word) (s : State) : (replySlot k ws s).backlog = s.backlog :=
  rfl
@[simp] theorem replySlot_entries (k : MgmtId) (ws : List Word) (s : State) : (replySlot k ws s).entries = s.entries :=
  rfl
@[simp] theorem replySlot_issueQ (k : MgmtId) (ws : List Word) (s : State) : (replySlot k ws s).issueQ = s.issueQ :=
  rfl
@[simp] theorem replySlot_answerQ (k : MgmtId) (ws : List Word) (s : State) : (replySlot k ws s).answerQ = s.answerQ :=
  rfl
@[simp] theorem replySlot_contexts (k : MgmtId) (ws : List Word) (s : State) : (replySlot k ws s).contexts = s.contexts :=
  rfl
@[simp] theorem replySlot_rotation (k : MgmtId) (ws : List Word) (s : State) : (replySlot k ws s).rotation = s.rotation :=
  rfl
@[simp] theorem replySlot_guarantee (k : MgmtId) (ws : List Word) (s : State) : (replySlot k ws s).guarantee = s.guarantee :=
  rfl
@[simp] theorem replySlot_cplTurn (k : MgmtId) (ws : List Word) (s : State) : (replySlot k ws s).cplTurn = s.cplTurn :=
  rfl
@[simp] theorem replySlot_ownList (k : MgmtId) (ws : List Word) (s : State) : (replySlot k ws s).ownList = s.ownList :=
  rfl
@[simp] theorem replySlot_now (k : MgmtId) (ws : List Word) (s : State) : (replySlot k ws s).now = s.now :=
  rfl
@[simp] theorem replySlot_timing (k : MgmtId) (ws : List Word) (s : State) : (replySlot k ws s).timing = s.timing :=
  rfl
@[simp] theorem replySlot_tickTiming (k : MgmtId) (ws : List Word) (s : State) : (replySlot k ws s).tickTiming = s.tickTiming :=
  rfl
@[simp] theorem replySlot_tableDue (k : MgmtId) (ws : List Word) (s : State) : (replySlot k ws s).tableDue = s.tableDue :=
  rfl
@[simp] theorem replySlot_walkDue (k : MgmtId) (ws : List Word) (s : State) : (replySlot k ws s).walkDue = s.walkDue :=
  rfl
@[simp] theorem replySlot_alertDue (k : MgmtId) (ws : List Word) (s : State) : (replySlot k ws s).alertDue = s.alertDue :=
  rfl
@[simp] theorem replySlot_fences (k : MgmtId) (ws : List Word) (s : State) : (replySlot k ws s).fences = s.fences :=
  rfl
@[simp] theorem replySlot_faults (k : MgmtId) (ws : List Word) (s : State) : (replySlot k ws s).faults = s.faults :=
  rfl
@[simp] theorem replySlot_lost (k : MgmtId) (ws : List Word) (s : State) : (replySlot k ws s).lost = s.lost :=
  rfl
@[simp] theorem replySlot_overflowPending (k : MgmtId) (ws : List Word) (s : State) : (replySlot k ws s).overflowPending = s.overflowPending :=
  rfl
@[simp] theorem replySlot_translationCtrs (k : MgmtId) (ws : List Word) (s : State) : (replySlot k ws s).translationCtrs = s.translationCtrs :=
  rfl
@[simp] theorem replySlot_transactionCtrs (k : MgmtId) (ws : List Word) (s : State) : (replySlot k ws s).transactionCtrs = s.transactionCtrs :=
  rfl
@[simp] theorem replySlot_requesterCtrs (k : MgmtId) (ws : List Word) (s : State) : (replySlot k ws s).requesterCtrs = s.requesterCtrs :=
  rfl
@[simp] theorem replySlot_alertAddress (k : MgmtId) (ws : List Word) (s : State) : (replySlot k ws s).alertAddress = s.alertAddress :=
  rfl
@[simp] theorem replySlot_alertEnabled (k : MgmtId) (ws : List Word) (s : State) : (replySlot k ws s).alertEnabled = s.alertEnabled :=
  rfl
@[simp] theorem replySlot_alertArmed (k : MgmtId) (ws : List Word) (s : State) : (replySlot k ws s).alertArmed = s.alertArmed :=
  rfl
@[simp] theorem replySlot_alertSlot (k : MgmtId) (ws : List Word) (s : State) : (replySlot k ws s).alertSlot = s.alertSlot :=
  rfl
@[simp] theorem replySlot_apertureBase (k : MgmtId) (ws : List Word) (s : State) : (replySlot k ws s).apertureBase = s.apertureBase :=
  rfl
@[simp] theorem replySlot_mgmtOrder (k : MgmtId) (ws : List Word) (s : State) : (replySlot k ws s).mgmtOrder = s.mgmtOrder :=
  rfl
@[simp] theorem replySlot_headWaiting (k : MgmtId) (ws : List Word) (s : State) : (replySlot k ws s).headWaiting = s.headWaiting :=
  rfl
@[simp] theorem replySlot_replyRefusals (k : MgmtId) (ws : List Word) (s : State) : (replySlot k ws s).replyRefusals = s.replyRefusals :=
  rfl

/-! ### `popOrder` -/

@[simp] theorem popOrder_pending (s : State) : (popOrder s).pending = s.pending := rfl
@[simp] theorem popOrder_uUp (s : State) : (popOrder s).uUp = s.uUp := rfl
@[simp] theorem popOrder_dUp (s : State) : (popOrder s).dUp = s.dUp := rfl
@[simp] theorem popOrder_uHoldReq (s : State) : (popOrder s).uHoldReq = s.uHoldReq := rfl
@[simp] theorem popOrder_uHoldCpl (s : State) : (popOrder s).uHoldCpl = s.uHoldCpl := rfl
@[simp] theorem popOrder_dHoldReq (s : State) : (popOrder s).dHoldReq = s.dHoldReq := rfl
@[simp] theorem popOrder_dHoldCpl (s : State) : (popOrder s).dHoldCpl = s.dHoldCpl := rfl
@[simp] theorem popOrder_uReqIn (s : State) : (popOrder s).uReqIn = s.uReqIn := rfl
@[simp] theorem popOrder_uCplIn (s : State) : (popOrder s).uCplIn = s.uCplIn := rfl
@[simp] theorem popOrder_dReqIn (s : State) : (popOrder s).dReqIn = s.dReqIn := rfl
@[simp] theorem popOrder_dCplIn (s : State) : (popOrder s).dCplIn = s.dCplIn := rfl
@[simp] theorem popOrder_uTx (s : State) : (popOrder s).uTx = s.uTx := rfl
@[simp] theorem popOrder_dTx (s : State) : (popOrder s).dTx = s.dTx := rfl
@[simp] theorem popOrder_refusalQ (s : State) : (popOrder s).refusalQ = s.refusalQ := rfl
@[simp] theorem popOrder_downQ (s : State) : (popOrder s).downQ = s.downQ := rfl
@[simp] theorem popOrder_refusalCount (s : State) : (popOrder s).refusalCount = s.refusalCount := rfl
@[simp] theorem popOrder_answerTurn (s : State) : (popOrder s).answerTurn = s.answerTurn := rfl
@[simp] theorem popOrder_runCount (s : State) : (popOrder s).runCount = s.runCount := rfl
@[simp] theorem popOrder_windows (s : State) : (popOrder s).windows = s.windows := rfl
@[simp] theorem popOrder_cache (s : State) : (popOrder s).cache = s.cache := rfl
@[simp] theorem popOrder_walks (s : State) : (popOrder s).walks = s.walks := rfl
@[simp] theorem popOrder_backlog (s : State) : (popOrder s).backlog = s.backlog := rfl
@[simp] theorem popOrder_entries (s : State) : (popOrder s).entries = s.entries := rfl
@[simp] theorem popOrder_issueQ (s : State) : (popOrder s).issueQ = s.issueQ := rfl
@[simp] theorem popOrder_answerQ (s : State) : (popOrder s).answerQ = s.answerQ := rfl
@[simp] theorem popOrder_contexts (s : State) : (popOrder s).contexts = s.contexts := rfl
@[simp] theorem popOrder_rotation (s : State) : (popOrder s).rotation = s.rotation := rfl
@[simp] theorem popOrder_guarantee (s : State) : (popOrder s).guarantee = s.guarantee := rfl
@[simp] theorem popOrder_cplTurn (s : State) : (popOrder s).cplTurn = s.cplTurn := rfl
@[simp] theorem popOrder_ownList (s : State) : (popOrder s).ownList = s.ownList := rfl
@[simp] theorem popOrder_now (s : State) : (popOrder s).now = s.now := rfl
@[simp] theorem popOrder_timing (s : State) : (popOrder s).timing = s.timing := rfl
@[simp] theorem popOrder_tickTiming (s : State) : (popOrder s).tickTiming = s.tickTiming := rfl
@[simp] theorem popOrder_tableDue (s : State) : (popOrder s).tableDue = s.tableDue := rfl
@[simp] theorem popOrder_walkDue (s : State) : (popOrder s).walkDue = s.walkDue := rfl
@[simp] theorem popOrder_alertDue (s : State) : (popOrder s).alertDue = s.alertDue := rfl
@[simp] theorem popOrder_fences (s : State) : (popOrder s).fences = s.fences := rfl
@[simp] theorem popOrder_faults (s : State) : (popOrder s).faults = s.faults := rfl
@[simp] theorem popOrder_lost (s : State) : (popOrder s).lost = s.lost := rfl
@[simp] theorem popOrder_overflowPending (s : State) : (popOrder s).overflowPending = s.overflowPending := rfl
@[simp] theorem popOrder_translationCtrs (s : State) : (popOrder s).translationCtrs = s.translationCtrs := rfl
@[simp] theorem popOrder_transactionCtrs (s : State) : (popOrder s).transactionCtrs = s.transactionCtrs := rfl
@[simp] theorem popOrder_requesterCtrs (s : State) : (popOrder s).requesterCtrs = s.requesterCtrs := rfl
@[simp] theorem popOrder_alertAddress (s : State) : (popOrder s).alertAddress = s.alertAddress := rfl
@[simp] theorem popOrder_alertEnabled (s : State) : (popOrder s).alertEnabled = s.alertEnabled := rfl
@[simp] theorem popOrder_alertArmed (s : State) : (popOrder s).alertArmed = s.alertArmed := rfl
@[simp] theorem popOrder_alertSlot (s : State) : (popOrder s).alertSlot = s.alertSlot := rfl
@[simp] theorem popOrder_apertureBase (s : State) : (popOrder s).apertureBase = s.apertureBase := rfl
@[simp] theorem popOrder_mgmt (s : State) : (popOrder s).mgmt = s.mgmt := rfl
@[simp] theorem popOrder_replyOrder (s : State) : (popOrder s).replyOrder = s.replyOrder := rfl
@[simp] theorem popOrder_replyRefusals (s : State) : (popOrder s).replyRefusals = s.replyRefusals := rfl

/-! ### `dropMarks` -/

@[simp] theorem dropMarks_pending (i : EntryId) (s : State) : (dropMarks i s).pending = s.pending := rfl
@[simp] theorem dropMarks_uUp (i : EntryId) (s : State) : (dropMarks i s).uUp = s.uUp := rfl
@[simp] theorem dropMarks_dUp (i : EntryId) (s : State) : (dropMarks i s).dUp = s.dUp := rfl
@[simp] theorem dropMarks_uHoldReq (i : EntryId) (s : State) : (dropMarks i s).uHoldReq = s.uHoldReq := rfl
@[simp] theorem dropMarks_uHoldCpl (i : EntryId) (s : State) : (dropMarks i s).uHoldCpl = s.uHoldCpl := rfl
@[simp] theorem dropMarks_dHoldReq (i : EntryId) (s : State) : (dropMarks i s).dHoldReq = s.dHoldReq := rfl
@[simp] theorem dropMarks_dHoldCpl (i : EntryId) (s : State) : (dropMarks i s).dHoldCpl = s.dHoldCpl := rfl
@[simp] theorem dropMarks_uReqIn (i : EntryId) (s : State) : (dropMarks i s).uReqIn = s.uReqIn := rfl
@[simp] theorem dropMarks_uCplIn (i : EntryId) (s : State) : (dropMarks i s).uCplIn = s.uCplIn := rfl
@[simp] theorem dropMarks_dReqIn (i : EntryId) (s : State) : (dropMarks i s).dReqIn = s.dReqIn := rfl
@[simp] theorem dropMarks_dCplIn (i : EntryId) (s : State) : (dropMarks i s).dCplIn = s.dCplIn := rfl
@[simp] theorem dropMarks_uTx (i : EntryId) (s : State) : (dropMarks i s).uTx = s.uTx := rfl
@[simp] theorem dropMarks_dTx (i : EntryId) (s : State) : (dropMarks i s).dTx = s.dTx := rfl
@[simp] theorem dropMarks_refusalQ (i : EntryId) (s : State) : (dropMarks i s).refusalQ = s.refusalQ := rfl
@[simp] theorem dropMarks_downQ (i : EntryId) (s : State) : (dropMarks i s).downQ = s.downQ := rfl
@[simp] theorem dropMarks_refusalCount (i : EntryId) (s : State) : (dropMarks i s).refusalCount = s.refusalCount :=
  rfl
@[simp] theorem dropMarks_answerTurn (i : EntryId) (s : State) : (dropMarks i s).answerTurn = s.answerTurn :=
  rfl
@[simp] theorem dropMarks_runCount (i : EntryId) (s : State) : (dropMarks i s).runCount = s.runCount := rfl
@[simp] theorem dropMarks_windows (i : EntryId) (s : State) : (dropMarks i s).windows = s.windows := rfl
@[simp] theorem dropMarks_cache (i : EntryId) (s : State) : (dropMarks i s).cache = s.cache := rfl
@[simp] theorem dropMarks_walks (i : EntryId) (s : State) : (dropMarks i s).walks = s.walks := rfl
@[simp] theorem dropMarks_backlog (i : EntryId) (s : State) : (dropMarks i s).backlog = s.backlog := rfl
@[simp] theorem dropMarks_issueQ (i : EntryId) (s : State) : (dropMarks i s).issueQ = s.issueQ := rfl
@[simp] theorem dropMarks_answerQ (i : EntryId) (s : State) : (dropMarks i s).answerQ = s.answerQ := rfl
@[simp] theorem dropMarks_contexts (i : EntryId) (s : State) : (dropMarks i s).contexts = s.contexts := rfl
@[simp] theorem dropMarks_rotation (i : EntryId) (s : State) : (dropMarks i s).rotation = s.rotation := rfl
@[simp] theorem dropMarks_guarantee (i : EntryId) (s : State) : (dropMarks i s).guarantee = s.guarantee := rfl
@[simp] theorem dropMarks_cplTurn (i : EntryId) (s : State) : (dropMarks i s).cplTurn = s.cplTurn := rfl
@[simp] theorem dropMarks_ownList (i : EntryId) (s : State) : (dropMarks i s).ownList = s.ownList := rfl
@[simp] theorem dropMarks_now (i : EntryId) (s : State) : (dropMarks i s).now = s.now := rfl
@[simp] theorem dropMarks_timing (i : EntryId) (s : State) : (dropMarks i s).timing = s.timing := rfl
@[simp] theorem dropMarks_tickTiming (i : EntryId) (s : State) : (dropMarks i s).tickTiming = s.tickTiming :=
  rfl
@[simp] theorem dropMarks_tableDue (i : EntryId) (s : State) : (dropMarks i s).tableDue = s.tableDue := rfl
@[simp] theorem dropMarks_walkDue (i : EntryId) (s : State) : (dropMarks i s).walkDue = s.walkDue := rfl
@[simp] theorem dropMarks_alertDue (i : EntryId) (s : State) : (dropMarks i s).alertDue = s.alertDue := rfl
@[simp] theorem dropMarks_faults (i : EntryId) (s : State) : (dropMarks i s).faults = s.faults := rfl
@[simp] theorem dropMarks_lost (i : EntryId) (s : State) : (dropMarks i s).lost = s.lost := rfl
@[simp] theorem dropMarks_overflowPending (i : EntryId) (s : State) : (dropMarks i s).overflowPending = s.overflowPending :=
  rfl
@[simp] theorem dropMarks_translationCtrs (i : EntryId) (s : State) : (dropMarks i s).translationCtrs = s.translationCtrs :=
  rfl
@[simp] theorem dropMarks_transactionCtrs (i : EntryId) (s : State) : (dropMarks i s).transactionCtrs = s.transactionCtrs :=
  rfl
@[simp] theorem dropMarks_requesterCtrs (i : EntryId) (s : State) : (dropMarks i s).requesterCtrs = s.requesterCtrs :=
  rfl
@[simp] theorem dropMarks_alertAddress (i : EntryId) (s : State) : (dropMarks i s).alertAddress = s.alertAddress :=
  rfl
@[simp] theorem dropMarks_alertEnabled (i : EntryId) (s : State) : (dropMarks i s).alertEnabled = s.alertEnabled :=
  rfl
@[simp] theorem dropMarks_alertArmed (i : EntryId) (s : State) : (dropMarks i s).alertArmed = s.alertArmed :=
  rfl
@[simp] theorem dropMarks_alertSlot (i : EntryId) (s : State) : (dropMarks i s).alertSlot = s.alertSlot := rfl
@[simp] theorem dropMarks_apertureBase (i : EntryId) (s : State) : (dropMarks i s).apertureBase = s.apertureBase :=
  rfl
@[simp] theorem dropMarks_mgmt (i : EntryId) (s : State) : (dropMarks i s).mgmt = s.mgmt := rfl
@[simp] theorem dropMarks_mgmtOrder (i : EntryId) (s : State) : (dropMarks i s).mgmtOrder = s.mgmtOrder := rfl
@[simp] theorem dropMarks_headWaiting (i : EntryId) (s : State) : (dropMarks i s).headWaiting = s.headWaiting :=
  rfl
@[simp] theorem dropMarks_replyOrder (i : EntryId) (s : State) : (dropMarks i s).replyOrder = s.replyOrder :=
  rfl
@[simp] theorem dropMarks_replyRefusals (i : EntryId) (s : State) : (dropMarks i s).replyRefusals = s.replyRefusals :=
  rfl

/-! ### `leavePlaces` -/

@[simp] theorem leavePlaces_pending (i : EntryId) (s : State) : (leavePlaces i s).pending = s.pending := rfl
@[simp] theorem leavePlaces_uUp (i : EntryId) (s : State) : (leavePlaces i s).uUp = s.uUp := rfl
@[simp] theorem leavePlaces_dUp (i : EntryId) (s : State) : (leavePlaces i s).dUp = s.dUp := rfl
@[simp] theorem leavePlaces_uHoldReq (i : EntryId) (s : State) : (leavePlaces i s).uHoldReq = s.uHoldReq :=
  rfl
@[simp] theorem leavePlaces_uHoldCpl (i : EntryId) (s : State) : (leavePlaces i s).uHoldCpl = s.uHoldCpl :=
  rfl
@[simp] theorem leavePlaces_dHoldReq (i : EntryId) (s : State) : (leavePlaces i s).dHoldReq = s.dHoldReq :=
  rfl
@[simp] theorem leavePlaces_dHoldCpl (i : EntryId) (s : State) : (leavePlaces i s).dHoldCpl = s.dHoldCpl :=
  rfl
@[simp] theorem leavePlaces_uReqIn (i : EntryId) (s : State) : (leavePlaces i s).uReqIn = s.uReqIn := rfl
@[simp] theorem leavePlaces_uCplIn (i : EntryId) (s : State) : (leavePlaces i s).uCplIn = s.uCplIn := rfl
@[simp] theorem leavePlaces_dReqIn (i : EntryId) (s : State) : (leavePlaces i s).dReqIn = s.dReqIn := rfl
@[simp] theorem leavePlaces_dCplIn (i : EntryId) (s : State) : (leavePlaces i s).dCplIn = s.dCplIn := rfl
@[simp] theorem leavePlaces_uTx (i : EntryId) (s : State) : (leavePlaces i s).uTx = s.uTx := rfl
@[simp] theorem leavePlaces_dTx (i : EntryId) (s : State) : (leavePlaces i s).dTx = s.dTx := rfl
@[simp] theorem leavePlaces_refusalQ (i : EntryId) (s : State) : (leavePlaces i s).refusalQ = s.refusalQ :=
  rfl
@[simp] theorem leavePlaces_downQ (i : EntryId) (s : State) : (leavePlaces i s).downQ = s.downQ := rfl
@[simp] theorem leavePlaces_refusalCount (i : EntryId) (s : State) : (leavePlaces i s).refusalCount = s.refusalCount :=
  rfl
@[simp] theorem leavePlaces_answerTurn (i : EntryId) (s : State) : (leavePlaces i s).answerTurn = s.answerTurn :=
  rfl
@[simp] theorem leavePlaces_runCount (i : EntryId) (s : State) : (leavePlaces i s).runCount = s.runCount :=
  rfl
@[simp] theorem leavePlaces_windows (i : EntryId) (s : State) : (leavePlaces i s).windows = s.windows := rfl
@[simp] theorem leavePlaces_cache (i : EntryId) (s : State) : (leavePlaces i s).cache = s.cache := rfl
@[simp] theorem leavePlaces_entries (i : EntryId) (s : State) : (leavePlaces i s).entries = s.entries := rfl
@[simp] theorem leavePlaces_answerQ (i : EntryId) (s : State) : (leavePlaces i s).answerQ = s.answerQ := rfl
@[simp] theorem leavePlaces_contexts (i : EntryId) (s : State) : (leavePlaces i s).contexts = s.contexts :=
  rfl
@[simp] theorem leavePlaces_rotation (i : EntryId) (s : State) : (leavePlaces i s).rotation = s.rotation :=
  rfl
@[simp] theorem leavePlaces_guarantee (i : EntryId) (s : State) : (leavePlaces i s).guarantee = s.guarantee :=
  rfl
@[simp] theorem leavePlaces_cplTurn (i : EntryId) (s : State) : (leavePlaces i s).cplTurn = s.cplTurn := rfl
@[simp] theorem leavePlaces_ownList (i : EntryId) (s : State) : (leavePlaces i s).ownList = s.ownList := rfl
@[simp] theorem leavePlaces_now (i : EntryId) (s : State) : (leavePlaces i s).now = s.now := rfl
@[simp] theorem leavePlaces_timing (i : EntryId) (s : State) : (leavePlaces i s).timing = s.timing := rfl
@[simp] theorem leavePlaces_tickTiming (i : EntryId) (s : State) : (leavePlaces i s).tickTiming = s.tickTiming :=
  rfl
@[simp] theorem leavePlaces_tableDue (i : EntryId) (s : State) : (leavePlaces i s).tableDue = s.tableDue :=
  rfl
@[simp] theorem leavePlaces_walkDue (i : EntryId) (s : State) : (leavePlaces i s).walkDue = s.walkDue := rfl
@[simp] theorem leavePlaces_alertDue (i : EntryId) (s : State) : (leavePlaces i s).alertDue = s.alertDue :=
  rfl
@[simp] theorem leavePlaces_fences (i : EntryId) (s : State) : (leavePlaces i s).fences = s.fences := rfl
@[simp] theorem leavePlaces_faults (i : EntryId) (s : State) : (leavePlaces i s).faults = s.faults := rfl
@[simp] theorem leavePlaces_lost (i : EntryId) (s : State) : (leavePlaces i s).lost = s.lost := rfl
@[simp] theorem leavePlaces_overflowPending (i : EntryId) (s : State) : (leavePlaces i s).overflowPending = s.overflowPending :=
  rfl
@[simp] theorem leavePlaces_translationCtrs (i : EntryId) (s : State) : (leavePlaces i s).translationCtrs = s.translationCtrs :=
  rfl
@[simp] theorem leavePlaces_transactionCtrs (i : EntryId) (s : State) : (leavePlaces i s).transactionCtrs = s.transactionCtrs :=
  rfl
@[simp] theorem leavePlaces_requesterCtrs (i : EntryId) (s : State) : (leavePlaces i s).requesterCtrs = s.requesterCtrs :=
  rfl
@[simp] theorem leavePlaces_alertAddress (i : EntryId) (s : State) : (leavePlaces i s).alertAddress = s.alertAddress :=
  rfl
@[simp] theorem leavePlaces_alertEnabled (i : EntryId) (s : State) : (leavePlaces i s).alertEnabled = s.alertEnabled :=
  rfl
@[simp] theorem leavePlaces_alertArmed (i : EntryId) (s : State) : (leavePlaces i s).alertArmed = s.alertArmed :=
  rfl
@[simp] theorem leavePlaces_alertSlot (i : EntryId) (s : State) : (leavePlaces i s).alertSlot = s.alertSlot :=
  rfl
@[simp] theorem leavePlaces_apertureBase (i : EntryId) (s : State) : (leavePlaces i s).apertureBase = s.apertureBase :=
  rfl
@[simp] theorem leavePlaces_mgmt (i : EntryId) (s : State) : (leavePlaces i s).mgmt = s.mgmt := rfl
@[simp] theorem leavePlaces_mgmtOrder (i : EntryId) (s : State) : (leavePlaces i s).mgmtOrder = s.mgmtOrder :=
  rfl
@[simp] theorem leavePlaces_headWaiting (i : EntryId) (s : State) : (leavePlaces i s).headWaiting = s.headWaiting :=
  rfl
@[simp] theorem leavePlaces_replyOrder (i : EntryId) (s : State) : (leavePlaces i s).replyOrder = s.replyOrder :=
  rfl
@[simp] theorem leavePlaces_replyRefusals (i : EntryId) (s : State) : (leavePlaces i s).replyRefusals = s.replyRefusals :=
  rfl

/-! ### `answerEntry` -/

@[simp] theorem answerEntry_pending (i : EntryId) (a : Answer) (o : Bool) (s : State) : (answerEntry i a o s).pending = s.pending :=
  by simp only [answerEntry]; split <;> rfl
@[simp] theorem answerEntry_uUp (i : EntryId) (a : Answer) (o : Bool) (s : State) : (answerEntry i a o s).uUp = s.uUp :=
  by simp only [answerEntry]; split <;> rfl
@[simp] theorem answerEntry_dUp (i : EntryId) (a : Answer) (o : Bool) (s : State) : (answerEntry i a o s).dUp = s.dUp :=
  by simp only [answerEntry]; split <;> rfl
@[simp] theorem answerEntry_uHoldReq (i : EntryId) (a : Answer) (o : Bool) (s : State) : (answerEntry i a o s).uHoldReq = s.uHoldReq :=
  by simp only [answerEntry]; split <;> rfl
@[simp] theorem answerEntry_uHoldCpl (i : EntryId) (a : Answer) (o : Bool) (s : State) : (answerEntry i a o s).uHoldCpl = s.uHoldCpl :=
  by simp only [answerEntry]; split <;> rfl
@[simp] theorem answerEntry_dHoldReq (i : EntryId) (a : Answer) (o : Bool) (s : State) : (answerEntry i a o s).dHoldReq = s.dHoldReq :=
  by simp only [answerEntry]; split <;> rfl
@[simp] theorem answerEntry_dHoldCpl (i : EntryId) (a : Answer) (o : Bool) (s : State) : (answerEntry i a o s).dHoldCpl = s.dHoldCpl :=
  by simp only [answerEntry]; split <;> rfl
@[simp] theorem answerEntry_uReqIn (i : EntryId) (a : Answer) (o : Bool) (s : State) : (answerEntry i a o s).uReqIn = s.uReqIn :=
  by simp only [answerEntry]; split <;> rfl
@[simp] theorem answerEntry_uCplIn (i : EntryId) (a : Answer) (o : Bool) (s : State) : (answerEntry i a o s).uCplIn = s.uCplIn :=
  by simp only [answerEntry]; split <;> rfl
@[simp] theorem answerEntry_dReqIn (i : EntryId) (a : Answer) (o : Bool) (s : State) : (answerEntry i a o s).dReqIn = s.dReqIn :=
  by simp only [answerEntry]; split <;> rfl
@[simp] theorem answerEntry_dCplIn (i : EntryId) (a : Answer) (o : Bool) (s : State) : (answerEntry i a o s).dCplIn = s.dCplIn :=
  by simp only [answerEntry]; split <;> rfl
@[simp] theorem answerEntry_uTx (i : EntryId) (a : Answer) (o : Bool) (s : State) : (answerEntry i a o s).uTx = s.uTx :=
  by simp only [answerEntry]; split <;> rfl
@[simp] theorem answerEntry_dTx (i : EntryId) (a : Answer) (o : Bool) (s : State) : (answerEntry i a o s).dTx = s.dTx :=
  by simp only [answerEntry]; split <;> rfl
@[simp] theorem answerEntry_refusalQ (i : EntryId) (a : Answer) (o : Bool) (s : State) : (answerEntry i a o s).refusalQ = s.refusalQ :=
  by simp only [answerEntry]; split <;> rfl
@[simp] theorem answerEntry_downQ (i : EntryId) (a : Answer) (o : Bool) (s : State) : (answerEntry i a o s).downQ = s.downQ :=
  by simp only [answerEntry]; split <;> rfl
@[simp] theorem answerEntry_refusalCount (i : EntryId) (a : Answer) (o : Bool) (s : State) : (answerEntry i a o s).refusalCount = s.refusalCount :=
  by simp only [answerEntry]; split <;> rfl
@[simp] theorem answerEntry_answerTurn (i : EntryId) (a : Answer) (o : Bool) (s : State) : (answerEntry i a o s).answerTurn = s.answerTurn :=
  by simp only [answerEntry]; split <;> rfl
@[simp] theorem answerEntry_runCount (i : EntryId) (a : Answer) (o : Bool) (s : State) : (answerEntry i a o s).runCount = s.runCount :=
  by simp only [answerEntry]; split <;> rfl
@[simp] theorem answerEntry_windows (i : EntryId) (a : Answer) (o : Bool) (s : State) : (answerEntry i a o s).windows = s.windows :=
  by simp only [answerEntry]; split <;> rfl
@[simp] theorem answerEntry_cache (i : EntryId) (a : Answer) (o : Bool) (s : State) : (answerEntry i a o s).cache = s.cache :=
  by simp only [answerEntry]; split <;> rfl
@[simp] theorem answerEntry_contexts (i : EntryId) (a : Answer) (o : Bool) (s : State) : (answerEntry i a o s).contexts = s.contexts :=
  by simp only [answerEntry]; split <;> rfl
@[simp] theorem answerEntry_rotation (i : EntryId) (a : Answer) (o : Bool) (s : State) : (answerEntry i a o s).rotation = s.rotation :=
  by simp only [answerEntry]; split <;> rfl
@[simp] theorem answerEntry_guarantee (i : EntryId) (a : Answer) (o : Bool) (s : State) : (answerEntry i a o s).guarantee = s.guarantee :=
  by simp only [answerEntry]; split <;> rfl
@[simp] theorem answerEntry_cplTurn (i : EntryId) (a : Answer) (o : Bool) (s : State) : (answerEntry i a o s).cplTurn = s.cplTurn :=
  by simp only [answerEntry]; split <;> rfl
@[simp] theorem answerEntry_ownList (i : EntryId) (a : Answer) (o : Bool) (s : State) : (answerEntry i a o s).ownList = s.ownList :=
  by simp only [answerEntry]; split <;> rfl
@[simp] theorem answerEntry_now (i : EntryId) (a : Answer) (o : Bool) (s : State) : (answerEntry i a o s).now = s.now :=
  by simp only [answerEntry]; split <;> rfl
@[simp] theorem answerEntry_timing (i : EntryId) (a : Answer) (o : Bool) (s : State) : (answerEntry i a o s).timing = s.timing :=
  by simp only [answerEntry]; split <;> rfl
@[simp] theorem answerEntry_tickTiming (i : EntryId) (a : Answer) (o : Bool) (s : State) : (answerEntry i a o s).tickTiming = s.tickTiming :=
  by simp only [answerEntry]; split <;> rfl
@[simp] theorem answerEntry_tableDue (i : EntryId) (a : Answer) (o : Bool) (s : State) : (answerEntry i a o s).tableDue = s.tableDue :=
  by simp only [answerEntry]; split <;> rfl
@[simp] theorem answerEntry_walkDue (i : EntryId) (a : Answer) (o : Bool) (s : State) : (answerEntry i a o s).walkDue = s.walkDue :=
  by simp only [answerEntry]; split <;> rfl
@[simp] theorem answerEntry_alertDue (i : EntryId) (a : Answer) (o : Bool) (s : State) : (answerEntry i a o s).alertDue = s.alertDue :=
  by simp only [answerEntry]; split <;> rfl
@[simp] theorem answerEntry_faults (i : EntryId) (a : Answer) (o : Bool) (s : State) : (answerEntry i a o s).faults = s.faults :=
  by simp only [answerEntry]; split <;> rfl
@[simp] theorem answerEntry_lost (i : EntryId) (a : Answer) (o : Bool) (s : State) : (answerEntry i a o s).lost = s.lost :=
  by simp only [answerEntry]; split <;> rfl
@[simp] theorem answerEntry_overflowPending (i : EntryId) (a : Answer) (o : Bool) (s : State) : (answerEntry i a o s).overflowPending = s.overflowPending :=
  by simp only [answerEntry]; split <;> rfl
@[simp] theorem answerEntry_translationCtrs (i : EntryId) (a : Answer) (o : Bool) (s : State) : (answerEntry i a o s).translationCtrs = s.translationCtrs :=
  by simp only [answerEntry]; split <;> rfl
@[simp] theorem answerEntry_transactionCtrs (i : EntryId) (a : Answer) (o : Bool) (s : State) : (answerEntry i a o s).transactionCtrs = s.transactionCtrs :=
  by simp only [answerEntry]; split <;> rfl
@[simp] theorem answerEntry_requesterCtrs (i : EntryId) (a : Answer) (o : Bool) (s : State) : (answerEntry i a o s).requesterCtrs = s.requesterCtrs :=
  by simp only [answerEntry]; split <;> rfl
@[simp] theorem answerEntry_alertAddress (i : EntryId) (a : Answer) (o : Bool) (s : State) : (answerEntry i a o s).alertAddress = s.alertAddress :=
  by simp only [answerEntry]; split <;> rfl
@[simp] theorem answerEntry_alertEnabled (i : EntryId) (a : Answer) (o : Bool) (s : State) : (answerEntry i a o s).alertEnabled = s.alertEnabled :=
  by simp only [answerEntry]; split <;> rfl
@[simp] theorem answerEntry_alertArmed (i : EntryId) (a : Answer) (o : Bool) (s : State) : (answerEntry i a o s).alertArmed = s.alertArmed :=
  by simp only [answerEntry]; split <;> rfl
@[simp] theorem answerEntry_alertSlot (i : EntryId) (a : Answer) (o : Bool) (s : State) : (answerEntry i a o s).alertSlot = s.alertSlot :=
  by simp only [answerEntry]; split <;> rfl
@[simp] theorem answerEntry_apertureBase (i : EntryId) (a : Answer) (o : Bool) (s : State) : (answerEntry i a o s).apertureBase = s.apertureBase :=
  by simp only [answerEntry]; split <;> rfl
@[simp] theorem answerEntry_mgmt (i : EntryId) (a : Answer) (o : Bool) (s : State) : (answerEntry i a o s).mgmt = s.mgmt :=
  by simp only [answerEntry]; split <;> rfl
@[simp] theorem answerEntry_mgmtOrder (i : EntryId) (a : Answer) (o : Bool) (s : State) : (answerEntry i a o s).mgmtOrder = s.mgmtOrder :=
  by simp only [answerEntry]; split <;> rfl
@[simp] theorem answerEntry_headWaiting (i : EntryId) (a : Answer) (o : Bool) (s : State) : (answerEntry i a o s).headWaiting = s.headWaiting :=
  by simp only [answerEntry]; split <;> rfl
@[simp] theorem answerEntry_replyOrder (i : EntryId) (a : Answer) (o : Bool) (s : State) : (answerEntry i a o s).replyOrder = s.replyOrder :=
  by simp only [answerEntry]; split <;> rfl
@[simp] theorem answerEntry_replyRefusals (i : EntryId) (a : Answer) (o : Bool) (s : State) : (answerEntry i a o s).replyRefusals = s.replyRefusals :=
  by simp only [answerEntry]; split <;> rfl

/-! ### `queueEntry` -/

@[simp] theorem queueEntry_pending (i : EntryId) (a : HAddr) (s : State) : (queueEntry i a s).pending = s.pending :=
  by simp only [queueEntry]; split <;> rfl
@[simp] theorem queueEntry_uUp (i : EntryId) (a : HAddr) (s : State) : (queueEntry i a s).uUp = s.uUp :=
  by simp only [queueEntry]; split <;> rfl
@[simp] theorem queueEntry_dUp (i : EntryId) (a : HAddr) (s : State) : (queueEntry i a s).dUp = s.dUp :=
  by simp only [queueEntry]; split <;> rfl
@[simp] theorem queueEntry_uHoldReq (i : EntryId) (a : HAddr) (s : State) : (queueEntry i a s).uHoldReq = s.uHoldReq :=
  by simp only [queueEntry]; split <;> rfl
@[simp] theorem queueEntry_uHoldCpl (i : EntryId) (a : HAddr) (s : State) : (queueEntry i a s).uHoldCpl = s.uHoldCpl :=
  by simp only [queueEntry]; split <;> rfl
@[simp] theorem queueEntry_dHoldReq (i : EntryId) (a : HAddr) (s : State) : (queueEntry i a s).dHoldReq = s.dHoldReq :=
  by simp only [queueEntry]; split <;> rfl
@[simp] theorem queueEntry_dHoldCpl (i : EntryId) (a : HAddr) (s : State) : (queueEntry i a s).dHoldCpl = s.dHoldCpl :=
  by simp only [queueEntry]; split <;> rfl
@[simp] theorem queueEntry_uReqIn (i : EntryId) (a : HAddr) (s : State) : (queueEntry i a s).uReqIn = s.uReqIn :=
  by simp only [queueEntry]; split <;> rfl
@[simp] theorem queueEntry_uCplIn (i : EntryId) (a : HAddr) (s : State) : (queueEntry i a s).uCplIn = s.uCplIn :=
  by simp only [queueEntry]; split <;> rfl
@[simp] theorem queueEntry_dReqIn (i : EntryId) (a : HAddr) (s : State) : (queueEntry i a s).dReqIn = s.dReqIn :=
  by simp only [queueEntry]; split <;> rfl
@[simp] theorem queueEntry_dCplIn (i : EntryId) (a : HAddr) (s : State) : (queueEntry i a s).dCplIn = s.dCplIn :=
  by simp only [queueEntry]; split <;> rfl
@[simp] theorem queueEntry_uTx (i : EntryId) (a : HAddr) (s : State) : (queueEntry i a s).uTx = s.uTx :=
  by simp only [queueEntry]; split <;> rfl
@[simp] theorem queueEntry_dTx (i : EntryId) (a : HAddr) (s : State) : (queueEntry i a s).dTx = s.dTx :=
  by simp only [queueEntry]; split <;> rfl
@[simp] theorem queueEntry_refusalQ (i : EntryId) (a : HAddr) (s : State) : (queueEntry i a s).refusalQ = s.refusalQ :=
  by simp only [queueEntry]; split <;> rfl
@[simp] theorem queueEntry_downQ (i : EntryId) (a : HAddr) (s : State) : (queueEntry i a s).downQ = s.downQ :=
  by simp only [queueEntry]; split <;> rfl
@[simp] theorem queueEntry_refusalCount (i : EntryId) (a : HAddr) (s : State) : (queueEntry i a s).refusalCount = s.refusalCount :=
  by simp only [queueEntry]; split <;> rfl
@[simp] theorem queueEntry_answerTurn (i : EntryId) (a : HAddr) (s : State) : (queueEntry i a s).answerTurn = s.answerTurn :=
  by simp only [queueEntry]; split <;> rfl
@[simp] theorem queueEntry_runCount (i : EntryId) (a : HAddr) (s : State) : (queueEntry i a s).runCount = s.runCount :=
  by simp only [queueEntry]; split <;> rfl
@[simp] theorem queueEntry_windows (i : EntryId) (a : HAddr) (s : State) : (queueEntry i a s).windows = s.windows :=
  by simp only [queueEntry]; split <;> rfl
@[simp] theorem queueEntry_cache (i : EntryId) (a : HAddr) (s : State) : (queueEntry i a s).cache = s.cache :=
  by simp only [queueEntry]; split <;> rfl
@[simp] theorem queueEntry_walks (i : EntryId) (a : HAddr) (s : State) : (queueEntry i a s).walks = s.walks :=
  by simp only [queueEntry]; split <;> rfl
@[simp] theorem queueEntry_backlog (i : EntryId) (a : HAddr) (s : State) : (queueEntry i a s).backlog = s.backlog :=
  by simp only [queueEntry]; split <;> rfl
@[simp] theorem queueEntry_answerQ (i : EntryId) (a : HAddr) (s : State) : (queueEntry i a s).answerQ = s.answerQ :=
  by simp only [queueEntry]; split <;> rfl
@[simp] theorem queueEntry_contexts (i : EntryId) (a : HAddr) (s : State) : (queueEntry i a s).contexts = s.contexts :=
  by simp only [queueEntry]; split <;> rfl
@[simp] theorem queueEntry_rotation (i : EntryId) (a : HAddr) (s : State) : (queueEntry i a s).rotation = s.rotation :=
  by simp only [queueEntry]; split <;> rfl
@[simp] theorem queueEntry_guarantee (i : EntryId) (a : HAddr) (s : State) : (queueEntry i a s).guarantee = s.guarantee :=
  by simp only [queueEntry]; split <;> rfl
@[simp] theorem queueEntry_cplTurn (i : EntryId) (a : HAddr) (s : State) : (queueEntry i a s).cplTurn = s.cplTurn :=
  by simp only [queueEntry]; split <;> rfl
@[simp] theorem queueEntry_ownList (i : EntryId) (a : HAddr) (s : State) : (queueEntry i a s).ownList = s.ownList :=
  by simp only [queueEntry]; split <;> rfl
@[simp] theorem queueEntry_now (i : EntryId) (a : HAddr) (s : State) : (queueEntry i a s).now = s.now :=
  by simp only [queueEntry]; split <;> rfl
@[simp] theorem queueEntry_timing (i : EntryId) (a : HAddr) (s : State) : (queueEntry i a s).timing = s.timing :=
  by simp only [queueEntry]; split <;> rfl
@[simp] theorem queueEntry_tickTiming (i : EntryId) (a : HAddr) (s : State) : (queueEntry i a s).tickTiming = s.tickTiming :=
  by simp only [queueEntry]; split <;> rfl
@[simp] theorem queueEntry_tableDue (i : EntryId) (a : HAddr) (s : State) : (queueEntry i a s).tableDue = s.tableDue :=
  by simp only [queueEntry]; split <;> rfl
@[simp] theorem queueEntry_walkDue (i : EntryId) (a : HAddr) (s : State) : (queueEntry i a s).walkDue = s.walkDue :=
  by simp only [queueEntry]; split <;> rfl
@[simp] theorem queueEntry_alertDue (i : EntryId) (a : HAddr) (s : State) : (queueEntry i a s).alertDue = s.alertDue :=
  by simp only [queueEntry]; split <;> rfl
@[simp] theorem queueEntry_fences (i : EntryId) (a : HAddr) (s : State) : (queueEntry i a s).fences = s.fences :=
  by simp only [queueEntry]; split <;> rfl
@[simp] theorem queueEntry_faults (i : EntryId) (a : HAddr) (s : State) : (queueEntry i a s).faults = s.faults :=
  by simp only [queueEntry]; split <;> rfl
@[simp] theorem queueEntry_lost (i : EntryId) (a : HAddr) (s : State) : (queueEntry i a s).lost = s.lost :=
  by simp only [queueEntry]; split <;> rfl
@[simp] theorem queueEntry_overflowPending (i : EntryId) (a : HAddr) (s : State) : (queueEntry i a s).overflowPending = s.overflowPending :=
  by simp only [queueEntry]; split <;> rfl
@[simp] theorem queueEntry_translationCtrs (i : EntryId) (a : HAddr) (s : State) : (queueEntry i a s).translationCtrs = s.translationCtrs :=
  by simp only [queueEntry]; split <;> rfl
@[simp] theorem queueEntry_transactionCtrs (i : EntryId) (a : HAddr) (s : State) : (queueEntry i a s).transactionCtrs = s.transactionCtrs :=
  by simp only [queueEntry]; split <;> rfl
@[simp] theorem queueEntry_requesterCtrs (i : EntryId) (a : HAddr) (s : State) : (queueEntry i a s).requesterCtrs = s.requesterCtrs :=
  by simp only [queueEntry]; split <;> rfl
@[simp] theorem queueEntry_alertAddress (i : EntryId) (a : HAddr) (s : State) : (queueEntry i a s).alertAddress = s.alertAddress :=
  by simp only [queueEntry]; split <;> rfl
@[simp] theorem queueEntry_alertEnabled (i : EntryId) (a : HAddr) (s : State) : (queueEntry i a s).alertEnabled = s.alertEnabled :=
  by simp only [queueEntry]; split <;> rfl
@[simp] theorem queueEntry_alertArmed (i : EntryId) (a : HAddr) (s : State) : (queueEntry i a s).alertArmed = s.alertArmed :=
  by simp only [queueEntry]; split <;> rfl
@[simp] theorem queueEntry_alertSlot (i : EntryId) (a : HAddr) (s : State) : (queueEntry i a s).alertSlot = s.alertSlot :=
  by simp only [queueEntry]; split <;> rfl
@[simp] theorem queueEntry_apertureBase (i : EntryId) (a : HAddr) (s : State) : (queueEntry i a s).apertureBase = s.apertureBase :=
  by simp only [queueEntry]; split <;> rfl
@[simp] theorem queueEntry_mgmt (i : EntryId) (a : HAddr) (s : State) : (queueEntry i a s).mgmt = s.mgmt :=
  by simp only [queueEntry]; split <;> rfl
@[simp] theorem queueEntry_mgmtOrder (i : EntryId) (a : HAddr) (s : State) : (queueEntry i a s).mgmtOrder = s.mgmtOrder :=
  by simp only [queueEntry]; split <;> rfl
@[simp] theorem queueEntry_headWaiting (i : EntryId) (a : HAddr) (s : State) : (queueEntry i a s).headWaiting = s.headWaiting :=
  by simp only [queueEntry]; split <;> rfl
@[simp] theorem queueEntry_replyOrder (i : EntryId) (a : HAddr) (s : State) : (queueEntry i a s).replyOrder = s.replyOrder :=
  by simp only [queueEntry]; split <;> rfl
@[simp] theorem queueEntry_replyRefusals (i : EntryId) (a : HAddr) (s : State) : (queueEntry i a s).replyRefusals = s.replyRefusals :=
  by simp only [queueEntry]; split <;> rfl

end Sys2Proof.Machine
end

