-- ==== Sys2Proof/Laws/Ops.lean ====
section
/-! SUPPORT. One lemma for each shared operation that says once what it does, so that no proof unfolds it: counters,
records, stops, marks, answers, matches, the head of the management order, the close of a happening. -/

namespace Sys2Proof.Machine

/-! ### Counters and records -/

/-- A count raises its own counter by 1 and no other (R136). -/
theorem counter_bump (c d : Counter) (s : State) :
    (bump c s).counter d = if d = c then s.counter d + 1 else s.counter d := by
  cases c with
  | translation i =>
    cases d with
    | translation j =>
      by_cases h : j = i
      · subst h; simp [bump, State.counter]
      · simp [bump, State.counter, h, Vector.getElem_set_ne _ _ (fun e => h (Fin.ext e.symm))]
    | transaction j => simp [bump, State.counter]
    | requester q j => simp [bump, State.counter]
  | transaction i =>
    cases d with
    | translation j => simp [bump, State.counter]
    | transaction j =>
      by_cases h : j = i
      · subst h; simp [bump, State.counter]
      · simp [bump, State.counter, h, Vector.getElem_set_ne _ _ (fun e => h (Fin.ext e.symm))]
    | requester q j => simp [bump, State.counter]
  | requester r i =>
    cases d with
    | translation j => simp [bump, State.counter]
    | transaction j => simp [bump, State.counter]
    | requester q j =>
      by_cases hq : q = r
      · subst hq
        by_cases h : j = i
        · subst h; simp [bump, State.counter]
        · simp [bump, State.counter, h, Vector.getElem_set_ne _ _ (fun e => h (Fin.ext e.symm))]
      · simp [bump, State.counter, hq, Vector.getElem_set_ne _ _ (fun e => hq (Fin.ext e.symm))]

/-- With room, a record joins the tail with its stamp (R132). -/
theorem offerRecord_of_room (r : FaultRecord) (s : State) (h : s.faults.length < 16) :
    offerRecord r s =
      { s with
        faults := s.faults ++ [{ r with tick := s.now, overflow := s.overflowPending }]
        overflowPending := false } := by
  simp [offerRecord, Config.faultCapacity, h]

/-- With the queue full, a record is dropped (R132). -/
theorem offerRecord_of_full (r : FaultRecord) (s : State) (h : 16 ≤ s.faults.length) :
    offerRecord r s = { s with lost := if s.lost < 255 then s.lost + 1 else s.lost, overflowPending := true } := by
  simp [offerRecord, Config.faultCapacity, Config.lostLimit, Nat.not_lt.mpr h]

/-- A record offered to a queue within its capacity leaves it within its capacity (R132). -/
theorem offerRecord_faults_length (r : FaultRecord) (s : State) (h : s.faults.length ≤ 16) :
    (offerRecord r s).faults.length ≤ 16 := by
  by_cases hr : s.faults.length < 16
  · simp [offerRecord_of_room r s hr]; omega
  · simp [offerRecord_of_full r s (by omega), h]

/-- The lost count never passes 255 (R132). -/
theorem offerRecord_lost (r : FaultRecord) (s : State) (h : s.lost ≤ 255) : (offerRecord r s).lost ≤ 255 := by
  simp only [offerRecord, Config.lostLimit]
  split <;> simp only
  · exact h
  · split <;> omega

/-! ### Stops -/

theorem set_getElem_self {α : Type} {n : Nat} (v : Vector α n) (i : Fin n) : v.set i v[i] = v := by
  ext j hj
  by_cases h : i.val = j
  · subst h; simp
  · simp

/-- A stopping fault rewrites its requester's context, and nothing else (R72). -/
theorem applyStop_eq (kind : FaultKind) (r : ReqId) (s : State) :
    applyStop kind r s = { s with contexts := s.contexts.set r ((s.contexts[r]).stoppedBy kind) } := by
  simp only [applyStop, Context.stoppedBy, setContext]
  split
  · rfl
  · rw [set_getElem_self]

/-- A context that a stopping fault has acted on is not changed by a second one (R72). -/
theorem stoppedBy_stoppedBy (c : Context) (f g : FaultKind) :
    (c.stoppedBy f).stoppedBy g = if c.faultPolicy = .stop ∧ c.state = .active then c.stoppedBy f
      else c.stoppedBy g := by
  by_cases h : c.faultPolicy = .stop ∧ c.state = .active
  · simp [Context.stoppedBy, h]
  · simp [Context.stoppedBy, h]

/-! ### Marks, places and answers -/

/-- The loss of an entry's marks changes that entry alone, and no field of it but the marks (R119). -/
theorem dropMarks_getElem (i j : EntryId) (s : State) :
    (dropMarks i s).entries[j] = if j = i then { s.entries[i] with marks := noMarks } else s.entries[j] := by
  by_cases h : j = i
  · subst h; simp [dropMarks]
  · have h' : ¬i.val = j.val := fun e => h (Fin.ext e.symm)
    rw [if_neg h]
    simp [dropMarks, h']

/-- The loss of an entry's marks lowers the count of each fence whose mark it carried (R119). -/
theorem dropMarks_fence (i : EntryId) (k : FenceId) (s : State) :
    (dropMarks i s).fences[k]
      = { s.fences[k] with remaining := (s.fences[k]).remaining - marksOf s.entries[i] k } := by
  by_cases h : (s.entries[i]).marks[k] = true <;> simp_all [dropMarks, marksOf]

/-- An entry that stands in no queue or list leaves none (R54). -/
theorem leavePlaces_of_absent (i : EntryId) (s : State) (hq : i ∉ s.issueQ) (hb : i ∉ s.backlog)
    (hw : ∀ k : WalkId, i ∉ (s.walks[k]).waiters) : leavePlaces i s = s := by
  have filt (l : List EntryId) (h : i ∉ l) : l.filter (· ≠ i) = l :=
    List.filter_eq_self.mpr fun j hj => by
      have : j ≠ i := fun e => h (e ▸ hj)
      simpa using this
  have hv : (Vector.ofFn fun k : Fin 4 =>
      { s.walks[k] with waiters := (s.walks[k]).waiters.filter (· ≠ i) }) = s.walks := by
    ext j hj
    have := filt _ (hw ⟨j, hj⟩)
    simp only [Fin.getElem_fin] at this
    simp only [Vector.getElem_ofFn, Fin.getElem_fin, this]
  simp only [leavePlaces, filt _ hq, filt _ hb, hv]

/-- An entry in flight that is answered becomes ANSWERING behind the entries that are (R54). -/
theorem answerEntry_entry (i : EntryId) (a : Answer) (o : Bool) (s : State)
    (h : (s.entries[i]).state.inFlight = true) :
    (answerEntry i a o s).entries[i] = (s.entries[i]).answered a o
      ∧ (answerEntry i a o s).answerQ = s.answerQ ++ [i] := by
  simp only [answerEntry, h, if_true]
  simp [Entry.answered, leavePlaces, dropMarks]

/-- No other entry is touched by an answer (R54). -/
theorem answerEntry_other (i j : EntryId) (a : Answer) (o : Bool) (s : State) (h : j ≠ i) :
    (answerEntry i a o s).entries[j] = s.entries[j] := by
  have h' : ¬i.val = j.val := fun e => h (Fin.ext e.symm)
  simp only [answerEntry]
  split
  · simp [leavePlaces, dropMarks, h']
  · rfl

/-- An entry that is not in flight cannot be answered (R52). -/
theorem answerEntry_of_not (i : EntryId) (a : Answer) (o : Bool) (s : State)
    (h : (s.entries[i]).state.inFlight = false) : answerEntry i a o s = s := by
  simp only [answerEntry, h, Bool.false_eq_true, if_false]

/-- A TRANSLATING entry that takes a host address joins the issue queue (R50, R53). -/
theorem queueEntry_of_translating (i : EntryId) (a : HAddr) (s : State)
    (h : (s.entries[i]).state = .translating) :
    queueEntry i a s =
      { s with
        entries := s.entries.set i { s.entries[i] with state := .queued, hostAddr := some a }
        issueQ := s.issueQ ++ [i] } := by
  simp only [queueEntry, h, if_true]

/-! ### Matches and free places -/

/-- The match that a search finds is a match (R3). -/
theorem matchWindow_some {s : State} {r : ReqId} {a : DAddr} {w : WinId} (h : matchWindow s r a = some w) :
    (s.windows[w]).matches r a = true := by
  simpa using List.find?_some h

/-- A search finds nothing exactly when no window matches (R3). -/
theorem matchWindow_none {s : State} {r : ReqId} {a : DAddr} :
    matchWindow s r a = none ↔ ∀ w : WinId, (s.windows[w]).matches r a = false := by
  simp [matchWindow, List.find?_eq_none]

/-- The one window that matches is the one the search finds (R3, R4). -/
theorem matchWindow_of_matches {s : State} {r : ReqId} {a : DAddr} {w : WinId} (h : Matches s r a w) :
    matchWindow s r a = some w := by
  cases hm : matchWindow s r a with
  | none => have := matchWindow_none.mp hm w; rw [h.1] at this; cases this
  | some v =>
    by_cases e : v = w
    · rw [e]
    · have := h.2 v e
      rw [matchWindow_some hm] at this
      cases this

theorem find?_finRange_first {n : Nat} (p : Fin n → Bool) (k : Fin n) (hk : p k = true)
    (hl : ∀ j : Fin n, j < k → p j = false) : (List.finRange n).find? p = some k := by
  rw [List.find?_eq_some_iff_getElem]
  refine ⟨hk, k.val, by simp, by simp, ?_⟩
  intro j hj
  have := hl ⟨j, by omega⟩ (by simpa [Fin.lt_def] using hj)
  simpa using this

/-- The lowest-numbered FREE entry is the one that intake allocates (R49). -/
theorem lowestFreeEntry_of_takeable {s : State} {p : ReqPacket} {rest : List ReqPacket} {i : EntryId}
    (h : Takeable s p rest i) : lowestFreeEntry s = some i :=
  find?_finRange_first _ i (by simpa using h.2.2.1) fun j hj => by simpa using h.2.2.2 j hj

/-- The lowest-numbered FREE walk slot is the one that starts a walk (R26). -/
theorem lowestFreeWalk_of {s : State} {k : WalkId} (h : LowestFreeWalk s k) : lowestFreeWalk s = some k :=
  find?_finRange_first _ k (by simpa using h.1) fun j hj => by simpa using h.2 j hj

/-- The lowest-numbered FREE fence slot is the one that a fence takes (R116). -/
theorem lowestFreeFence_of {s : State} {k : FenceId} (h : LowestFreeFence s k) : lowestFreeFence s = some k :=
  find?_finRange_first _ k (by simpa using h.1) fun j hj => by simpa using h.2 j hj

/-! ### The head of the management order -/

/-- The head that can be executed runs its body (R152). -/
theorem whenHead_of_head {s : State} {m : MgmtId} {rest : List MgmtId} {op : MgmtOp} {ws : List Word}
    (h : HeadHolds s m rest op ws) (body : MgmtId → List Word → State → State) :
    whenHead op body s = body m ws s := by
  obtain ⟨ho, hw, hop, hp⟩ := h
  simp only [Fin.getElem_fin] at hop hp
  simp [whenHead, executable, hw, ho, hop, hp]

/-- A management row either does not come about or runs its body at the head (R152). -/
theorem whenHead_cases (op : MgmtOp) (body : MgmtId → List Word → State → State) (s : State) :
    whenHead op body s = s
      ∨ ∃ m rest, HeadHolds s m rest op (s.mgmt[m]).payload
          ∧ whenHead op body s = body m (s.mgmt[m]).payload s := by
  simp only [whenHead, executable, HeadHolds]
  by_cases hw : s.headWaiting = true
  · simp [hw]
  · cases ho : s.mgmtOrder with
    | nil => simp [hw]
    | cons m rest =>
      cases hop : (s.mgmt[m]).op with
      | none => simp only [Fin.getElem_fin] at hop; simp [hw, hop]
      | some o =>
        by_cases he : o = op
        · refine Or.inr ⟨m, rest, ⟨rfl, by simpa using hw, by rw [hop, he], trivial⟩, ?_⟩
          simp only [Fin.getElem_fin] at hop
          simp [hw, hop, he]
        · refine Or.inl ?_
          simp only [Fin.getElem_fin] at hop
          simp [hw, hop, he]

/-- The completion of the head leaves the order and replies (R155). -/
theorem completeHead_eq {s : State} {m : MgmtId} {rest : List MgmtId} (h : s.mgmtOrder = m :: rest)
    (words : List Word) : completeHead m words s = replied m rest words s := by
  simp [completeHead, replySlot, popOrder, replied, h]

/-! ### The close of a happening -/

/-- A happening that lowers no count to 0 ends no fence (R120). -/
theorem endFences_of_quiet (before s : State) (h : ∀ k : FenceId, fenceEnds before s k = false) :
    endFences before s = s := by
  have : ∀ l : List FenceId, l.foldl (fun t k => if fenceEnds before t k then endFence k t else t) s = s := by
    intro l
    induction l with
    | nil => rfl
    | cons k l ih => simp only [List.foldl_cons, h k, Bool.false_eq_true, if_false]; exact ih
  exact this _

/-- A happening that touches no fence ends none (R120). -/
theorem endFences_of_same (before s : State) (h : s.fences = before.fences) : endFences before s = s :=
  endFences_of_quiet before s fun k => by
    simp only [fenceEnds, h]
    by_cases hr : (before.fences[k]).remaining = 0
    · simp only [hr, ne_eq, not_true, decide_false, Bool.and_false]
    · simp only [hr, decide_false, Bool.and_false, Bool.false_and]

/-- An own list that was empty, or is not, leaves the rotation counter as it is (R85). -/
theorem resetRotation_of (before s : State) (h : s.ownList = [] → before.ownList = []) :
    resetRotation before s = s := by
  simp only [resetRotation]
  split
  · rename_i hc; exact absurd (h hc.1) hc.2
  · rfl

/-- A happening that touches no fence, enqueues no record, frees no alert slot and empties no own list has
nothing to close. -/
theorem conclude_of_quiet (before s : State) (hf : s.fences = before.fences)
    (hn : s.faults.length ≤ before.faults.length)
    (ha : before.alertSlot.state = .free ∨ s.alertSlot.state ≠ .free)
    (ho : s.ownList = [] → before.ownList = []) : conclude before s = s := by
  have ht : triggerPoint before s = false := by
    simp only [triggerPoint]
    rcases ha with ha | ha <;> simp [ha] <;> omega
  simp only [conclude, endFences_of_same before s hf, ht, Bool.false_eq_true, if_false]
  exact resetRotation_of before s ho

/-! ### Fields of words -/

theorem getLsbD_packWord (fs : List (Nat × Nat)) (n : Nat) :
    (packWord fs).getLsbD n
      = (decide (n < 64) && fs.any fun f => decide (f.1 ≤ n) && f.2.testBit (n - f.1)) := by
  induction fs with
  | nil => simp [packWord]
  | cons f fs ih =>
    have : packWord (f :: fs) = (BitVec.ofNat 64 f.2 <<< f.1) ||| packWord fs := rfl
    rw [this, BitVec.getLsbD_or, ih]
    by_cases hn : n < 64
    · by_cases hf : n < f.1
      · simp [hn, hf, Nat.not_le.mpr hf]
      · have hb : n - f.1 < 64 := by omega
        rw [BitVec.getLsbD_shiftLeft, BitVec.getLsbD_ofNat]
        simp [hn, hf, hb, Nat.not_lt.mp hf]
    · simp [hn]

/-- A bit of a field is the bit of the word (R178). -/
theorem testBit_field (w : Word) (lo width n : Nat) :
    (field w lo width).testBit n = (decide (n < width) && w.getLsbD (lo + n)) := by
  simp only [field, BitVec.testBit_toNat, BitVec.getLsbD_extractLsb']

end Sys2Proof.Machine
end

