-- ==== Sys2Proof/WellFormed.lean ====
section
/-! DEFINITION. What a command must satisfy to be one the outside can send: the header's class bit tells
the class, a completion carries the words its length states (R179), a page number names a page of the
largest window (R1). `exec` gives every command a meaning, well-formed or not. -/

namespace Sys2Proof

/-- The header of a request: class bit 0 (R179). -/
def ReqPacket.wellFormed (p : ReqPacket) : Bool :=
  p.h0.getLsbD 1 == false

/-- The header of a completion: class bit 1, bit 0 clear, and as many words after the header as its
length field states (R179). -/
def CplPacket.wellFormed (p : CplPacket) : Bool :=
  p.h0.getLsbD 1 && (p.h0.getLsbD 0 == false) && ((p.h0.extractLsb' 24 7).toNat == p.body.length)

/-- A command that the outside, or a block of the bridge, can bring about as the spec lays it out. -/
def Instr.wellFormed : Instr → Bool
  | .powerOn _ => true
  | .uPortDown => true
  | .uPortUp => true
  | .resetMessage => true
  | .dPortDown => true
  | .dPortUp => true
  | .holdLineChange _ _ _ => true
  | .deviceRequestArrival p => p.wellFormed
  | .deviceCompletionArrival p => p.wellFormed
  | .hostRequestArrival p => p.wellFormed
  | .hostCompletionArrival p => p.wellFormed
  | .intakeTakeRequest => true
  | .issueArbiterGrant => true
  | .answerArbiterGrant => true
  | .passThroughRefusal => true
  | .managementDecode => true
  | .completionMatching => true
  | .tick => true
  | .requestAgeExpiry _ => true
  | .entryRelease _ => true
  | .entryReclaim _ => true
  | .walkTimeout _ => true
  | .walkRelease _ => true
  | .walkReclaim _ => true
  | .alertTimeout => true
  | .alertRelease => true
  | .alertReclaim => true
  | .loadWindow => true
  | .retireWindow => true
  | .invalidate => true
  | .fenceCommandResumption => true
  | .configureRequester => true
  | .enableRequester => true
  | .resumeRequester => true
  | .quiesceRequester => true
  | .setTiming => true
  | .setArbiter => true
  | .setAlert => true
  | .ackAlert => true
  | .clearCounters => true
  | .clearFaults => true
  | .moveAperture => true
  | .status => true
  | .window => true
  | .requester => true
  | .counters => true
  | .fault => true
  | .time => true
  | .fences => true
  | .cacheStorageUpset _ page => page < 2 ^ 22

end Sys2Proof
end

