-- ==== Sys2Proof/Tests/Slice0.lean ====
section
/-! SUPPORT. Tests on small states, with expected values from the spec, and for every statement with premises a
state that meets them, clause by clause. -/

namespace Sys2Proof.Tests

open Sys2Proof.Machine

/-! ### What `wellFormed` refuses -/

theorem test_wf_request_class_bit :
    (Instr.deviceRequestArrival ⟨0x0000000001000002, 0, []⟩).wellFormed = false := by decide
theorem test_wf_host_request_class_bit :
    (Instr.hostRequestArrival ⟨0x0000000001000002, 0, []⟩).wellFormed = false := by decide
theorem test_wf_completion_class_bit :
    (Instr.hostCompletionArrival ⟨0x0000000000400000, []⟩).wellFormed = false := by decide
theorem test_wf_completion_kind_bit :
    (Instr.hostCompletionArrival ⟨0x0000000000400003, []⟩).wellFormed = false := by decide
theorem test_wf_completion_length :
    (Instr.deviceCompletionArrival ⟨0x0000000001400002, []⟩).wellFormed = false := by decide
theorem test_wf_page : (Instr.cacheStorageUpset 0 (2 ^ 22)).wellFormed = false := by decide
theorem test_wf_accepts :
    (Instr.hostCompletionArrival ⟨0x0000000001401F02, [7]⟩).wellFormed = true
      ∧ (Instr.cacheStorageUpset 23 (2 ^ 22 - 1)).wellFormed = true := by decide

/-! ### Formats -/

/-- R10: a word of all zeros has the correct check byte 0xA5. -/
theorem test_check_byte_of_zero : correctCheckByte 0 = 0xA5 := by decide
/-- Spec/01, the worked example: the bytes 03 C0 8A C6 00 00 00 with check byte 2A. -/
theorem test_check_byte_of_example :
    checkByteMatches 0x2A000000C68AC003 = true ∧ mapPresent 0x2A000000C68AC003 = true
      ∧ mapRights 0x2A000000C68AC003 = { read := true, write := false }
      ∧ mapFrame 0x2A000000C68AC003 = 0x31A2B := by decide
/-- R147: the aperture bases of the first and the last strap value. -/
theorem test_strap_bases : strapBase 0 = 0x3F0000000000 ∧ strapBase 7 = 0x3F0000070000 := by decide
/-- R149, R183: the offsets of the first and last row of each group of the aperture map. -/
theorem test_aperture_rows :
    namedOp 0x25C0 ⟨0x0000000004001000, 0, []⟩ = some (.window 23)
      ∧ namedOp 0x2600 ⟨0x0000000004001000, 0, []⟩ = none
      ∧ namedOp 0x33C0 ⟨0x0000000002001000, 0, []⟩ = some (.requester 15)
      ∧ namedOp 0x4880 ⟨0x0000000004001000, 0, []⟩ = some (.counters 17)
      ∧ namedOp 0x0340 ⟨0x0000000001001001, 0, [5]⟩ = some .moveAperture
      ∧ namedOp 0x0340 ⟨0x0000000001001001, 0, []⟩ = none := by decide
/-- R88: the row of the backoff table for base 15, and the cap. -/
theorem test_backoff_row : [1, 2, 3, 4, 5, 6].map (backoff 15) = [15, 30, 60, 120, 240, 255] := by decide
/-- R182: OVERLAP with detail 23. -/
theorem test_result_word : resultWord (.overlap 23) = 0x1703 := by decide
/-- R45: the last condition, a crossing of a 16 KiB boundary by the last of two words. -/
theorem test_boundary : crossesBoundary 0x3FF8 1 = false ∧ crossesBoundary 0x3FF8 2 = true := by decide

/-! ### Small states -/

def up : State := { State.powerOn 0 with uUp := true, dUp := true }
def direct0 : Window where
  state := .valid
  reqSet := 0x0002
  base := 0
  sizeExp := 20
  mode := some .direct
  rights := { read := true, write := true }
  hostBase := 0x4000
def mapped1 : Window where
  state := .valid
  reqSet := 0x0002
  base := 0x100000
  sizeExp := 20
  mode := some .mapped
  rights := { read := true, write := true }
  mapRoot := 0x1000
  checkMode := .report
/-- Two windows of requester 1, which is ACTIVE. -/
def act : State := up |> setWindow 0 direct0 |> setWindow 1 mapped1 |> setContext 1 { state := .active }
def req (write src tag len addr : Nat) (body : List Word) : ReqPacket where
  h0 := packWord [(0, write), (8, src), (16, tag), (24, len)]
  h1 := packWord [(0, addr)]
  body := body
def cpl (src tag status : Nat) (body : List Word) : CplPacket where
  h0 := packWord [(1, 1), (8, src), (16, tag), (24, body.length), (32, status)]
  body := body
def intake (p : ReqPacket) (s : State) : State := { s with dReqIn := [p] }
def upstream (p : CplPacket) (s : State) : State := { s with uCplIn := [p] }
def entry (st : EntryState) : Entry where
  state := st
  requester := 1
  reqTag := 5
  kind := .read
  length := 1
  dAddr := 0x104008
  window := 1
  page := 1
  hostAddr := some 0x8008
def walk (st : SlotState) : WalkSlot where
  state := st
  window := 1
  page := 1
  mapAddr := 0x1008
/-- The head of the management order is slot 2 with this command and payload. -/
def head (op : MgmtOp) (ws : List Word) (s : State) : State :=
  { setMgmt 2 { state := .queued, source := 16, tag := 3, op := some op, payload := ws } s with
    mgmtOrder := [2] }
def rd : ReqPacket := req 0 1 5 1 0x104008 []
def rdDirect : ReqPacket := req 0 1 5 1 0x8 []

/-! ### One step -/

def after (c : Instr) (s : State) : Option State :=
  match exec c s with
  | .next t => some t
  | _ => none

/-- R7: host base + (a - base), queued at once. -/
theorem test_intake_direct :
    (after .intakeTakeRequest (intake rdDirect act)).map
        (fun t => (t.issueQ, (t.entries[0]).hostAddr, (t.contexts[1]).outstanding))
      = some ([0], some 0x4008, 1) := by decide
/-- R26: a miss starts a walk in slot 0 at map root + 8 * page. -/
theorem test_intake_miss :
    (after .intakeTakeRequest (intake rd act)).map
        (fun t => (t.ownList, (t.walks[0]).mapAddr, (t.walks[0]).waiters, (t.entries[0]).state))
      = some ([.walk 0], 0x1008, [0], .translating) := by decide
/-- R44, check 1 comes first: a malformed request is answered ABORT while the U-port is DOWN. -/
theorem test_intake_down :
    (after .intakeTakeRequest (intake (req 0 31 99 0 0 []) { act with uUp := false })).map
        (fun t => (t.refusalQ, t.faults))
      = some ([⟨31, 99, .abort⟩], []) := by decide
/-- R86: source 31, tag the index, and FORWARDED counts. -/
theorem test_grant_forwarded :
    (after .issueArbiterGrant { setEntry 3 (entry .queued) act with issueQ := [3] }).map
        (fun t => (t.uTx, (t.entries[3]).state, t.counter forwarded))
      = some (some (.request ⟨0x0000000001031F00, 0x8008, []⟩), .issued, 1) := by decide
/-- R94: OK of a READ with its one word. -/
theorem test_completion_ok :
    (after .completionMatching (upstream (cpl 31 3 0 [9]) (setEntry 3 (entry .issued) act))).map
        (fun t => ((t.entries[3]).answer, t.answerQ))
      = some (some { status := .ok, data := [9] }, [3]) := by decide
/-- R88: the first RETRY of a requester with backoff base 2 waits 2 ticks. -/
theorem test_completion_retry :
    (after .completionMatching (upstream (cpl 31 3 1 []) (setEntry 3 (entry .issued) act))).map
        (fun t => ((t.entries[3]).state, (t.entries[3]).releaseTick))
      = some (.retryWait, some 2) := by decide
/-- R97: a completion at a FREE entry is stray. -/
theorem test_completion_stray :
    (after .completionMatching (upstream (cpl 31 3 0 []) act)).map
        (fun t => (t.counter strayCompletions, t.faults.map FaultRecord.kind))
      = some (1, [.strayCompletion]) := by decide
/-- R100: the counter wraps. -/
theorem test_tick_wraps : (after .tick { up with now := 0xFFFFFFFF }).map (·.now) = some 0 := by decide
set_option maxRecDepth 20000 in
/-- R104: the expiry of an ISSUED entry keeps its request open. -/
theorem test_expiry_issued :
    (after (.requestAgeExpiry 3) { setEntry 3 (entry .issued) act with now := 4096, tableDue := true }).map
        (fun t => ((t.entries[3]).upstreamOpen, (t.faults.map FaultRecord.detail), t.tableDue))
      = some (true, [3], false) := by decide
/-- R117: a retiring fence with no entry to mark ends at its start. -/
theorem test_retire_empty :
    (after .retireWindow (head .retireWindow [1] act)).map
        (fun t => ((t.windows[1]).state, (t.mgmt[2]).reply, t.replyOrder))
      = some (.free, [0], [2]) := by decide
/-- R117: a marked entry makes the window wait. -/
theorem test_retire_waits :
    (after .retireWindow (head .retireWindow [1] (setEntry 3 (entry .issued) act))).map
        (fun t => ((t.windows[1]).state, (t.fences[0]).remaining, (t.mgmt[2]).state))
      = some (.retiring, 1, .running) := by decide
/-- R67: an all-zero payload is answered BAD_ARGUMENT on an OFF context. -/
theorem test_configure_zero :
    (after .configureRequester (head .configureRequester [0, 0] up)).map (fun t => (t.mgmt[2]).reply)
      = some [2] := by decide
/-- R133: FAULT on an empty queue. -/
theorem test_fault_none :
    (after .fault (head .fault [] up)).map (fun t => (t.mgmt[2]).reply) = some [0, 0, 0, 0] := by decide
/-- R62: the record of the U-port's loss carries the number of swept entries. -/
theorem test_upstream_reset :
    (after .uPortDown (setEntry 3 (entry .issued) act)).map
        (fun t => (t.faults.map fun r => (r.kind, r.detail), t.answerQ, (t.entries[3]).state))
      = some ([(.upstreamReset, 1)], [3], .answering) := by decide

/-! ### Premises met, clause by clause -/

section Witnesses

set_option maxRecDepth 20000
set_option synthInstance.maxSize 5000
set_option synthInstance.maxHeartbeats 4000000


theorem witness_UPortDownClearsAndSweeps : up.uUp = true := by decide
theorem witness_ResetMessageIsLossAndReturn : up.uUp = true ∧ State.reset.uUp = false := by decide
/-- The state in which the returning link fires the alert. -/
def waitingAlert : State :=
  { State.powerOn 0 with alertEnabled := true, faults := [{ kind := .upstreamReset }] }
theorem witness_UPortUpEvaluatesTrigger :
    State.reset.uUp = false ∧ waitingAlert.uUp = false ∧ waitingAlert.faults ≠ [] := by decide
theorem witness_DPortDownFreesAndAbandons : up.dUp = true := by decide
theorem witness_DPortUpAndHoldLines :
    up.uUp = true ∧ up.dUp = true ∧ State.reset.uUp = false ∧ State.reset.dUp = false := by decide
theorem witness_ArrivalsJoinOrAreDiscarded :
    up.uUp = true ∧ up.dUp = true ∧ State.reset.uUp = false ∧ State.reset.dUp = false
      ∧ holdRaised .upstream .request { up with uReqIn := List.replicate 16 rd } = true
      ∧ holdRaised .upstream .request { up with uReqIn := List.replicate 15 rd } = false
      ∧ holdRaised .downstream .completion { up with dCplIn := List.replicate 16 (cpl 0 0 0 []) } = true
      ∧ holdRaised .downstream .completion
          { up with dUp := false, dCplIn := List.replicate 16 (cpl 0 0 0 []) } = false := by decide
/-- No request meets an eighth condition of R45. -/
theorem breaks_lt {p : ReqPacket} {d : Nat} (h : Breaks p d) : d < 8 := by
  rcases h with ⟨rfl, _⟩ | ⟨rfl, _⟩ | ⟨rfl, _⟩ | ⟨rfl, _⟩ | ⟨rfl, _⟩ | ⟨rfl, _⟩ | ⟨rfl, _⟩ <;> decide
theorem breaks_none {p : ReqPacket} (h : ∀ d : Fin 8, ¬Breaks p d.val) : ∀ d : Nat, ¬Breaks p d :=
  fun d hd => h ⟨d, breaks_lt hd⟩ hd
theorem witness_IntakeRefuses_early :
    Takeable { intake rd act with uUp := false } rd [] 0
    ∧ (Takeable (intake (req 0 2 5 1 0 []) act) (req 0 2 5 1 0 []) [] 0
      ∧ malformedDetail (req 0 2 5 1 0 []) = none ∧ (act.contexts[2]).state = .off) := by
  unfold Takeable; decide
/-- Each condition of R45 at the edge of its range, with the ones before it not met. -/
theorem witness_IntakeRefuses_malformed :
    (Takeable (intake (req 0 16 5 1 0 []) act) (req 0 16 5 1 0 []) [] 0 ∧ Breaks (req 0 16 32 65 1 []) 1)
    ∧ (Breaks (req 0 15 32 65 1 []) 2 ∧ ∀ c : Nat, c < 2 → ¬Breaks (req 0 15 32 65 1 []) c)
    ∧ (Breaks (req 0 15 31 0 1 [7]) 3 ∧ ∀ c : Nat, c < 3 → ¬Breaks (req 0 15 31 0 1 [7]) c)
    ∧ (Breaks (req 0 15 31 65 1 []) 3 ∧ ∀ c : Nat, c < 3 → ¬Breaks (req 0 15 31 65 1 []) c)
    ∧ (Breaks (req 1 15 31 2 (2 ^ 48) [7]) 4 ∧ ∀ c : Nat, c < 4 → ¬Breaks (req 1 15 31 2 (2 ^ 48) [7]) c)
    ∧ (Breaks (req 0 15 31 2 (2 ^ 48) [7]) 4 ∧ ∀ c : Nat, c < 4 → ¬Breaks (req 0 15 31 2 (2 ^ 48) [7]) c)
    ∧ (Breaks (req 0 15 31 1 (2 ^ 48 + 1) []) 5 ∧ ∀ c : Nat, c < 5 → ¬Breaks (req 0 15 31 1 (2 ^ 48 + 1) []) c)
    ∧ (Breaks (req 0 15 31 1 0x3FFC []) 6 ∧ ∀ c : Nat, c < 6 → ¬Breaks (req 0 15 31 1 0x3FFC []) c)
    ∧ (Breaks (req 0 15 31 2 0x3FF8 []) 7 ∧ ∀ c : Nat, c < 7 → ¬Breaks (req 0 15 31 2 0x3FF8 []) c) := by
  unfold Takeable Breaks; decide
theorem witness_IntakeRefuses_wellFormed : ∀ d : Nat, ¬Breaks (req 0 15 31 64 0x3E00 []) d :=
  breaks_none (by unfold Breaks; decide)
theorem witness_IntakeRefuses_draining :
    Takeable (intake rd (setContext 1 { state := .draining, outstanding := 1 } act)) rd [] 0
      ∧ malformedDetail rd = none ∧ (headerSource rd.h0).toNat = 1 := by
  unfold Takeable; decide
theorem witness_IntakeRefuses_tag :
    Takeable (intake rd (setEntry 1 (entry .issued) act)) rd [] 0 ∧ malformedDetail rd = none
      ∧ TagTaken (intake rd (setEntry 1 (entry .issued) act)) 1 5 ∧ headerTag rd.h0 = 5 := by
  unfold Takeable TagTaken; decide
theorem witness_IntakeRefuses_limit :
    let s := intake rd (setContext 1 { state := .active, limit := 1, outstanding := 1 } act)
    Takeable s rd [] 0 ∧ malformedDetail rd = none ∧ ¬TagTaken s 1 5
      ∧ (s.contexts[1]).limit ≤ (s.contexts[1]).outstanding := by
  unfold Takeable TagTaken; dsimp only; decide
theorem witness_IntakeRefuses_noWindow :
    let p := req 0 1 5 1 0x200000 []
    Takeable (intake p act) p [] 0 ∧ PassesSix (intake p act) p 1
      ∧ ∀ w : WinId, ((intake p act).windows[w]).matches 1 (requestDAddr p) = false := by
  unfold Takeable PassesSix TagTaken; dsimp only; decide
theorem witness_IntakeRefuses_retiring :
    let s := intake rd (setWindow 1 { mapped1 with state := .retiring } act)
    Takeable s rd [] 0 ∧ PassesSix s rd 1 ∧ Matches s 1 (requestDAddr rd) 1 ∧ (s.windows[1]).state = .retiring := by
  unfold Takeable PassesSix TagTaken Matches; dsimp only; decide
theorem witness_IntakeRefuses_rights :
    let s := intake rd (setWindow 1 { mapped1 with rights := { write := true } } act)
    Takeable s rd [] 0 ∧ PassesSix s rd 1 ∧ Matches s 1 (requestDAddr rd) 1 ∧ (s.windows[1]).state = .valid
      ∧ (s.windows[1]).rights.permits (requestKind rd) = false := by
  unfold Takeable PassesSix TagTaken Matches; dsimp only; decide
theorem witness_IntakeAcceptsDirect :
    Admissible (intake rdDirect act) rdDirect [] 0 1 0
      ∧ ((intake rdDirect act).windows[0]).mode = some .direct := by
  unfold Admissible Takeable PassesSix TagTaken Matches; decide

/-- A cached page 1 of window 1. -/
def cached (kinds : Rights) (upset : Bool) (s : State) : State :=
  { s with cache := [{ window := 1, page := 1, frame := 2, rights := kinds, upset := upset }] }
/-- Every walk slot is busy with another page. -/
def busyWalks (s : State) : State :=
  { s with walks := Vector.ofFn fun k : Fin 4 => { walk .retryWait with page := 10 + k.val } }

theorem witness_IntakeLooksUpMapped_hit :
    let s := intake rd (cached { read := true } false act)
    PlaceLaw s ∧ CacheLaw s ∧ Admissible s rd [] 0 1 1 ∧ (s.windows[1]).mode = some .mapped
      ∧ (acceptedAs s rd 1 1).page = 1
      ∧ ((s.windows[1]).rights.meet { read := true }).permits (acceptedAs s rd 1 1).kind = true
      ∧ ((s.windows[1]).rights.meet { write := true }).permits (acceptedAs s rd 1 1).kind = false := by
  unfold PlaceLaw CacheLaw covers Window.mappedValid Admissible Takeable PassesSix TagTaken Matches; dsimp only; decide
theorem witness_IntakeLooksUpMapped_denied :
    let s := intake rd (cached { write := true } false act)
    PlaceLaw s ∧ CacheLaw s ∧ Admissible s rd [] 0 1 1 := by
  unfold PlaceLaw CacheLaw covers Window.mappedValid Admissible Takeable PassesSix TagTaken Matches; dsimp only; decide
theorem witness_IntakeLooksUpMapped_merge :
    let s := intake rd (setWalk 2 (walk .issued) act)
    PlaceLaw s ∧ CacheLaw s ∧ Admissible s rd [] 0 1 1 ∧ Uncached s 1 1 ∧ covers s 2
      ∧ (s.walks[2]).window = 1 ∧ (s.walks[2]).page = 1 := by
  unfold PlaceLaw CacheLaw Uncached covers Window.mappedValid Admissible Takeable PassesSix TagTaken Matches; dsimp only; decide
theorem witness_IntakeLooksUpMapped_start :
    let s := intake rd act
    PlaceLaw s ∧ CacheLaw s ∧ Admissible s rd [] 0 1 1 ∧ Uncached s 1 1 ∧ Uncovered s 1 1 ∧ LowestFreeWalk s 0
      ∧ s.backlog = [] := by
  unfold PlaceLaw CacheLaw Uncached Uncovered LowestFreeWalk covers Window.mappedValid Admissible Takeable
    PassesSix TagTaken Matches
  dsimp only
  decide
theorem witness_IntakeLooksUpMapped_backlog :
    let s := intake rd (busyWalks act)
    PlaceLaw s ∧ CacheLaw s ∧ Admissible s rd [] 0 1 1 ∧ Uncached s 1 1 ∧ Uncovered s 1 1
      ∧ ∀ k : WalkId, (s.walks[k]).state ≠ .free := by
  unfold PlaceLaw CacheLaw Uncached Uncovered covers Window.mappedValid Admissible Takeable PassesSix TagTaken
    Matches
  dsimp only
  decide

theorem witness_CompletionClassGrant :
    (up.uUp = true ∧ up.uHoldCpl = false ∧ { up with replyOrder := [4] }.replyOrder = [4] ∧ up.dCplIn = [])
    ∧ (let s := { up with replyRefusals := [⟨16, 3, .error⟩], dCplIn := [cpl 16 3 0 []], cplTurn := .management }
       s.replyOrder = [] ∧ s.replyRefusals = [⟨16, 3, .error⟩] ∧ s.cplTurn = .management)
    ∧ (let s := { up with replyOrder := [4], dCplIn := [cpl 16 3 0 []], cplTurn := .passThrough }
       s.dCplIn = [cpl 16 3 0 []] ∧ s.cplTurn = .passThrough) := by decide
theorem witness_RequestClassGrant :
    (let s := { setEntry 3 (entry .queued) act with issueQ := [3], ownList := [.walk 0], rotation := 1 }
     s.uUp = true ∧ s.uHoldReq = false ∧ s.issueQ = [3] ∧ (s.entries[3]).state = .queued
       ∧ (s.entries[3]).hostAddr = some 0x8008 ∧ s.rotation < s.guarantee)
    ∧ (let s := { setWalk 3 (walk .queued) act with issueQ := [3], ownList := [.walk 3], rotation := 2 }
       s.uUp = true ∧ s.uHoldReq = false ∧ s.ownList = [.walk 3] ∧ (s.walks[3]).state = .queued
         ∧ s.guarantee ≤ s.rotation)
    ∧ (let s := { act with ownList := [.alert], alertSlot := { state := .queued, address := 0x40 } }
       s.uUp = true ∧ s.uHoldReq = false ∧ s.ownList = [.alert] ∧ s.alertSlot.state = .queued ∧ s.issueQ = []) := by
  decide
theorem witness_AnswerSentFreesOrAbandons :
    let e := { entry .answering with hostAddr := none, answer := some { status := .ok, data := [9] } }
    let s := { setEntry 3 e act with answerQ := [3] }
    s.dUp = true ∧ s.dHoldCpl = false ∧ ¬(8 ≤ s.runCount ∧ s.downQ ≠ [] ∧ s.refusalCount = 0 ∧ s.dHoldReq = false)
      ∧ s.answerQ = [3] ∧ s.refusalQ = [] ∧ (s.entries[3]).state = .answering
      ∧ (s.entries[3]).answer = some { status := .ok, data := [9] } := by decide
theorem witness_RefusalOrRequestSent :
    (let s := { up with refusalQ := [⟨31, 99, .malformed⟩], answerQ := [3], answerTurn := .refusal }
     s.dUp = true ∧ s.dHoldCpl = false ∧ s.downQ = [] ∧ s.refusalQ = [⟨31, 99, .malformed⟩]
       ∧ s.answerTurn = .refusal)
    ∧ (let s := { up with downQ := [rd], runCount := 8, answerQ := [3] }
       s.dUp = true ∧ s.downQ = [rd] ∧ s.refusalCount = 0 ∧ s.dHoldReq = false ∧ 8 ≤ s.runCount) := by decide
theorem witness_HappeningsWait :
    up.dReqIn = [] ∧ 16 ≤ { up with refusalQ := List.replicate 16 ⟨0, 0, .abort⟩ }.refusalQ.length
      ∧ (∀ i : EntryId, ({ up with entries := Vector.replicate 64 (entry .abandoned) }.entries[i]).state ≠ .free)
      ∧ State.reset.uUp = false ∧ State.reset.dUp = false ∧ up.uHoldReq = false ∧ up.issueQ = [] ∧ up.ownList = []
      ∧ up.replyOrder = [] ∧ up.replyRefusals = [] ∧ up.dCplIn = [] ∧ up.answerQ = [] ∧ up.refusalQ = []
      ∧ up.downQ = [] ∧ up.uCplIn = [] ∧ up.uReqIn = [] ∧ up.tableDue = false ∧ up.walkDue = false
      ∧ up.alertDue = false ∧ up.mgmtOrder = [] ∧ up.headWaiting = false ∧ up.pending = [] := by decide
theorem witness_PassThroughRefusalAnswersError :
    let s := { up with downQ := [rd], refusalCount := 1, replyRefusals := List.replicate 3 ⟨0, 0, .error⟩ }
    s.downQ = [rd] ∧ 0 < s.refusalCount ∧ s.replyRefusals.length < 4 := by decide
theorem witness_DecodeFollowsItsTable :
    let p := req 0 16 3 4 0x3F0000001000 []
    let s := { up with uReqIn := [p] }
    s.uReqIn = [p]
      ∧ (s.apertureBase.toNat ≤ (requestAddress p).toNat
        ∧ (requestAddress p).toNat < s.apertureBase.toNat + 0x10000)
      ∧ (∃ row ∈ apertureMap, row.offset = (requestAddress p).toNat - s.apertureBase.toNat
        ∧ row.kind = requestKind p ∧ row.words = headerLength p.h0)
      ∧ (s.mgmt[0]).state = .free
      ∧ (∀ m : MgmtId, ({ s with mgmt := Vector.replicate 8 { state := .replying } }.mgmt[m]).state ≠ .free)
      ∧ (∀ row ∈ apertureMap, ¬(row.offset = 0xFFF8))
      ∧ s.apertureBase.toNat + 0x10000 ≤ (requestAddress (req 0 16 3 4 0x3F0000010000 [])).toNat
      ∧ s.dUp = true := by decide

/-! ### Completions -/

theorem witness_StrayCompletionDiscarded :
    (upstream (cpl 30 3 0 []) act).uCplIn = [cpl 30 3 0 []] ∧ headerSource (cpl 30 3 0 []).h0 ≠ 31
      ∧ (headerTag (cpl 31 69 0 []).h0).toNat = 69
      ∧ CompletionFor (upstream (cpl 31 63 0 []) act) (cpl 31 63 0 []) [] 63 ∧ (act.entries[63]).state = .free
      ∧ ((setEntry 63 (entry .answering) act).entries[63]).state
          ∈ [EntryState.translating, .queued, .retryWait, .answering]
      ∧ CompletionFor (upstream (cpl 31 67 0 []) act) (cpl 31 67 0 []) [] 67 ∧ (act.walks[3]).state = .free
      ∧ ((setWalk 3 (walk .retryWait) act).walks[3]).state ∈ [SlotState.queued, .retryWait]
      ∧ CompletionFor (upstream (cpl 31 68 0 []) act) (cpl 31 68 0 []) [] 68 ∧ act.alertSlot.state = .free
      ∧ act.faults.length < 16
      ∧ ¬{ act with faults := List.replicate 16 { kind := .rights } }.faults.length < 16
      ∧ { act with alertSlot := { state := .queued } }.alertSlot.state ∈ [SlotState.queued, .retryWait] := by
  unfold CompletionFor; decide
theorem witness_LateCompletionFreesEntry :
    let s := upstream (cpl 31 63 5 []) (setEntry 63 { entry .abandoned with abandonTick := some 0 } act)
    CompletionFor s (cpl 31 63 5 []) [] 63 ∧ (s.entries[63]).state = .abandoned := by
  unfold CompletionFor; dsimp only; decide
/-- Entry 63 is ISSUED and this completion waits. -/
def issued (p : CplPacket) : State := upstream p (setEntry 63 (entry .issued) act)
theorem witness_EntryCompletionEnds :
    PlaceLaw (issued (cpl 31 63 0 [9])) ∧ CompletionFor (issued (cpl 31 63 0 [9])) (cpl 31 63 0 [9]) [] 63
      ∧ ((issued (cpl 31 63 0 [9])).entries[63]).state = .issued
      ∧ headerStatus (cpl 31 63 0 [9]).h0 = 0 ∧ (cpl 31 63 0 [9]).body.length = (entry .issued).length
      ∧ PlaceLaw (issued (cpl 31 63 0 [])) ∧ CompletionFor (issued (cpl 31 63 0 [])) (cpl 31 63 0 []) [] 63
      ∧ (cpl 31 63 0 []).body.length ≠ (entry .issued).length
      ∧ PlaceLaw (issued (cpl 31 63 2 [])) ∧ CompletionFor (issued (cpl 31 63 2 [])) (cpl 31 63 2 []) [] 63
      ∧ headerStatus (cpl 31 63 2 []).h0 = 2 := by
  unfold PlaceLaw CompletionFor; decide
theorem witness_HostRetryAtEntry :
    let p := cpl 31 63 1 []
    let waits := issued p
    let atOnce := setContext 1 { state := .active, backoffBase := 0 } waits
    let aged := { atOnce with now := 4096 }
    let limit := setContext 1 { state := .active, retryLimit := 0, exhaustion := .fill } waits
    (PlaceLaw waits ∧ CompletionFor waits p [] 63 ∧ (waits.entries[63]).state = .issued ∧ headerStatus p.h0 = 1
      ∧ (waits.entries[63]).retryCount < (waits.contexts[1]).retryLimit
      ∧ 0 < min ((waits.contexts[1]).backoffBase * 2 ^ (waits.entries[63]).retryCount) 255)
    ∧ (PlaceLaw atOnce ∧ CompletionFor atOnce p [] 63
      ∧ min ((atOnce.contexts[1]).backoffBase * 2 ^ (atOnce.entries[63]).retryCount) 255 = 0
      ∧ ¬(atOnce.contexts[1]).timeout ≤ (atOnce.now - (atOnce.entries[63]).acceptTick).toNat
      ∧ (atOnce.entries[63]).marks = noMarks)
    ∧ (PlaceLaw aged ∧ CompletionFor aged p [] 63
      ∧ (aged.contexts[1]).timeout ≤ (aged.now - (aged.entries[63]).acceptTick).toNat)
    ∧ (PlaceLaw limit ∧ CompletionFor limit p [] 63
      ∧ (limit.contexts[1]).retryLimit ≤ (limit.entries[63]).retryCount) := by
  unfold PlaceLaw CompletionFor; dsimp only; decide

/-- Walk slot 3 is ISSUED with entry 3 as its waiter, and this completion waits. -/
def walked (p : CplPacket) (stale : Bool) : State :=
  upstream p
    (act |> setEntry 3 { entry .translating with hostAddr := none }
      |> setWalk 3 { walk .issued with waiters := [3], stale := stale })
theorem witness_UsableWalkInstalls :
    let word : Word := 0x2A000000C68AC003
    let p := cpl 31 67 0 [word]
    let s := walked p false
    PlaceLaw s ∧ MarkLaw s ∧ OwnListLaw s ∧ s.backlog = [] ∧ CompletionFor s p [] (64 + 3) ∧ headerStatus p.h0 = 0
      ∧ p.body = [word] ∧ (s.walks[3]).state = .issued ∧ (s.walks[3]).stale = false
      ∧ reservedClear word = true ∧ checkByteMatches word = true ∧ mapPresent word = true := by
  unfold PlaceLaw MarkLaw OwnListLaw CompletionFor; dsimp only; decide
theorem witness_UnusableOrStaleWord :
    (let p := cpl 31 67 0 [0x2A000000C68AC00B]
     PlaceLaw (walked p false) ∧ MarkLaw (walked p false) ∧ OwnListLaw (walked p false)
       ∧ CompletionFor (walked p false) p [] (64 + 3) ∧ headerStatus p.h0 = 0
       ∧ ((walked p false).walks[3]).stale = false ∧ reservedClear 0x2A000000C68AC00B = false)
    ∧ (let p := cpl 31 67 0 [0]
       let s := setWindow 1 { mapped1 with checkMode := .enforce } (walked p false)
       PlaceLaw s ∧ MarkLaw s ∧ OwnListLaw s ∧ CompletionFor s p [] (64 + 3) ∧ reservedClear 0 = true
         ∧ (s.windows[(s.walks[3]).window]).checkMode = .enforce ∧ checkByteMatches 0 = false)
    ∧ (let p := cpl 31 67 0 [0]
       PlaceLaw (walked p false) ∧ CompletionFor (walked p false) p [] (64 + 3)
         ∧ (mapped1.checkMode = .report) ∧ mapPresent 0 = false)
    ∧ (let p := cpl 31 67 0 [0xA500000000000000]
       PlaceLaw (walked p false) ∧ CompletionFor (walked p false) p [] (64 + 3)
         ∧ checkByteMatches 0xA500000000000000 = true ∧ mapPresent 0xA500000000000000 = false)
    ∧ (let p := cpl 31 67 0 [0]
       let s := setWindow 1 { mapped1 with state := .retiring } (walked p true)
       PlaceLaw s ∧ MarkLaw s ∧ OwnListLaw s ∧ CompletionFor s p [] (64 + 3) ∧ (s.walks[3]).stale = true
         ∧ ∀ i ∈ (s.walks[3]).waiters, ∀ w : WinId,
           (s.windows[w]).matches (s.entries[i]).requester (s.entries[i]).dAddr = true →
             (s.windows[w]).state = .retiring) := by
  unfold PlaceLaw MarkLaw OwnListLaw CompletionFor; dsimp only; decide
/-- Walk slot 3 is ISSUED and stale, entries 3 and 4 wait on it, and its word has come. -/
def staled (s : State) : State :=
  upstream (cpl 31 67 0 [8])
    (s |> setEntry 3 { entry .translating with hostAddr := none }
      |> setEntry 4 { entry .translating with hostAddr := none, reqTag := 6, kind := .write, payload := [7] }
      |> setWalk 3 { walk .issued with waiters := [3, 4], stale := true })
/-- Every statement about a stale walk's word asks this, here with the one match of both waiters. -/
def StaleTaken (s : State) : Prop :=
  PlaceLaw s ∧ MarkLaw s ∧ OwnListLaw s ∧ CompletionFor s (cpl 31 67 0 [8]) [] (64 + 3) ∧ s.backlog = []
    ∧ (s.walks[3]).state = .issued ∧ (s.walks[3]).stale = true ∧ (s.walks[3]).waiters = [3, 4]
    ∧ (s.windows[1]).state = .valid
    ∧ ∀ i ∈ (s.walks[3]).waiters, Matches s (s.entries[i]).requester (s.entries[i]).dAddr 1
theorem witness_UnusableOrStaleWord_stale_denied :
    StaleTaken (staled (setWindow 1 { mapped1 with rights := {} } act))
      ∧ ∀ i ∈ [3, 4], ({} : Rights).permits ((staled act).entries[(i : EntryId)]).kind = false := by
  unfold StaleTaken PlaceLaw MarkLaw OwnListLaw CompletionFor Matches; decide
theorem witness_UnusableOrStaleWord_stale_direct :
    StaleTaken (staled (setWindow 1 { direct0 with base := 0x100000 } act)) := by
  unfold StaleTaken PlaceLaw MarkLaw OwnListLaw CompletionFor Matches; decide
/-- The waiters hit: the READ is permitted and the WRITE refused. -/
theorem witness_UnusableOrStaleWord_stale_hit :
    StaleTaken (staled (cached { read := true } false act)) ∧ CacheLaw (staled (cached { read := true } false act))
      ∧ ⟨1, 1, 2, { read := true }, false⟩ ∈ (staled (cached { read := true } false act)).cache
      ∧ (mapped1.rights.meet { read := true }).permits .read = true
      ∧ (mapped1.rights.meet { read := true }).permits .write = false := by
  unfold StaleTaken PlaceLaw MarkLaw OwnListLaw CompletionFor Matches CacheLaw covers Window.mappedValid; decide
theorem witness_UnusableOrStaleWord_stale_merge :
    let s := staled (setWalk 2 (walk .issued) act)
    StaleTaken s ∧ CacheLaw s ∧ Uncached s 1 1 ∧ covers s 2 ∧ (s.walks[2]).window = 1 ∧ (s.walks[2]).page = 1 := by
  unfold StaleTaken PlaceLaw MarkLaw OwnListLaw CompletionFor Matches CacheLaw Uncached covers Window.mappedValid
  dsimp only
  decide
/-- The first miss starts a walk: in slot 0 while it is FREE, and in the slot just freed otherwise. -/
theorem witness_UnusableOrStaleWord_stale_start :
    let s := staled act
    let t := staled ((busyWalks act) |> setWalk 3 {})
    (StaleTaken s ∧ CacheLaw s ∧ Uncached s 1 1 ∧ Uncovered s 1 1
      ∧ LowestFreeWalk { s with walks := s.walks.set 3 {} } 0)
    ∧ (StaleTaken t ∧ CacheLaw t ∧ Uncached t 1 1 ∧ Uncovered t 1 1
      ∧ LowestFreeWalk { t with walks := t.walks.set 3 {} } 3) := by
  unfold StaleTaken PlaceLaw MarkLaw OwnListLaw CompletionFor Matches CacheLaw Uncached Uncovered LowestFreeWalk
    covers Window.mappedValid
  dsimp only
  decide
theorem witness_WalkFailsOrRetries :
    (let p := cpl 31 67 0 []
     let s := walked p false
     PlaceLaw s ∧ MarkLaw s ∧ OwnListLaw s ∧ CompletionFor s p [] (64 + 3) ∧ s.backlog = [] ∧ headerStatus p.h0 = 0
       ∧ p.body.length ≠ 1)
    ∧ (let p := cpl 31 67 1 []
       let s := { walked p true with timing := { walkRetryLimit := 0 } }
       PlaceLaw s ∧ MarkLaw s ∧ OwnListLaw s ∧ CompletionFor s p [] (64 + 3) ∧ headerStatus p.h0 = 1
         ∧ s.timing.walkRetryLimit ≤ (s.walks[3]).retryCount)
    ∧ (let p := cpl 31 67 1 []
       let s := walked p false
       PlaceLaw s ∧ MarkLaw s ∧ OwnListLaw s ∧ CompletionFor s p [] (64 + 3)
         ∧ (s.walks[3]).retryCount < s.timing.walkRetryLimit
         ∧ 0 < min (s.timing.walkBackoffBase * 2 ^ (s.walks[3]).retryCount) 255)
    ∧ (let p := cpl 31 67 1 []
       let s := { walked p false with timing := { walkBackoffBase := 0 } }
       PlaceLaw s ∧ MarkLaw s ∧ OwnListLaw s ∧ CompletionFor s p [] (64 + 3)
         ∧ (s.walks[3]).retryCount < s.timing.walkRetryLimit
         ∧ min (s.timing.walkBackoffBase * 2 ^ (s.walks[3]).retryCount) 255 = 0) := by
  unfold PlaceLaw MarkLaw OwnListLaw CompletionFor; dsimp only; decide
theorem witness_LateWalkFreesAndServes :
    let p := cpl 31 64 7 []
    let s := upstream p (setWalk 0 { walk .abandoned with abandonTick := some 0 } (busyWalks act))
    let t := { setEntry 3 { entry .translating with hostAddr := none } s with backlog := [3] }
    (OwnListLaw s ∧ CompletionFor s p [] (64 + 0) ∧ (s.walks[0]).state = .abandoned ∧ s.backlog = [])
    ∧ (OwnListLaw t ∧ CompletionFor t p [] (64 + 0) ∧ (t.walks[0]).state = .abandoned ∧ t.backlog = [3]
      ∧ (t.entries[3]).state = .translating ∧ Matches t 1 0x104008 1 ∧ (t.windows[1]).state = .valid
      ∧ (t.windows[1]).mode = some .mapped ∧ (t.windows[1]).rights.permits .read = true ∧ Uncached t 1 1
      ∧ Uncovered t 1 1 ∧ ∀ j : WalkId, j ≠ 0 → (t.walks[j]).state ≠ .free) := by
  unfold OwnListLaw CompletionFor Matches Uncached Uncovered covers; dsimp only; decide
/-- The alert slot in this state, with this completion waiting. -/
def alerted (x : SlotState) (p : CplPacket) : State :=
  upstream p { act with alertSlot := { state := x, address := 0x40, payload := [1, 2] } }
theorem witness_AlertCompletion :
    (let p := cpl 31 68 0 []
     OwnListLaw (alerted .issued p) ∧ CompletionFor (alerted .issued p) p [] 68 ∧ headerStatus p.h0 = 0)
    ∧ (let p := cpl 31 68 0 [1]
       OwnListLaw (alerted .issued p) ∧ CompletionFor (alerted .issued p) p [] 68 ∧ p.body ≠ [])
    ∧ (let p := cpl 31 68 1 []
       let s := { alerted .issued p with timing := { walkRetryLimit := 0 } }
       OwnListLaw s ∧ CompletionFor s p [] 68 ∧ headerStatus p.h0 = 1
         ∧ s.timing.walkRetryLimit ≤ s.alertSlot.retryCount)
    ∧ (let p := cpl 31 68 1 []
       let s := alerted .issued p
       OwnListLaw s ∧ CompletionFor s p [] 68 ∧ s.alertSlot.retryCount < s.timing.walkRetryLimit
         ∧ 0 < min (s.timing.walkBackoffBase * 2 ^ s.alertSlot.retryCount) 255)
    ∧ (let p := cpl 31 68 1 []
       let s := { alerted .issued p with timing := { walkBackoffBase := 0 } }
       OwnListLaw s ∧ CompletionFor s p [] 68
         ∧ min (s.timing.walkBackoffBase * 2 ^ s.alertSlot.retryCount) 255 = 0)
    ∧ (let p := cpl 31 68 5 []
       OwnListLaw (alerted .abandoned p) ∧ CompletionFor (alerted .abandoned p) p [] 68
         ∧ (alerted .abandoned p).alertSlot.state = .abandoned) := by
  unfold OwnListLaw CompletionFor; dsimp only; decide

/-! ### Ticks -/

theorem witness_TickAdvances :
    (up.tableDue = false ∧ up.walkDue = false ∧ up.alertDue = false)
    ∧ (∀ i : EntryId, EntryQuiet { up with tableDue := true } i)
    ∧ (∀ k : WalkId, WalkQuiet { up with walkDue := true } k)
    ∧ alertTimesOut up = false ∧ alertReleases up = false ∧ alertReclaims up = false := by
  unfold EntryQuiet WalkQuiet; decide
/-- A block that TICK finds behind, with a timer that has run out at the tick before. -/
theorem witness_TickAdvances_behind :
    entryExpires { setEntry 63 (entry .queued) act with now := 4096, tableDue := true } 63 = true
    ∧ entryReleases { setEntry 0 { entry .retryWait with releaseTick := some 2 } act with now := 2 } 0 = true
    ∧ entryReclaims { setEntry 0 { entry .abandoned with abandonTick := some 1 } act with now := 8193 } 0 = true
    ∧ walkTimesOut { setWalk 3 (walk .issued) act with now := 1024, walkDue := true } 3 = true
    ∧ walkReleases { setWalk 0 { walk .retryWait with releaseTick := some 2 } act with now := 2 } 0 = true
    ∧ walkReclaims { setWalk 0 { walk .abandoned with abandonTick := some 1 } act with now := 8193 } 0 = true
    ∧ alertTimesOut { act with alertSlot := { state := .queued }, now := 1024, alertDue := true } = true
    ∧ alertReleases { act with alertSlot := { state := .retryWait, releaseTick := some 2 }, now := 2 } = true
    ∧ alertReclaims { act with alertSlot := { state := .abandoned, abandonTick := some 1 }, now := 8193 } = true
    ∧ act.tableDue = false ∧ act.walkDue = false := by decide
theorem witness_TableTakesTick :
    (let s := { setEntry 63 (entry .queued) act with now := 4096, tableDue := true }
     s.tableDue = true ∧ entryExpires s 63 = true
       ∧ ∀ i : EntryId, entryReleases s i = true → entryExpires s i = true ∨ (s.entries[i]).marks = noMarks)
    ∧ (let s := { setEntry 63 { entry .retryWait with releaseTick := some 2 } act with now := 2, tableDue := true }
       entryReleases s 63 = true
         ∧ ∀ i : EntryId, entryReleases s i = true → entryExpires s i = true ∨ (s.entries[i]).marks = noMarks)
    ∧ (let s := { setEntry 0 { entry .abandoned with abandonTick := some 1 } act with now := 8193, tableDue := true }
       entryReclaims s 0 = true
         ∧ ∀ i : EntryId, entryReleases s i = true → entryExpires s i = true ∨ (s.entries[i]).marks = noMarks) := by
  decide
/-- A RETRY for entry 3. -/
def retry3 : CplPacket := cpl 31 3 1 []
/-- Entry 3 waits for its release at this tick, marked by fence slot 1. -/
def release (s : State) : State :=
  { setEntry 3 { entry .retryWait with releaseTick := some 2, marks := noMarks.set 1 true } s with
    now := 2, tableDue := true }
theorem witness_MarkedReleaseRetranslates_all :
    PlaceLaw (release act) ∧ CacheLaw (release act) ∧ ((release act).entries[3]).marks ≠ noMarks
      ∧ Matches (release act) 1 0x104008 1 ∧ ((release act).windows[1]).state = .valid
      ∧ ((release act).windows[1]).rights.permits .read = true := by
  unfold PlaceLaw CacheLaw covers Window.mappedValid Matches; decide
theorem witness_MarkedReleaseRetranslates_tick :
    Releases (.entryRelease 3) retry3 [] 3 (release act) { release act with tableDue := false }
      (release act).entries[3] :=
  .inl ⟨rfl, by decide, by decide, by decide, by unfold EntryQuiet; decide, rfl, rfl⟩
/-- Entry 3 is ISSUED and marked by fence slot 1, and a RETRY without backoff has come for it. -/
def retried (s : State) : State :=
  upstream retry3
    (s |> setEntry 3 { entry .issued with marks := noMarks.set 1 true }
      |> setContext 1 { state := .active, backoffBase := 0 })
theorem witness_MarkedReleaseRetranslates_retry :
    PlaceLaw (retried act) ∧ CacheLaw (retried act) ∧ ((retried act).entries[3]).marks ≠ noMarks
      ∧ Releases .completionMatching retry3 [] 3 (retried act)
          (bump retriesReceived { retried act with uCplIn := [] })
          { (retried act).entries[3] with retryCount := 1 } := by
  refine ⟨by unfold PlaceLaw; decide, by unfold CacheLaw covers Window.mappedValid; decide, by decide, .inr ?_⟩
  exact ⟨rfl, by unfold CompletionFor; decide, by decide, by decide, by decide, by decide, by decide, rfl, rfl⟩
/-- The three ways in which a lookup at a marked release can end that the other witnesses leave out. -/
theorem witness_MarkedReleaseRetranslates_hitDenied :
    let s := release (cached { write := true } false act)
    PlaceLaw s ∧ CacheLaw s ∧ entryReleases s 3 = true ∧ (∀ j : EntryId, j ≠ 3 → EntryQuiet s j)
      ∧ ⟨1, 1, 2, { write := true }, false⟩ ∈ s.cache
      ∧ ((s.windows[1]).rights.meet { write := true }).permits .read = false := by
  unfold PlaceLaw CacheLaw covers Window.mappedValid EntryQuiet; dsimp only; decide
theorem witness_MarkedReleaseRetranslates_start :
    let s := release act
    PlaceLaw s ∧ CacheLaw s ∧ Uncached s 1 1 ∧ Uncovered s 1 1 ∧ LowestFreeWalk s 0 ∧ s.backlog = [] := by
  unfold PlaceLaw CacheLaw Uncached Uncovered LowestFreeWalk covers Window.mappedValid; dsimp only; decide
theorem witness_MarkedReleaseRetranslates_backlog :
    let s := release (busyWalks act)
    PlaceLaw s ∧ CacheLaw s ∧ Uncached s 1 1 ∧ Uncovered s 1 1 ∧ entryReleases s 3 = true
      ∧ ∀ k : WalkId, (s.walks[k]).state ≠ .free := by
  unfold PlaceLaw CacheLaw Uncached Uncovered covers Window.mappedValid; dsimp only; decide
theorem witness_MarkedReleaseRetranslates_unmapped :
    let s := release (setWindow 1 { mapped1 with state := .retiring } act)
    PlaceLaw s ∧ CacheLaw s ∧ entryReleases s 3 = true ∧ (∀ j : EntryId, j ≠ 3 → EntryQuiet s j)
      ∧ ∀ v : WinId, (s.windows[v]).matches 1 0x104008 = true → (s.windows[v]).state = .retiring := by
  unfold PlaceLaw CacheLaw covers Window.mappedValid EntryQuiet; dsimp only; decide
theorem witness_MarkedReleaseRetranslates_denied :
    let s := release (setWindow 1 { mapped1 with rights := { write := true } } act)
    PlaceLaw s ∧ CacheLaw s ∧ entryReleases s 3 = true ∧ (∀ j : EntryId, j ≠ 3 → EntryQuiet s j)
      ∧ Matches s 1 0x104008 1 ∧ (s.windows[1]).rights.permits .read = false := by
  unfold PlaceLaw CacheLaw covers Window.mappedValid EntryQuiet Matches; dsimp only; decide
theorem witness_MarkedReleaseRetranslates_direct :
    let s := release (setWindow 1 { direct0 with base := 0x100000 } act)
    PlaceLaw s ∧ CacheLaw s ∧ entryReleases s 3 = true ∧ (∀ j : EntryId, j ≠ 3 → EntryQuiet s j)
      ∧ Matches s 1 0x104008 1 ∧ (s.windows[1]).mode = some .direct := by
  unfold PlaceLaw CacheLaw covers Window.mappedValid EntryQuiet Matches; dsimp only; decide
theorem witness_MarkedReleaseRetranslates_hit :
    let s := release (cached { read := true } false act)
    PlaceLaw s ∧ CacheLaw s ∧ entryReleases s 3 = true ∧ (∀ j : EntryId, j ≠ 3 → EntryQuiet s j)
      ∧ ⟨1, 1, 2, { read := true }, false⟩ ∈ s.cache
      ∧ ((s.windows[1]).rights.meet { read := true }).permits .read = true := by
  unfold PlaceLaw CacheLaw covers Window.mappedValid EntryQuiet; dsimp only; decide
theorem witness_MarkedReleaseRetranslates_merge :
    let s := release (setWalk 2 (walk .issued) act)
    PlaceLaw s ∧ CacheLaw s ∧ entryReleases s 3 = true ∧ (∀ j : EntryId, j ≠ 3 → EntryQuiet s j)
      ∧ Uncached s 1 1 ∧ covers s 2 ∧ (s.walks[2]).window = 1 ∧ (s.walks[2]).page = 1 := by
  unfold PlaceLaw CacheLaw Uncached covers Window.mappedValid EntryQuiet; dsimp only; decide
/-- Walk slot 3 alone is in this state at this tick, which the Walk Unit has to take. -/
def walkTick (x : WalkSlot) (now : Tick) (own : List OwnRequest) : State :=
  { setWalk 3 x act with now := now, walkDue := true, ownList := own }
theorem witness_WalkTimers :
    (let s := walkTick (walk .issued) 1024 []
     PlaceLaw s ∧ MarkLaw s ∧ OwnListLaw s ∧ s.backlog = [] ∧ s.walkDue = true
       ∧ (∀ j : WalkId, j ≠ 3 → WalkQuiet s j) ∧ walkTimesOut s 3 = true ∧ (s.walks[3]).state = .issued)
    ∧ (let s := walkTick (walk .queued) 1024 [.walk 3]
       PlaceLaw s ∧ MarkLaw s ∧ OwnListLaw s ∧ (∀ j : WalkId, j ≠ 3 → WalkQuiet s j) ∧ walkTimesOut s 3 = true
         ∧ (s.walks[3]).state ≠ .issued)
    ∧ (let s := walkTick { walk .retryWait with releaseTick := some 2 } 2 []
       PlaceLaw s ∧ MarkLaw s ∧ OwnListLaw s ∧ (∀ j : WalkId, j ≠ 3 → WalkQuiet s j) ∧ walkTimesOut s 3 = false
         ∧ walkReleases s 3 = true)
    ∧ (let s := walkTick { walk .abandoned with abandonTick := some 1 } 8193 []
       PlaceLaw s ∧ MarkLaw s ∧ OwnListLaw s ∧ (∀ j : WalkId, j ≠ 3 → WalkQuiet s j)
         ∧ walkReclaims s 3 = true) := by
  unfold PlaceLaw MarkLaw OwnListLaw WalkQuiet; dsimp only; decide
theorem witness_AlertTimers :
    (let s := { act with alertSlot := { state := .issued, address := 0x40 }, now := 1024, alertDue := true }
     OwnListLaw s ∧ s.alertDue = true ∧ alertTimesOut s = true ∧ s.alertSlot.state = .issued)
    ∧ (let s :=
         { act with alertSlot := { state := .queued }, now := 1024, alertDue := true, ownList := [.alert] }
       OwnListLaw s ∧ alertTimesOut s = true ∧ s.alertSlot.state ≠ .issued)
    ∧ (let s := { act with alertSlot := { state := .retryWait, releaseTick := some 2 }, now := 2, alertDue := true }
       OwnListLaw s ∧ alertTimesOut s = false ∧ alertReleases s = true)
    ∧ (let s :=
         { act with alertSlot := { state := .abandoned, abandonTick := some 1 }, now := 8193, alertDue := true }
       OwnListLaw s ∧ alertReclaims s = true) := by
  unfold OwnListLaw; dsimp only; decide

/-! ### Management -/

/-- LOAD_WINDOW's payload for window `i`, 1 MiB, MAPPED, both rights, ENFORCE, requester 1, at 0x200000. -/
def load (i : Nat) : List Word :=
  [packWord [(0, i), (8, 20), (16, 1), (20, 3), (24, 2), (32, 2)], 0x200000, 0x1000, 0]
theorem witness_LoadWindowChecksAndLoads :
    HeadHolds (head .loadWindow (load 24) act) 2 [] .loadWindow (load 24)
      ∧ field (payloadWord (load 24) 0) 0 5 = 24
      ∧ (act.windows[1]).state ≠ .free ∧ field (payloadWord (load 1) 0) 0 5 = 1
      ∧ (act.windows[23]).state = .free ∧ field (payloadWord (load 23) 0) 0 5 = 23
      ∧ (after .loadWindow (head .loadWindow (load 24) act)).map (fun t => (t.mgmt[2]).reply) = some [2]
      ∧ (after .loadWindow (head .loadWindow (load 1) act)).map (fun t => (t.mgmt[2]).reply) = some [1]
      ∧ (after .loadWindow (head .loadWindow [23, 0, 0, 0] act)).map (fun t => (t.mgmt[2]).reply) = some [2]
      ∧ (after .loadWindow (head .loadWindow ((load 23).set 1 0x100000) act)).map (fun t => (t.mgmt[2]).reply)
          = some [0x103]
      ∧ (after .loadWindow (head .loadWindow (load 23) act)).map (fun t => (t.windows[23]).state) = some .valid := by
  unfold HeadHolds; decide
/-- INVALIDATE's payload for pages `first` to `first + count - 1` of window `w`. -/
def pages (w first count : Nat) : List Word :=
  [packWord [(0, 2), (8, w)], packWord [(0, first), (32, count)]]
theorem witness_FenceStarts :
    (let s := head .invalidate (pages 1 63 1) act
     s.mgmtOrder = [2] ∧ (s.mgmt[2]).op = some (fenceOp .invalidate) ∧ (s.mgmt[2]).payload = pages 1 63 1
       ∧ PassesChecks s (pages 1 63 1) .invalidate (.pages 1 63 1) ∧ LowestFreeFence s 0 ∧ s.headWaiting = false)
    ∧ (let s := { head .retireWindow [1] act with headWaiting := true }
       s.mgmtOrder = [2] ∧ (s.mgmt[2]).op = some (fenceOp .retireWindow) ∧ (s.mgmt[2]).payload = [1]
         ∧ PassesChecks s [1] .retireWindow (.window 1) ∧ LowestFreeFence s 0) := by
  unfold PassesChecks LowestFreeFence; dsimp only; decide
theorem witness_FenceWaitsOrFails :
    (let s := { head .invalidate [0, 0] act with fences := Vector.replicate 4 { state := .waiting, remaining := 1 } }
     s.mgmtOrder = [2] ∧ (s.mgmt[2]).op = some (fenceOp .invalidate) ∧ (s.mgmt[2]).payload = [0, 0]
       ∧ s.headWaiting = false ∧ PassesChecks s [0, 0] .invalidate .all
       ∧ ∀ k : FenceId, (s.fences[k]).state ≠ .free)
    ∧ (let s := head .invalidate (pages 1 63 2) act
       s.headWaiting = false ∧ FailsChecks s (pages 1 63 2) .invalidate .badArgument)
    ∧ (let s := { head .retireWindow [23] act with headWaiting := true }
       FailsChecks s [23] .retireWindow .badState ∧ ∃ k : FenceId, (s.fences[k]).state = .free) := by
  unfold PassesChecks FailsChecks; dsimp only; decide
/-- CONFIGURE_REQUESTER's payload for requester `r`. -/
def settings (r : Nat) : List Word :=
  [packWord [(0, r), (8, 32), (16, 15), (24, 15), (32, 2), (36, 2)], 65535]
theorem witness_ConfigureEnableResume :
    HeadHolds (head .configureRequester (settings 15) act) 2 [] .configureRequester (settings 15)
      ∧ field (payloadWord (settings 15) 0) 0 5 = 15 ∧ field (payloadWord (settings 16) 0) 0 5 = 16
      ∧ (act.contexts[15]).state = .off ∧ (act.contexts[1]).state = .active
      ∧ (after .configureRequester (head .configureRequester (settings 15) act)).map
          (fun t => (t.contexts[15]).timeout) = some 65535
      ∧ (after .configureRequester (head .configureRequester (settings 1) act)).map (fun t => (t.mgmt[2]).reply)
          = some [1]
      ∧ HeadHolds (head .enableRequester [15] act) 2 [] .enableRequester [15]
      ∧ HeadHolds (head .resumeRequester [15] (setContext 15 { state := .stopped } act)) 2 [] .resumeRequester [15]
      ∧ ((setContext 15 { state := .stopped } act).contexts[15]).state = .stopped := by
  unfold HeadHolds; decide
theorem witness_QuiesceRequester :
    HeadHolds (head .quiesceRequester [1] act) 2 [] .quiesceRequester [1] ∧ field (payloadWord [1] 0) 0 5 = 1
      ∧ field (payloadWord [16] 0) 0 5 = 16 ∧ (act.contexts[1]).state = .active ∧ (act.contexts[1]).outstanding = 0
      ∧ (act.contexts[2]).state = .off
      ∧ ((setContext 1 { state := .draining, outstanding := 1 } act).contexts[1]).state = .draining
      ∧ 0 < ((setContext 1 { state := .stopped, outstanding := 1 } act).contexts[1]).outstanding := by
  unfold HeadHolds; decide
theorem witness_SettingCommands :
    HeadHolds (head .setTiming [packWord [(0, 4), (8, 15), (16, 15), (32, 1)], 65535] act) 2 [] .setTiming
        [packWord [(0, 4), (8, 15), (16, 15), (32, 1)], 65535]
      ∧ timingGood (timingFields [packWord [(0, 4), (8, 15), (16, 15), (32, 1)], 65535]) = true
      ∧ timingGood (timingFields [packWord [(0, 5), (8, 15), (16, 15), (32, 1)], 65535]) = false
      ∧ HeadHolds (head .setArbiter [8] act) 2 [] .setArbiter [8] ∧ field (payloadWord [8] 0) 0 4 = 8
      ∧ field (payloadWord [9] 0) 0 4 = 9
      ∧ HeadHolds (head .moveAperture [0x3FFFFFFFF0000] act) 2 [] .moveAperture [0x3FFFFFFFF0000]
      ∧ (0x3FFFFFFFF0000 : Word).toNat % 0x10000 = 0 ∧ (0x3FFFFFFFF0000 : Word).toNat < 2 ^ 50
      ∧ 2 ^ 50 ≤ (0x4000000000000 : Word).toNat := by
  unfold HeadHolds; decide
theorem witness_AlertCommands :
    HeadHolds (head .setAlert [0x3FFFFFFFFFFF0, 1] act) 2 [] .setAlert [0x3FFFFFFFFFFF0, 1]
      ∧ (0x3FFFFFFFFFFF0 : Word).toNat % 8 = 0 ∧ (0x3FFFFFFFFFFF0 : Word).toNat + 16 ≤ 2 ^ 50
      ∧ field (payloadWord [0x3FFFFFFFFFFF0, 1] 1) 0 2 ≤ 1 ∧ 1 < field (payloadWord [0, 2] 1) 0 2
      ∧ HeadHolds (head .ackAlert [0] act) 2 [] .ackAlert [0] := by
  unfold HeadHolds; decide
theorem witness_ClearCommands :
    HeadHolds (head .clearCounters [0x100] act) 2 [] .clearCounters [0x100]
      ∧ (payloadWord [0x100] 0).getLsbD 8 = true ∧ (payloadWord [17] 0).getLsbD 8 = false
      ∧ field (payloadWord [17] 0) 0 5 = 2 + 15 ∧ field (payloadWord [18] 0) 0 5 = 18
      ∧ field (payloadWord [0] 0) 0 5 = 0 ∧ field (payloadWord [1] 0) 0 5 = 1
      ∧ HeadHolds (head .clearFaults [0] act) 2 [] .clearFaults [0] := by
  unfold HeadHolds; decide
theorem witness_QueriesAnswerAtExecution :
    HeadHolds (head (.window 23) [] act) 2 [] (.window 23) []
      ∧ HeadHolds (head (.requester 15) [] act) 2 [] (.requester 15) []
      ∧ HeadHolds (head (.counters 0) [] act) 2 [] (.counters 0) []
      ∧ HeadHolds (head (.counters 1) [] act) 2 [] (.counters 1) []
      ∧ HeadHolds (head (.counters 17) [] act) 2 [] (.counters 17) []
      ∧ HeadHolds (head .fault [] act) 2 [] .fault [] ∧ HeadHolds (head .time [] act) 2 [] .time []
      ∧ HeadHolds (head .fences [] act) 2 [] .fences [] ∧ HeadHolds (head .status [] act) 2 [] .status [] := by
  unfold HeadHolds; decide
theorem witness_StatusAndFencesReport :
    CapacityLaw act ∧ PlaceLaw act ∧ MarkLaw act
      ∧ statusWords act = [0x0000000000000040, 0x0000000000000102, 0x00003F0000000000, 0] := by
  unfold CapacityLaw PlaceLaw MarkLaw; decide
theorem witness_StorageUpsetFoundAtLookup :
    let s := intake rd (cached { read := true } true act)
    PlaceLaw s ∧ CacheLaw s ∧ Admissible s rd [] 0 1 1 ∧ (s.windows[1]).mode = some .mapped
      ∧ (acceptedAs s rd 1 1).page = 1 ∧ ⟨1, 1, 2, { read := true }, true⟩ ∈ s.cache ∧ Uncovered s 1 1
      ∧ LowestFreeWalk s 0 ∧ s.backlog = [] := by
  unfold PlaceLaw CacheLaw Uncovered LowestFreeWalk covers Window.mappedValid Admissible Takeable PassesSix
    TagTaken Matches
  dsimp only
  decide
theorem witness_WordCheckFollowsItsTable :
    reservedClear 8 = false ∧ reservedClear 0 = true ∧ checkByteMatches 0 = false
      ∧ checkByteMatches 0xA500000000000000 = true := by decide
theorem witness_ReplyReadsBack :
    mapped1.legal ∧ direct0.legal ∧ (act.contexts[1]).legal ∧ (act.contexts[1]).outstanding ≤ 32
      ∧ ({ kind := .upstreamReset, detail := 63 } : FaultRecord).detail ≤ 63
      ∧ (List.replicate 64 (0 : Word)).length ≤ 127 := by
  refine ⟨?_, ?_, ?_, ?_, ?_, ?_⟩
  · exact ⟨by decide, by decide, by decide, by decide, by decide, by decide, by decide, by decide⟩
  · exact ⟨by decide, by decide, by decide, by decide, by decide, by decide, by decide, by decide⟩
  · unfold Context.legal; decide
  · decide
  · decide
  · decide
/-! ### Invariants: a state with work under way that meets every law, and a step from it -/

/-- Entry 3 is ISSUED for requester 1 and a tick is next. -/
def running : State :=
  { act |> setEntry 3 (entry .issued) |> setContext 1 { state := .active, outstanding := 1 } with
    pending := [.tick] }
theorem witness_running_steps : (match step running with | .next t => t.now | _ => 0) = 1 := by decide
theorem witness_RangesKept : CapacityLaw running ∧ ArbiterLaw running ∧ SettingsLaw running := by
  unfold CapacityLaw ArbiterLaw SettingsLaw Context.legal Timing.legal; decide
theorem witness_OutstandingCountsKept : CountLaw running := by unfold CountLaw; decide
theorem witness_MarksKept : MarkLaw running := by unfold MarkLaw; decide
theorem witness_WindowsKept : WindowLaw running := by
  have h : ∀ w : WinId, (running.windows[w]).state ≠ .free → w = 0 ∨ w = 1 := by decide
  refine ⟨fun w hw => ?_, by decide⟩
  rcases h w hw with rfl | rfl
  · exact ⟨by decide, by decide, by decide, by decide, by decide, by decide, by decide, by decide⟩
  · exact ⟨by decide, by decide, by decide, by decide, by decide, by decide, by decide, by decide⟩
theorem witness_RetirementsKept : RetireLaw running := by unfold RetireLaw retires; decide
theorem witness_TagsKept : TagLaw running := by
  have h : ∀ i : EntryId, (running.entries[i]).state.counted = true → i = 3 := by decide
  intro i j hij hi hj
  exact absurd ((h i hi).trans (h j hj).symm) hij
theorem witness_CacheAndWalksKept : CacheLaw running := by
  unfold CacheLaw covers Window.mappedValid; decide
theorem witness_PlacesKept : PlaceLaw running := by unfold PlaceLaw; decide
theorem witness_OwnListAndBacklogKept : OwnListLaw running ∧ BacklogLaw running := by
  unfold OwnListLaw BacklogLaw; decide
theorem witness_ManagementSlotsKept : MgmtLaw running := by
  refine ⟨by decide, by decide, by decide, by decide, by decide, by decide, by decide, by decide, by decide, ?_⟩
  intro h; exact absurd h (by decide)
theorem witness_EntryFieldsKept : FreeLaw running ∧ EntryLaw running := by
  have h : ∀ i : EntryId, (running.entries[i]).state ≠ .free → i = 3 := by decide
  refine ⟨by unfold FreeLaw; decide, fun i hi => ?_⟩
  obtain rfl := h i hi
  show Entry.legal (entry .issued)
  unfold Entry.legal; decide
theorem witness_DownPortsStayClear :
    FreeLaw State.reset ∧ UpstreamDownLaw State.reset ∧ DownstreamDownLaw State.reset := by
  unfold FreeLaw UpstreamDownLaw DownstreamDownLaw; decide
theorem witness_AlertNeverMissed : AlertLaw running := by unfold AlertLaw; decide

end Witnesses

end Sys2Proof.Tests
end

section
/-! SUPPORT. What the work inside a happening leaves as it is: the window table, the retirements that fences carry,
and the law of the Map Cache and the walks. -/

namespace Sys2Proof.Machine

/-! ### Work that installs nothing -/

/-- Every window that is not FREE has a mode, as the law of windows says (R1). -/
def ModesKnown (s : State) : Prop :=
  ∀ w : WinId, (s.windows[w]).state ≠ .free → (s.windows[w]).mode ≠ none

/-- The fence slots carry the same commands and scopes. -/
def SameFences (s t : State) : Prop :=
  ∀ k : FenceId, (t.fences[k]).state = (s.fences[k]).state ∧ (t.fences[k]).command = (s.fences[k]).command
    ∧ (t.fences[k]).scope = (s.fences[k]).scope

/-- Work inside a happening: windows and retirements stay, and the cache law is kept. -/
structure Inside (s t : State) : Prop where
  windows : t.windows = s.windows
  fences : SameFences s t
  law : ModesKnown s → CacheLaw s → CacheLaw t

/-- Work inside a happening that looks at no page-map word: it installs nothing and counts no mismatch. -/
structure NoInstall (s t : State) : Prop extends Inside s t where
  cache : ∀ c ∈ t.cache, c ∈ s.cache
  mismatches : t.counter mapCheckMismatches = s.counter mapCheckMismatches

theorem SameFences.of_eq {s t : State} (h : t.fences = s.fences) : SameFences s t := fun k => by
  rw [h]; exact ⟨rfl, rfl, rfl⟩

theorem SameFences.trans {s t u : State} (h : SameFences s t) (h' : SameFences t u) : SameFences s u := fun k =>
  ⟨(h' k).1.trans (h k).1, (h' k).2.1.trans (h k).2.1, (h' k).2.2.trans (h k).2.2⟩

theorem ModesKnown.of_windows {s t : State} (h : t.windows = s.windows) (hm : ModesKnown s) : ModesKnown t := by
  intro w; rw [h]; exact hm w

theorem Inside.trans {s t u : State} (h : Inside s t) (h' : Inside t u) : Inside s u where
  windows := h'.windows.trans h.windows
  fences := h.fences.trans h'.fences
  law hm hc := h'.law (hm.of_windows h.windows) (h.law hm hc)

theorem NoInstall.trans {s t u : State} (h : NoInstall s t) (h' : NoInstall t u) : NoInstall s u where
  toInside := h.toInside.trans h'.toInside
  cache c hc := h.cache c (h'.cache c hc)
  mismatches := h'.mismatches.trans h.mismatches

/-- Two cache entries are for different pages (R20). -/
abbrev CacheEntry.Apart (a b : CacheEntry) : Prop :=
  ¬(a.window = b.window ∧ a.page = b.page)

/-- The law of the Map Cache passes to a state with no new page in the cache and no new walk that covers, whose
windows stay VALID and MAPPED where one of these needs it. -/
theorem CacheLaw.mono {s t : State}
    (hp : s.cache.Pairwise CacheEntry.Apart → t.cache.Pairwise CacheEntry.Apart)
    (hc : ∀ c ∈ t.cache, (∃ d ∈ s.cache, d.window = c.window ∧ d.page = c.page)
      ∧ ((s.windows[c.window]).mappedValid → (t.windows[c.window]).mappedValid))
    (hk : ∀ k : WalkId, covers t k →
      covers s k ∧ (t.walks[k]).window = (s.walks[k]).window ∧ (t.walks[k]).page = (s.walks[k]).page
        ∧ ((s.windows[(s.walks[k]).window]).mappedValid → (t.windows[(s.walks[k]).window]).mappedValid))
    (h : CacheLaw s) : CacheLaw t := by
  obtain ⟨h1, h2, h3, h4⟩ := h
  refine ⟨hp h1, fun c hmem => ?_, fun k hcov => ?_, fun j k hjk hj hk' => ?_⟩
  · obtain ⟨⟨d, hd, hw, -⟩, hv⟩ := hc c hmem
    refine hv ?_
    simp only [← hw]; exact h2 d hd
  · obtain ⟨hcov', hw, hpg, hv⟩ := hk k hcov
    simp only [hw, hpg]
    refine ⟨hv (h3 k hcov').1, fun c hmem => ?_⟩
    obtain ⟨⟨d, hd, hdw, hdp⟩, -⟩ := hc c hmem
    rw [← hdw, ← hdp]; exact (h3 k hcov').2 d hd
  · obtain ⟨hcj, hwj, hpj, -⟩ := hk j hj
    obtain ⟨hck, hwk, hpk, -⟩ := hk k hk'
    rw [hwj, hpj, hwk, hpk]; exact h4 j k hjk hcj hck

/-- The law of the Map Cache passes to a state with the same windows and no new page. -/
theorem CacheLaw.of_windows {s t : State} (hwin : t.windows = s.windows)
    (hp : s.cache.Pairwise CacheEntry.Apart → t.cache.Pairwise CacheEntry.Apart)
    (hc : ∀ c ∈ t.cache, ∃ d ∈ s.cache, d.window = c.window ∧ d.page = c.page)
    (hk : ∀ k : WalkId, covers t k →
      covers s k ∧ (t.walks[k]).window = (s.walks[k]).window ∧ (t.walks[k]).page = (s.walks[k]).page) :
    CacheLaw s → CacheLaw t :=
  .mono hp (fun c h => ⟨hc c h, by rw [hwin]; exact id⟩) fun k h =>
    ⟨(hk k h).1, (hk k h).2.1, (hk k h).2.2, by rw [hwin]; exact id⟩

/-- A state that differs in no window, fence or cache entry, and by no new walk that covers. -/
theorem Inside.of_walks {s t : State} (hwin : t.windows = s.windows) (hf : t.fences = s.fences)
    (hc : t.cache = s.cache)
    (hk : ∀ k : WalkId, covers t k →
      covers s k ∧ (t.walks[k]).window = (s.walks[k]).window ∧ (t.walks[k]).page = (s.walks[k]).page) :
    Inside s t where
  windows := hwin
  fences := .of_eq hf
  law _ := .of_windows hwin (by rw [hc]; exact id) (by rw [hc]; exact fun c h => ⟨c, h, rfl, rfl⟩) hk

/-- A state that differs in no window, fence, cache entry or walk. -/
theorem Inside.of_same {s t : State} (hwin : t.windows = s.windows) (hf : t.fences = s.fences)
    (hc : t.cache = s.cache) (hk : t.walks = s.walks) : Inside s t :=
  .of_walks hwin hf hc fun k => by rw [covers, covers, hk]; exact fun h => ⟨h, rfl, rfl⟩

/-- A state that differs in no window, fence, cache entry, mismatch count or covering walk. -/
theorem NoInstall.of_walks {s t : State} (hwin : t.windows = s.windows) (hf : t.fences = s.fences)
    (hc : t.cache = s.cache) (hctr : t.translationCtrs[6] = s.translationCtrs[6])
    (hk : ∀ k : WalkId, covers t k →
      covers s k ∧ (t.walks[k]).window = (s.walks[k]).window ∧ (t.walks[k]).page = (s.walks[k]).page) :
    NoInstall s t where
  toInside := .of_walks hwin hf hc hk
  cache := by rw [hc]; exact fun _ => id
  mismatches := hctr

/-- A state that differs in no window, fence, cache entry, mismatch count or walk. -/
theorem NoInstall.of_same {s t : State} (hwin : t.windows = s.windows) (hf : t.fences = s.fences)
    (hc : t.cache = s.cache) (hctr : t.translationCtrs[6] = s.translationCtrs[6]) (hk : t.walks = s.walks) :
    NoInstall s t :=
  .of_walks hwin hf hc hctr fun k => by rw [covers, covers, hk]; exact fun h => ⟨h, rfl, rfl⟩

theorem NoInstall.refl (s : State) : NoInstall s s := .of_same rfl rfl rfl rfl rfl

theorem NoInstall.foldl {α : Type} {f : State → α → State} (hf : ∀ t x, NoInstall t (f t x)) (l : List α)
    (s : State) : NoInstall s (l.foldl f s) := by
  induction l generalizing s with
  | nil => exact .refl s
  | cons x l ih => exact (hf s x).trans (ih _)

/-! ### Records, stops, marks and answers -/

theorem Inside.bump (c : Counter) (s : State) : Inside s (bump c s) :=
  .of_same (bump_windows c s) (bump_fences c s) (bump_cache c s) (bump_walks c s)

theorem NoInstall.bump {c : Counter} (hc : c ≠ mapCheckMismatches) (s : State) : NoInstall s (bump c s) where
  toInside := .bump c s
  cache := by rw [bump_cache]; exact fun _ => id
  mismatches := by rw [counter_bump, if_neg (Ne.symm hc)]

theorem NoInstall.offerRecord (r : FaultRecord) (s : State) : NoInstall s (offerRecord r s) :=
  .of_same (by simp) (by simp) (by simp) (by simp) (by simp)

theorem NoInstall.applyStop (f : FaultKind) (r : ReqId) (s : State) : NoInstall s (applyStop f r s) :=
  .of_same (by simp) (by simp) (by simp) (by simp) (by simp)

theorem NoInstall.stopAll (f : FaultKind) (rs : List ReqId) (s : State) : NoInstall s (stopAll f rs s) :=
  .foldl (fun t r => .applyStop f r t) _ s

theorem NoInstall.setEntry (i : EntryId) (e : Entry) (s : State) : NoInstall s (setEntry i e s) :=
  .of_same rfl rfl rfl rfl rfl

theorem NoInstall.dropMarks (i : EntryId) (s : State) : NoInstall s (dropMarks i s) where
  windows := rfl
  fences k := by rw [dropMarks_fence]; exact ⟨rfl, rfl, rfl⟩
  law _ h := h
  cache _ h := h
  mismatches := rfl

theorem leavePlaces_walk (i : EntryId) (k : WalkId) (s : State) :
    (leavePlaces i s).walks[k] = { s.walks[k] with waiters := (s.walks[k]).waiters.filter (· ≠ i) } := by
  simp [leavePlaces]

theorem NoInstall.leavePlaces (i : EntryId) (s : State) : NoInstall s (leavePlaces i s) :=
  .of_walks rfl rfl rfl rfl fun k => by
    rw [covers, covers, leavePlaces_walk]; exact fun h => ⟨h, rfl, rfl⟩

theorem NoInstall.answerEntry (i : EntryId) (a : Answer) (o : Bool) (s : State) :
    NoInstall s (answerEntry i a o s) := by
  unfold Machine.answerEntry
  simp only
  split
  · exact ((NoInstall.dropMarks i s).trans (.leavePlaces i _)).trans (.of_same rfl rfl rfl rfl rfl)
  · exact .refl s

theorem NoInstall.answerAll (is : List EntryId) (st : Status) (s : State) : NoInstall s (answerAll is st s) :=
  .foldl (fun t i => .answerEntry i _ _ t) is s

theorem NoInstall.freeEntry (i : EntryId) (s : State) : NoInstall s (freeEntry i s) :=
  (NoInstall.dropMarks i s).trans (.setEntry i _ _)

theorem NoInstall.queueEntry (i : EntryId) (a : HAddr) (s : State) : NoInstall s (queueEntry i a s) :=
  .of_same (by simp) (by simp) (by simp) (by simp) (by simp)

theorem NoInstall.denyEntry (i : EntryId) (w : WinId) (s : State) : NoInstall s (denyEntry i w s) :=
  ((NoInstall.offerRecord _ s).trans (.answerEntry i _ _ _)).trans (.applyStop _ _ _)

theorem NoInstall.takeFrame (i : EntryId) (w : WinId) (r : Rights) (f : BitVec 36) (s : State) :
    NoInstall s (takeFrame i w r f s) := by
  unfold Machine.takeFrame
  simp only
  split
  · exact .queueEntry i _ s
  · exact .denyEntry i w s

/-! ### The Map Cache at a lookup (R20 to R22) -/

/-- The search of the cache finds an entry of the cache for the page (R21). -/
theorem find?_cacheKey {l : List CacheEntry} {w : WinId} {p : Nat} {c : CacheEntry}
    (h : l.find? (cacheKey w p) = some c) : c ∈ l ∧ c.window = w ∧ c.page = p := by
  have hk := List.find?_some h
  simp only [cacheKey, Bool.and_eq_true, decide_eq_true_eq] at hk
  exact ⟨List.mem_of_find?_eq_some h, hk⟩

/-- The search of the cache finds nothing exactly when the page is not cached (R21). -/
theorem find?_cacheKey_none {s : State} {w : WinId} {p : Nat} :
    s.cache.find? (cacheKey w p) = none ↔ Uncached s w p := by
  simp [List.find?_eq_none, cacheKey, Uncached]

/-- A page's entries removed, the page is not cached (R22). -/
theorem not_mem_filter_cacheKey {l : List CacheEntry} {w : WinId} {p : Nat} {c : CacheEntry}
    (h : c ∈ l.filter fun x => !cacheKey w p x) : c ∈ l ∧ ¬(c.window = w ∧ c.page = p) := by
  simpa [cacheKey, imp_iff_not_or] using h

/-- A hit moves its entry to the front; the pages of the cache stay apart (R20). -/
theorem pairwise_moved {l : List CacheEntry} {w : WinId} {p : Nat} {c : CacheEntry} (hw : c.window = w)
    (hp : c.page = p) (h : l.Pairwise CacheEntry.Apart) :
    (c :: l.filter fun x => !cacheKey w p x).Pairwise CacheEntry.Apart := by
  refine List.pairwise_cons.mpr ⟨fun d hd => ?_, h.filter _⟩
  have := (not_mem_filter_cacheKey hd).2
  rw [CacheEntry.Apart, hw, hp]
  exact fun e => this ⟨e.1.symm, e.2.symm⟩

/-- A change of the Map Cache alone, to entries that it had. -/
theorem NoInstall.of_cache {s : State} {l : List CacheEntry} (hc : ∀ c ∈ l, c ∈ s.cache)
    (hp : s.cache.Pairwise CacheEntry.Apart → l.Pairwise CacheEntry.Apart) : NoInstall s { s with cache := l } where
  windows := rfl
  fences := .of_eq rfl
  law _ := .of_windows rfl hp (fun c h => ⟨c, hc c h, rfl, rfl⟩) fun _ h => ⟨h, rfl, rfl⟩
  cache := hc
  mismatches := rfl

theorem NoInstall.cacheHit {i : EntryId} {w : WinId} {p : Nat} {c : CacheEntry} {s : State}
    (h : s.cache.find? (cacheKey w p) = some c) : NoInstall s (cacheHit i w p c s) := by
  obtain ⟨hc, hw, hp⟩ := find?_cacheKey h
  have moved : NoInstall s { s with cache := c :: s.cache.filter fun x => !cacheKey w p x } := by
    refine .of_cache (fun d hd => ?_) (pairwise_moved hw hp)
    rcases List.mem_cons.mp hd with rfl | hd
    · exact hc
    · exact (not_mem_filter_cacheKey hd).1
  exact (moved.trans (.bump (by decide) _)).trans (.takeFrame ..)

theorem NoInstall.storageUpsetFound (i : EntryId) (w : WinId) (p : Nat) (s : State) :
    NoInstall s (storageUpsetFound i w p s) := by
  have removed : NoInstall s { s with cache := s.cache.filter fun x => !cacheKey w p x } :=
    .of_cache (fun d hd => (not_mem_filter_cacheKey hd).1) (fun h => h.filter _)
  exact (removed.trans (.bump (by decide) _)).trans (.offerRecord ..)

theorem storageUpsetFound_uncached (i : EntryId) (w : WinId) (p : Nat) (s : State) :
    Uncached (storageUpsetFound i w p s) w p := by
  intro c hc
  simp only [storageUpsetFound, offerRecord_cache, bump_cache] at hc
  exact (not_mem_filter_cacheKey hc).2

/-! ### Translation (R18, R26) -/

/-- What a meaning of a miss keeps: it may count on the page's window and on the page not being cached. -/
def MissKeeps (miss : EntryId → WinId → Nat → State → State) : Prop :=
  ∀ (i : EntryId) (w : WinId) (p : Nat) (t : State), Uncached t w p →
    (ModesKnown t → (t.windows[w]).mappedValid) → NoInstall t (miss i w p t)

theorem NoInstall.lookup {miss : EntryId → WinId → Nat → State → State} (hm : MissKeeps miss) {i : EntryId}
    {w : WinId} {p : Nat} {s : State} (hw : ModesKnown s → (s.windows[w]).mappedValid) :
    NoInstall s (lookup miss i w p s) := by
  have missed {t : State} (ht : NoInstall s t) (hu : Uncached t w p) :
      NoInstall s (miss i w p (Machine.bump cacheMisses t)) := by
    refine (ht.trans (.bump (by decide) _)).trans (hm i w p _ ?_ fun hk => ?_)
    · simpa only [Uncached, bump_cache] using hu
    · rw [bump_windows, ht.windows]
      exact hw (hk.of_windows (by rw [bump_windows, ht.windows]))
  unfold Machine.lookup
  split
  next h => exact missed (.refl s) (find?_cacheKey_none.mp h)
  next c h =>
    split
    · exact missed (.storageUpsetFound i w p s) (storageUpsetFound_uncached i w p s)
    · exact .cacheHit h

theorem NoInstall.translateIn {miss : EntryId → WinId → Nat → State → State} (hm : MissKeeps miss)
    {i : EntryId} {w : WinId} {s : State} (hw : (s.windows[w]).state = .valid) :
    NoInstall s (translateIn miss i w s) := by
  unfold Machine.translateIn
  simp only
  split
  · exact (NoInstall.setEntry i _ s).trans (.queueEntry i _ _)
  next hd =>
    refine (NoInstall.setEntry i _ s).trans (.lookup hm fun hk => ⟨hw, ?_⟩)
    have hmode := hk w (by simp only [setEntry_windows, hw]; decide)
    simp only [setEntry_windows] at hmode ⊢
    match hx : (s.windows[w]).mode with
    | none => exact absurd hx hmode
    | some .direct => exact absurd hx hd
    | some .mapped => rfl

theorem NoInstall.retranslateWith {miss : EntryId → WinId → Nat → State → State} (hm : MissKeeps miss)
    (i : EntryId) (s : State) : NoInstall s (retranslateWith miss i s) := by
  unfold Machine.retranslateWith
  simp only
  split
  · split
    · exact .answerEntry ..
    next w hw =>
      split
      · exact .answerEntry ..
      next hr =>
        split
        · refine .translateIn hm ?_
          have hmatch := matchWindow_some hw
          simp only [Window.matches, Bool.and_eq_true, decide_eq_true_eq] at hmatch
          obtain ⟨⟨⟨hfree, -⟩, -⟩, -⟩ := hmatch
          match hx : (s.windows[w]).state with
          | .free => exact absurd hx hfree
          | .retiring => exact absurd hx hr
          | .valid => rfl
        · exact .denyEntry ..
  · exact .refl s

/-- A table after a write, read at any place. -/
theorem set_getElem {α : Type} {n : Nat} (v : Vector α n) (i j : Fin n) (x : α) :
    (v.set i x)[j] = if j = i then x else v[j] := by
  by_cases h : j = i
  · subst h; simp
  · have h' : ¬i.val = j.val := fun e => h (Fin.ext e.symm)
    simp [h, h']

/-- A write to one walk slot that covers no other page than before, if any. -/
theorem NoInstall.of_set {s t : State} {k : WalkId} {x : WalkSlot} (hwin : t.windows = s.windows)
    (hf : t.fences = s.fences) (hc : t.cache = s.cache) (hctr : t.translationCtrs[6] = s.translationCtrs[6])
    (hw : t.walks = s.walks.set k x)
    (h : x.state.underWay = true → x.stale = false →
      covers s k ∧ x.window = (s.walks[k]).window ∧ x.page = (s.walks[k]).page) : NoInstall s t :=
  .of_walks hwin hf hc hctr fun j => by
    rw [covers, hw, set_getElem]
    by_cases hj : j = k
    · subst hj; rw [if_pos rfl]; exact fun hc => h hc.1 hc.2
    · rw [if_neg hj]; exact fun hc => ⟨hc, rfl, rfl⟩

theorem NoInstall.joinWalk (k : WalkId) (i : EntryId) (s : State) : NoInstall s (joinWalk k i s) :=
  .of_set rfl rfl rfl rfl rfl fun h1 h2 => ⟨⟨h1, h2⟩, rfl, rfl⟩

/-- No walk is found that covers the page exactly when none does (R25). -/
theorem coveringWalk_none {s : State} {w : WinId} {p : Nat} : coveringWalk s w p = none ↔ Uncovered s w p := by
  simp only [coveringWalk, List.find?_eq_none, List.mem_finRange, true_implies, Uncovered, covers,
    Bool.and_eq_true, Bool.not_eq_true', decide_eq_true_eq]
  exact ⟨fun h k hc he => h k ⟨⟨hc, he.1⟩, he.2⟩, fun h k hc => h k hc.1.1 ⟨hc.1.2, hc.2⟩⟩

/-- A walk starts for a page that is neither cached nor covered (R26). -/
theorem NoInstall.startWalk {k : WalkId} {i : EntryId} {w : WinId} {p : Nat} {s : State} (hu : Uncached s w p)
    (hw : ModesKnown s → (s.windows[w]).mappedValid) (hc : Uncovered s w p) : NoInstall s (startWalk k i w p s) where
  windows := rfl
  fences := .of_eq rfl
  cache _ h := h
  mismatches := rfl
  law hk h := by
    obtain ⟨h1, h2, h3, h4⟩ := h
    have old {j : WalkId} (hj : j ≠ k) : (Machine.startWalk k i w p s).walks[j] = s.walks[j] := by
      simp only [Machine.startWalk, setWalk_walks, set_getElem, if_neg hj]
    have new : ((Machine.startWalk k i w p s).walks[k]).window = w
        ∧ ((Machine.startWalk k i w p s).walks[k]).page = p := by
      simp only [Machine.startWalk, setWalk_walks, set_getElem, if_true, and_self]
    have same {j : WalkId} (hj : j ≠ k) (hcov : covers (Machine.startWalk k i w p s) j) : covers s j := by
      simpa only [covers, old hj] using hcov
    refine ⟨h1, h2, fun j hcov => ?_, fun a b hab ha hb he => ?_⟩
    · by_cases hj : j = k
      · subst hj; simp only [new.1, new.2]; exact ⟨hw hk, hu⟩
      · simp only [old hj]; exact h3 j (same hj hcov)
    · by_cases hak : a = k
      · subst hak
        have hb' := Ne.symm hab
        rw [new.1, new.2, old hb'] at he
        exact hc b (same hb' hb) ⟨he.1.symm, he.2.symm⟩
      · by_cases hbk : b = k
        · subst hbk
          rw [new.1, new.2, old hak] at he
          exact hc a (same hak ha) he
        · rw [old hak, old hbk] at he
          exact h4 a b hab (same hak ha) (same hbk hb) he

theorem NoInstall.goToWalk (n : Nat) : MissKeeps (goToWalk n) := by
  have joinBacklog (i : EntryId) (t : State) : NoInstall t { t with backlog := t.backlog ++ [i] } :=
    .of_same rfl rfl rfl rfl rfl
  induction n with
  | zero =>
    intro i w p t _ _
    unfold Machine.goToWalk
    split
    · exact .joinWalk ..
    · exact joinBacklog i t
  | succ n ih =>
    intro i w p t hu hw
    unfold Machine.goToWalk
    split
    · exact .joinWalk ..
    next hc =>
      split
      · exact joinBacklog i t
      next k _ =>
        simp only
        have taken (u : State) (l : List EntryId) : NoInstall u { u with backlog := l } :=
          .of_same rfl rfl rfl rfl rfl
        exact ((NoInstall.startWalk (k := k) (i := i) hu hw (coveringWalk_none.mp hc)).trans (taken _ _)).trans
          (.foldl (fun t j => .retranslateWith ih j t) _ _)

theorem NoInstall.retranslate (i : EntryId) (s : State) : NoInstall s (retranslate i s) :=
  .retranslateWith (.goToWalk _) i s

theorem NoInstall.serveBacklog (k : WalkId) (s : State) : NoInstall s (serveBacklog k s) := by
  have steps (n : Nat) (t : State) : NoInstall t (serveSteps n k t) := by
    induction n generalizing t with
    | zero => exact .refl t
    | succ n ih =>
      unfold serveSteps
      split
      · split
        · exact .refl t
        next i rest _ =>
          exact ((NoInstall.of_same rfl rfl rfl rfl rfl : NoInstall t { t with backlog := rest }).trans
            (.retranslate i _)).trans (ih _)
      · exact .refl t
  exact steps _ s

/-! ### Walks (R32 to R39) -/

theorem NoInstall.freeWalk (k : WalkId) (s : State) : NoInstall s (freeWalk k s) :=
  .of_set rfl rfl rfl rfl rfl fun h => by simp [SlotState.underWay] at h

theorem NoInstall.abandonWalk (k : WalkId) (s : State) : NoInstall s (abandonWalk k s) :=
  .of_set rfl rfl rfl rfl rfl fun h => by simp [SlotState.underWay] at h

theorem NoInstall.failWalk (d : Nat) (b : Bool) (k : WalkId) (s : State) : NoInstall s (failWalk d b k s) := by
  have body := (((NoInstall.bump (c := walkFailures) (by decide) s).trans
    (.offerRecord (walkRecord .walkFailed d k s) _)).trans
    (.answerAll (s.walks[k]).waiters .unmapped _)).trans (.stopAll .walkFailed (waiterRequesters k s) _)
  unfold Machine.failWalk
  simp only
  split
  · exact body.trans (.abandonWalk k _)
  · exact (body.trans (.freeWalk k _)).trans (.serveBacklog k _)

theorem NoInstall.retryWalk {k : WalkId} {s : State} (h : (s.walks[k]).state = .issued) :
    NoInstall s (retryWalk k s) := by
  have hu : (s.walks[k]).state.underWay = true := by rw [h]; rfl
  unfold Machine.retryWalk
  simp only
  split
  · split
    · exact .of_set rfl rfl rfl rfl rfl fun _ h2 => ⟨⟨hu, h2⟩, rfl, rfl⟩
    · exact .of_set rfl rfl rfl rfl rfl fun _ h2 => ⟨⟨hu, h2⟩, rfl, rfl⟩
  · exact .failWalk ..

theorem NoInstall.releaseWalk {k : WalkId} {s : State} (h : (s.walks[k]).state = .retryWait) :
    NoInstall s (releaseWalk k s) := by
  have hu : (s.walks[k]).state.underWay = true := by rw [h]; rfl
  exact .of_set rfl rfl rfl rfl rfl fun _ h2 => ⟨⟨hu, h2⟩, rfl, rfl⟩

theorem NoInstall.finishStaleWalk (k : WalkId) (s : State) : NoInstall s (finishStaleWalk k s) :=
  ((NoInstall.freeWalk k s).trans (.foldl (fun t i => .retranslate i t) _ _)).trans (.serveBacklog k _)

theorem NoInstall.endAbandonedWalk {c : Counter} (hc : c ≠ mapCheckMismatches) (r : FaultRecord) (k : WalkId)
    (s : State) : NoInstall s (s |> Machine.bump c |> Machine.offerRecord r |> Machine.freeWalk k
      |> Machine.serveBacklog k) :=
  (((NoInstall.bump hc s).trans (.offerRecord r _)).trans (.freeWalk k _)).trans (.serveBacklog k _)

theorem Inside.checkRecords (k : WalkId) (word : Word) (s : State) : Inside s (checkRecords k word s) := by
  have counted : Inside s
      (if wordMismatches (s.windows[(s.walks[k]).window]).checkMode word then
        s |> Machine.bump mapCheckMismatches
          |> Machine.offerRecord
            (walkRecord .mapCheck (mapCheckDetail (s.windows[(s.walks[k]).window]).checkMode) k s)
      else s) := by
    split
    · exact (Inside.bump _ s).trans (NoInstall.offerRecord _ _).toInside
    · exact (NoInstall.refl s).toInside
  unfold Machine.checkRecords
  simp only
  split
  · exact counted.trans (NoInstall.offerRecord _ _).toInside
  · exact counted.trans (NoInstall.offerRecord _ _).toInside
  · exact counted
  · exact counted

/-- An install keeps the cache law when its walk, which covered the page, ends (R23, R32). -/
theorem Inside.install {k : WalkId} {word : Word} {s : State} (h : covers s k) :
    Inside s (freeWalk k (install (s.walks[k]).window (s.walks[k]).page word s)) where
  windows := rfl
  fences := .of_eq rfl
  law _ hl := by
    obtain ⟨h1, h2, h3, h4⟩ := hl
    have mem {c : CacheEntry} (hc : c ∈ (freeWalk k
        (Machine.install (s.walks[k]).window (s.walks[k]).page word s)).cache) :
        (c.window = (s.walks[k]).window ∧ c.page = (s.walks[k]).page) ∨ c ∈ s.cache := by
      rcases List.mem_cons.mp (List.mem_of_mem_take hc) with rfl | hc
      · exact .inl ⟨rfl, rfl⟩
      · exact .inr hc
    have old {j : WalkId} (hj : covers (freeWalk k
        (Machine.install (s.walks[k]).window (s.walks[k]).page word s)) j) : j ≠ k ∧ covers s j
        ∧ (freeWalk k (Machine.install (s.walks[k]).window (s.walks[k]).page word s)).walks[j]
          = s.walks[j] := by
      have hjk : j ≠ k := by
        rintro rfl
        simp [covers, Machine.freeWalk, SlotState.underWay] at hj
      have he : (freeWalk k (Machine.install (s.walks[k]).window (s.walks[k]).page word s)).walks[j]
          = s.walks[j] := by
        simp only [Machine.freeWalk, setWalk_walks, set_getElem, if_neg hjk, Machine.install]
      refine ⟨hjk, ?_, he⟩
      simpa only [covers, he] using hj
    refine ⟨?_, fun c hc => ?_, fun j hj => ?_, fun a b hab ha hb => ?_⟩
    · refine List.Pairwise.sublist (List.take_sublist _ _) (List.pairwise_cons.mpr ⟨fun c hc => ?_, h1⟩)
      exact fun e => (h3 k h).2 c hc ⟨e.1.symm, e.2.symm⟩
    · rcases mem hc with ⟨hw, -⟩ | hc
      · simp only [hw]; exact (h3 k h).1
      · exact h2 c hc
    · obtain ⟨hjk, hcov, he⟩ := old hj
      simp only [he]
      refine ⟨(h3 j hcov).1, fun c hc => ?_⟩
      rcases mem hc with ⟨hw, hp⟩ | hc
      · rw [hw, hp]; exact h4 k j (Ne.symm hjk) h hcov
      · exact (h3 j hcov).2 c hc
    · obtain ⟨-, hca, hea⟩ := old ha
      obtain ⟨-, hcb, heb⟩ := old hb
      rw [hea, heb]; exact h4 a b hab hca hcb

/-- The check's records leave the walk slots and the rest of what a walk's end reads. -/
theorem checkRecords_walks (k : WalkId) (word : Word) (s : State) : (checkRecords k word s).walks = s.walks := by
  unfold checkRecords
  simp only
  split <;> split <;> simp only [offerRecord_walks, bump_walks]

theorem Inside.finishWalk {k : WalkId} {word : Word} {s : State} (h : covers s k) :
    Inside s (finishWalk k word s) := by
  have checked := Inside.checkRecords k word s
  have hw := checkRecords_walks k word s
  unfold Machine.finishWalk
  simp only
  split
  · have installed := Inside.install (k := k) (word := word) (s := Machine.checkRecords k word s)
      (by simpa only [covers, hw] using h)
    rw [hw] at installed
    exact (checked.trans installed).trans
      ((NoInstall.foldl (fun t i => .takeFrame i _ _ _ t) _ _).trans (.serveBacklog k _)).toInside
  · exact checked.trans ((((NoInstall.freeWalk k _).trans (.answerAll _ _ _)).trans
      (.stopAll _ _ _)).trans (.serveBacklog k _)).toInside

end Sys2Proof.Machine
end

section
/-! SUPPORT. What a step can do to the windows, the fences, the Map Cache and the walks, and the three laws that it
keeps: of windows (R4), of retirements (R2, R122), and of the Map Cache and the walks (R20, R24, R26). -/

namespace Sys2Proof.Machine

/-- What happens between two states keeps the three laws. -/
structure KeepsLaws (s t : State) : Prop where
  window : WindowLaw s → WindowLaw t
  retire : RetireLaw s → RetireLaw t
  cache : WindowLaw s → CacheLaw s → CacheLaw t

theorem KeepsLaws.refl (s : State) : KeepsLaws s s := ⟨id, id, fun _ => id⟩

theorem KeepsLaws.trans {s t u : State} (h : KeepsLaws s t) (h' : KeepsLaws t u) : KeepsLaws s u where
  window hw := h'.window (h.window hw)
  retire hr := h'.retire (h.retire hr)
  cache hw hc := h'.cache (h.window hw) (h.cache hw hc)

theorem KeepsLaws.foldl {α : Type} {f : State → α → State} (hf : ∀ t x, KeepsLaws t (f t x)) (l : List α)
    (s : State) : KeepsLaws s (l.foldl f s) := by
  induction l generalizing s with
  | nil => exact .refl s
  | cons x l ih => exact (hf s x).trans (ih _)

/-- A legal window has a mode (R1). -/
theorem WindowLaw.modesKnown {s : State} (h : WindowLaw s) : ModesKnown s := by
  intro w hw hm
  obtain ⟨-, -, -, -, -, -, hmode⟩ := h.1 w hw
  simp only [hm] at hmode

theorem retires_iff_of_sameFences {s t : State} (h : SameFences s t) (k : FenceId) (w : WinId) :
    retires t k w ↔ retires s k w := by
  obtain ⟨h1, h2, h3⟩ := h k
  rw [retires, retires, h1, h2, h3]

theorem Inside.keeps {s t : State} (h : Inside s t) : KeepsLaws s t where
  window hw := by simpa only [WindowLaw, h.windows] using hw
  retire hr := by
    obtain ⟨r1, r2, r3⟩ := hr
    refine ⟨fun w hw => ?_, fun k => ?_, fun j k w => ?_⟩
    · rw [h.windows] at hw
      obtain ⟨k, hk⟩ := r1 w hw
      exact ⟨k, (retires_iff_of_sameFences h.fences k w).mpr hk⟩
    · rw [h.windows, (h.fences k).1, (h.fences k).2.1, (h.fences k).2.2]; exact r2 k
    · rw [retires_iff_of_sameFences h.fences, retires_iff_of_sameFences h.fences]; exact r3 j k w
  cache hw := h.law hw.modesKnown

theorem NoInstall.keeps {s t : State} (h : NoInstall s t) : KeepsLaws s t := h.toInside.keeps

/-- What a state with the same laws as another one keeps, the other one keeps. -/
theorem KeepsLaws.of_same {s t : State} (hwin : t.windows = s.windows) (hf : t.fences = s.fences)
    (hc : t.cache = s.cache) (hk : t.walks = s.walks) : KeepsLaws s t :=
  (Inside.of_same hwin hf hc hk).keeps

/-! ### Changes of windows -/

/-- The law of windows passes to a state whose windows differ in their states alone, none of which leaves
FREE. -/
theorem WindowLaw.of_states {s t : State}
    (h : ∀ w : WinId, ∃ x, t.windows[w] = { s.windows[w] with state := x }
      ∧ (x ≠ .free → (s.windows[w]).state ≠ .free)) (hs : WindowLaw s) : WindowLaw t := by
  refine ⟨fun w hw => ?_, fun v w hvw hv hw ho => ?_⟩
  · obtain ⟨x, he, hx⟩ := h w
    rw [he] at hw ⊢
    exact hs.1 w (hx hw)
  · obtain ⟨x, he, hx⟩ := h v
    obtain ⟨y, hf, hy⟩ := h w
    rw [he] at hv ho ⊢
    rw [hf] at hw ho ⊢
    exact hs.2 v w hvw (hx hv) (hy hw) ho

/-- With no RETIRING window and no WAITING fence there is nothing to retire. -/
theorem RetireLaw.of_none {t : State} (hw : ∀ w : WinId, (t.windows[w]).state ≠ .retiring)
    (hf : ∀ k : FenceId, (t.fences[k]).state = .free) : RetireLaw t := by
  have idle (k : FenceId) : (t.fences[k]).state ≠ .waiting := by rw [hf k]; decide
  exact ⟨fun w h => absurd h (hw w), fun k h => absurd h (idle k), fun j _ _ h => absurd h.1 (idle j)⟩

/-- An empty cache and no walk under way meet the law. -/
theorem CacheLaw.of_none {t : State} (hc : t.cache = []) (hk : ∀ k : WalkId, (t.walks[k]).state = .free) :
    CacheLaw t := by
  have idle (k : WalkId) : ¬covers t k := by
    rw [covers, hk k]; exact fun h => absurd h.1 (by decide)
  refine ⟨by simp [hc], by simp [hc], fun k h => absurd h (idle k), fun j _ _ h => absurd h (idle j)⟩

/-! ### The end of a fence (R120) -/

/-- The windows after the end of a fence: the one that it retires becomes FREE (R120). -/
def freedWindows (f : Fence) (ws : Vector Window 24) : Vector Window 24 :=
  Vector.ofFn fun w : Fin 24 =>
    if (ws[w]).state = .retiring ∧ f.command = some .retireWindow ∧ f.scope = some (.window w) then
      { ws[w] with state := .free }
    else ws[w]

theorem freedWindows_getElem (f : Fence) (ws : Vector Window 24) (w : WinId) :
    (freedWindows f ws)[w]
      = if (ws[w]).state = .retiring ∧ f.command = some .retireWindow ∧ f.scope = some (.window w) then
          { ws[w] with state := .free }
        else ws[w] := by
  simp [freedWindows]

/-- Two vectors with the same elements are the same. -/
theorem vector_ext {α : Type} {n : Nat} {v w : Vector α n} (h : ∀ i : Fin n, v[i] = w[i]) : v = w :=
  Vector.ext fun i hi => h ⟨i, hi⟩

/-- The end of a fence frees the window it retires, and changes nothing else (R120). -/
theorem freeRetired_eq (f : Fence) (s : State) : freeRetired f s = { s with windows := freedWindows f s.windows } := by
  have same (h : ∀ w : WinId, ¬((s.windows[w]).state = .retiring ∧ f.command = some .retireWindow
      ∧ f.scope = some (.window w))) : s = { s with windows := freedWindows f s.windows } := by
    have : freedWindows f s.windows = s.windows := vector_ext fun w => by rw [freedWindows_getElem, if_neg (h w)]
    rw [this]
  unfold freeRetired
  split
  next v hc hs =>
    split
    next hr =>
      have : freedWindows f s.windows = s.windows.set v { s.windows[v] with state := .free } := by
        refine vector_ext fun w => ?_
        rw [freedWindows_getElem, set_getElem]
        by_cases hw : w = v
        · subst hw; rw [if_pos rfl, if_pos ⟨hr, hc, hs⟩]
        · have : f.scope ≠ some (.window w) := by rw [hs]; simpa using Ne.symm hw
          rw [if_neg hw, if_neg fun h => this h.2.2]
      rw [this]; rfl
    next hr =>
      refine same fun w h => hr ?_
      have : v = w := by simpa [hs] using h.2.2
      rw [this]; exact h.1
  next hx => exact same fun w h => hx w h.2.1 h.2.2

theorem NoInstall.replyDone (m : Option MgmtId) (s : State) : NoInstall s (replyDone m s) := by
  cases m with
  | none => exact .refl s
  | some m => exact .of_same rfl rfl rfl rfl rfl

/-- The end of a WAITING fence keeps the laws: its window was the one it retired, and no other fence retires
that one (R120, R122). -/
theorem KeepsLaws.of_freed {k : FenceId} {s t : State} (hk : (s.fences[k]).state = .waiting)
    (hf : t.fences = s.fences.set k {}) (hw : t.windows = freedWindows s.fences[k] s.windows) (hc : t.cache = s.cache)
    (hl : t.walks = s.walks) : KeepsLaws s t where
  window := WindowLaw.of_states fun w => by
    rw [hw, freedWindows_getElem]
    split
    · exact ⟨.free, rfl, fun h => absurd rfl h⟩
    · exact ⟨(s.windows[w]).state, rfl, id⟩
  retire := by
    rintro ⟨r1, r2, r3⟩
    have other {j : FenceId} {w : WinId} : retires t j w ↔ j ≠ k ∧ retires s j w := by
      rw [retires, hf, set_getElem]
      by_cases hj : j = k
      · simp [hj]
      · simp [hj, retires]
    refine ⟨fun w hr => ?_, fun j hj hcmd => ?_, fun i j w hi hj => r3 i j w (other.mp hi).2 (other.mp hj).2⟩
    · rw [hw, freedWindows_getElem] at hr
      split at hr
      · cases hr
      next hn =>
        obtain ⟨j, hj⟩ := r1 w hr
        refine ⟨j, other.mpr ⟨?_, hj⟩⟩
        rintro rfl
        exact hn ⟨hr, hj.2⟩
    · by_cases hjk : j = k
      · rw [hf, set_getElem, if_pos hjk] at hj; cases hj
      · rw [hf, set_getElem, if_neg hjk] at hj hcmd ⊢
        obtain ⟨w, hs, hr⟩ := r2 j hj hcmd
        refine ⟨w, hs, ?_⟩
        rw [hw, freedWindows_getElem, if_neg]
        · exact hr
        · exact fun h => hjk (r3 j k w ⟨hj, hcmd, hs⟩ ⟨hk, h.2⟩)
  cache _ := by
    have valid (w : WinId) : (s.windows[w]).mappedValid → (t.windows[w]).mappedValid := by
      rw [hw, freedWindows_getElem]
      split
      next h => exact fun hv => absurd (hv.1.symm.trans h.1) (by decide)
      next => exact id
    refine CacheLaw.mono (by rw [hc]; exact id) ?_ ?_
    · rw [hc]; exact fun c h => ⟨⟨c, h, rfl, rfl⟩, valid _⟩
    · intro j
      rw [covers, covers, hl]
      exact fun h => ⟨h, rfl, rfl, valid _⟩

/-- What the end of a fence changes (R120). -/
theorem endFence_eq (k : FenceId) (s : State) :
    endFence k s = replyDone (s.fences[k]).awaiting
      { s with fences := s.fences.set k {}, windows := freedWindows s.fences[k] s.windows } := by
  unfold endFence
  simp only [freeRetired_eq]
  rfl

theorem KeepsLaws.endFence {k : FenceId} {s : State} (hk : (s.fences[k]).state = .waiting) :
    KeepsLaws s (endFence k s) := by
  have freed : KeepsLaws s { s with fences := s.fences.set k {}, windows := freedWindows s.fences[k] s.windows } :=
    .of_freed hk rfl rfl rfl rfl
  rw [endFence_eq]
  exact freed.trans (NoInstall.replyDone _ _).keeps

theorem KeepsLaws.endFences (before s : State) : KeepsLaws s (endFences before s) :=
  .foldl (fun t k => by
    split
    next h =>
      simp only [fenceEnds, Bool.and_eq_true, decide_eq_true_eq] at h
      exact .endFence h.1.1
    next => exact .refl t) _ s

/-! ### The close of a happening -/

theorem KeepsLaws.evalTrigger (s : State) : KeepsLaws s (evalTrigger s) :=
  .of_same (by simp) (by simp) (by simp) (by simp)

theorem KeepsLaws.conclude (before s : State) : KeepsLaws s (conclude before s) := by
  have reset (t : State) : KeepsLaws t (resetRotation before t) := by
    unfold resetRotation
    split
    · exact .of_same rfl rfl rfl rfl
    · exact .refl t
  unfold Machine.conclude
  simp only
  split
  · exact ((KeepsLaws.endFences before s).trans (.evalTrigger _)).trans (reset _)
  · exact (KeepsLaws.endFences before s).trans (reset _)

/-! ### Takings of the tick (R102) -/

theorem NoInstall.expireEntry (i : EntryId) (s : State) : NoInstall s (expireEntry i s) :=
  ((NoInstall.bump (c := timeouts) (by decide) s).trans (.offerRecord _ _)).trans (.answerEntry _ _ _ _)

theorem NoInstall.releaseEntry (i : EntryId) (s : State) : NoInstall s (releaseEntry i s) := by
  unfold Machine.releaseEntry
  simp only
  split
  · exact .expireEntry i s
  · split
    · exact .of_same rfl rfl rfl rfl rfl
    · exact ((NoInstall.dropMarks i s).trans (.setEntry i _ _)).trans (.retranslate i _)

theorem NoInstall.reclaimEntry (i : EntryId) (s : State) : NoInstall s (reclaimEntry i s) :=
  ((NoInstall.bump (c := reclaims) (by decide) s).trans (.offerRecord _ _)).trans (.freeEntry _ _)

theorem NoInstall.tickEntry (i : EntryId) (s : State) : NoInstall s (tickEntry i s) := by
  unfold Machine.tickEntry
  split
  · exact .expireEntry i s
  · split
    · exact .releaseEntry i s
    · split
      · exact .reclaimEntry i s
      · exact .refl s

theorem NoInstall.tickWalk (k : WalkId) (s : State) : NoInstall s (tickWalk k s) := by
  unfold Machine.tickWalk
  split
  · exact .failWalk _ _ k s
  · split
    next h =>
      simp only [walkReleases, Bool.and_eq_true, decide_eq_true_eq] at h
      exact .releaseWalk h.1
    next =>
      split
      · exact .endAbandonedWalk (by decide) _ k s
      · exact .refl s

theorem NoInstall.freeAlert (s : State) : NoInstall s (freeAlert s) := .of_same rfl rfl rfl rfl rfl

theorem NoInstall.failAlert (b : Bool) (s : State) : NoInstall s (failAlert b s) := by
  unfold Machine.failAlert
  simp only
  split
  · have abandoned (t : State) (x : AlertSlot) : NoInstall t { t with alertSlot := x } :=
      .of_same rfl rfl rfl rfl rfl
    exact (NoInstall.offerRecord _ s).trans (abandoned _ _)
  · exact (NoInstall.offerRecord _ s).trans (.freeAlert _)

theorem NoInstall.endAbandonedAlert {c : Counter} (hc : c ≠ mapCheckMismatches) (r : FaultRecord) (s : State) :
    NoInstall s (s |> Machine.bump c |> Machine.offerRecord r |> Machine.freeAlert) :=
  ((NoInstall.bump hc s).trans (.offerRecord r _)).trans (.freeAlert _)

theorem NoInstall.tickAlert (s : State) : NoInstall s (tickAlert s) := by
  unfold Machine.tickAlert
  split
  · exact .failAlert _ s
  · split
    · exact .of_same rfl rfl rfl rfl rfl
    · split
      · exact .endAbandonedAlert (by decide) _ s
      · exact .refl s

theorem KeepsLaws.takeTableTick (s : State) : KeepsLaws s (takeTableTick s) := by
  have begun : NoInstall s { s with tableDue := false } := .of_same rfl rfl rfl rfl rfl
  unfold Machine.takeTableTick
  split
  · exact (begun.trans (.foldl (fun t i => .tickEntry i t) _ _)).keeps.trans (.conclude s _)
  · exact .refl s

theorem KeepsLaws.takeWalkTick (s : State) : KeepsLaws s (takeWalkTick s) := by
  have begun : NoInstall s { s with walkDue := false } := .of_same rfl rfl rfl rfl rfl
  unfold Machine.takeWalkTick
  split
  · exact (begun.trans (.foldl (fun t k => .tickWalk k t) _ _)).keeps.trans (.conclude s _)
  · exact .refl s

theorem KeepsLaws.takeAlertTick (s : State) : KeepsLaws s (takeAlertTick s) := by
  have begun : NoInstall s { s with alertDue := false } := .of_same rfl rfl rfl rfl rfl
  unfold Machine.takeAlertTick
  split
  · exact (begun.trans (.tickAlert _)).keeps.trans (.conclude s _)
  · exact .refl s

theorem KeepsLaws.tick (s : State) : KeepsLaws s (advanceTick (finishTick s)) := by
  have advanced (t : State) : KeepsLaws t (advanceTick t) := .of_same rfl rfl rfl rfl
  exact (((KeepsLaws.takeTableTick s).trans (.takeWalkTick _)).trans (.takeAlertTick _)).trans (advanced _)

/-! ### Completion matching (R93) -/

theorem NoInstall.strayCompletion (o : Owner) (s : State) : NoInstall s (strayCompletion o s) :=
  (NoInstall.bump (c := strayCompletions) (by decide) s).trans (.offerRecord _ _)

theorem NoInstall.errorEntry (d : Nat) (i : EntryId) (s : State) : NoInstall s (errorEntry d i s) :=
  ((NoInstall.bump (c := upstreamErrors) (by decide) s).trans (.offerRecord _ _)).trans (.answerEntry _ _ _ _)

theorem NoInstall.retryEntry (i : EntryId) (s : State) : NoInstall s (retryEntry i s) := by
  have counted := NoInstall.bump (c := retriesReceived) (by decide) s
  unfold Machine.retryEntry
  simp only
  split
  · split
    · exact (counted.trans (.setEntry i _ _)).trans (.releaseEntry i _)
    · exact counted.trans (.setEntry i _ _)
  · exact (counted.trans (.offerRecord _ _)).trans (.answerEntry _ _ _ _)

theorem NoInstall.matchEntry (i : EntryId) (p : CplPacket) (s : State) : NoInstall s (matchEntry i p s) := by
  have late : NoInstall s (lateEntry i s) :=
    ((NoInstall.bump (c := lateCompletions) (by decide) s).trans (.offerRecord _ _)).trans (.freeEntry _ _)
  have ok : NoInstall s (okEntry i p.body s) := by
    unfold okEntry
    split
    · exact .answerEntry ..
    · exact .errorEntry 2 i s
  unfold Machine.matchEntry
  split
  · split
    · exact ok
    · exact .retryEntry i s
    · exact .errorEntry 1 i s
  · exact late
  all_goals exact .strayCompletion _ s

theorem Inside.matchWalk (k : WalkId) (p : CplPacket) (s : State) : Inside s (matchWalk k p s) := by
  unfold Machine.matchWalk
  split
  next hi =>
    split
    · split
      · exact (NoInstall.finishStaleWalk k s).toInside
      next hs => exact .finishWalk ⟨by rw [hi]; rfl, by simpa using hs⟩
    · exact (NoInstall.retryWalk hi).toInside
    · exact (NoInstall.failWalk 1 false k s).toInside
  · exact (NoInstall.endAbandonedWalk (by decide) _ k s).toInside
  all_goals exact (NoInstall.strayCompletion _ s).toInside

theorem NoInstall.matchAlert (p : CplPacket) (s : State) : NoInstall s (matchAlert p s) := by
  have retried : NoInstall s (retryAlert s) := by
    unfold retryAlert
    simp only
    split
    · split
      · exact .of_same rfl rfl rfl rfl rfl
      · exact .of_same rfl rfl rfl rfl rfl
    · exact .failAlert false s
  unfold Machine.matchAlert
  split
  · split
    · split
      · exact .freeAlert s
      · exact .failAlert false s
    · exact retried
    · exact .failAlert false s
  · exact .endAbandonedAlert (by decide) _ s
  all_goals exact .strayCompletion _ s

theorem Inside.takeCompletion (p : CplPacket) (s : State) : Inside s (takeCompletion p s) := by
  unfold Machine.takeCompletion
  split
  · exact (NoInstall.matchEntry _ p s).toInside
  · exact .matchWalk _ p s
  · exact (NoInstall.matchAlert p s).toInside
  · exact (NoInstall.strayCompletion _ s).toInside

theorem KeepsLaws.completionMatching (s : State) :
    ∃ t, execCompletionMatching s = .next t ∧ KeepsLaws s t := by
  have taken (rest : List CplPacket) : Inside s { s with uCplIn := rest } := .of_same rfl rfl rfl rfl
  unfold execCompletionMatching
  split
  · exact ⟨_, rfl, .refl s⟩
  · exact ⟨_, rfl, ((taken _).trans (.takeCompletion _ _)).keeps.trans (.conclude s _)⟩

/-! ### Intake (R44) -/

theorem NoInstall.refuseRequest (p : ReqPacket) (st : Status) (s : State) :
    NoInstall s (refuseRequest p st s) := by
  have joined (q : List Refused) : NoInstall s { s with refusalQ := q } := .of_same rfl rfl rfl rfl rfl
  have counted (t : State) : NoInstall t (bumpRefused (headerSource p.h0) t) := by
    unfold bumpRefused
    split
    · exact .refl t
    · exact .bump (by simp) t
  exact ((joined _).trans (.bump (by decide) _)).trans (counted _)

theorem NoInstall.acceptRequest {i : EntryId} {r : ReqId} {p : ReqPacket} {w : WinId} {s : State}
    (hw : (s.windows[w]).state = .valid) : NoInstall s (acceptRequest i r p w s) := by
  have context (t : State) (c : Context) : NoInstall t (setContext r c t) := .of_same rfl rfl rfl rfl rfl
  refine (((NoInstall.setEntry i _ s).trans (context _ _)).trans (.bump (by simp) _)).trans
    (.translateIn (.goToWalk _) ?_)
  rw [bump_windows]; exact hw

/-- A window that matches and does not retire is VALID (R3). -/
theorem valid_of_matchWindow {s : State} {r : ReqId} {a : DAddr} {w : WinId} (h : matchWindow s r a = some w)
    (hr : (s.windows[w]).state ≠ .retiring) : (s.windows[w]).state = .valid := by
  have hm := matchWindow_some h
  simp only [Window.matches, Bool.and_eq_true, decide_eq_true_eq] at hm
  obtain ⟨⟨⟨hf, -⟩, -⟩, -⟩ := hm
  match hx : (s.windows[w]).state with
  | .free => exact absurd hx hf
  | .retiring => exact absurd hx hr
  | .valid => rfl

theorem NoInstall.admitRequest (i : EntryId) (r : ReqId) (p : ReqPacket) (s : State) :
    NoInstall s (admitRequest i r p s) := by
  unfold Machine.admitRequest
  simp only
  split
  · exact .refuseRequest p _ s
  split
  · exact .refuseRequest p _ s
  split
  · exact (NoInstall.refuseRequest p _ s).trans (.offerRecord _ _)
  split
  · exact .refuseRequest p _ s
  split
  · exact ((NoInstall.refuseRequest p _ s).trans (.offerRecord _ _)).trans (.applyStop _ _ _)
  next w hm =>
    split
    · exact .refuseRequest p _ s
    next hr =>
      split
      · exact .acceptRequest (valid_of_matchWindow hm hr)
      · exact ((NoInstall.refuseRequest p _ s).trans (.offerRecord _ _)).trans (.applyStop _ _ _)

theorem NoInstall.checkRequest (i : EntryId) (p : ReqPacket) (s : State) : NoInstall s (checkRequest i p s) := by
  unfold Machine.checkRequest
  split
  · exact .refuseRequest p _ s
  · split
    · exact .admitRequest i _ p s
    · exact (NoInstall.refuseRequest p _ s).trans (.offerRecord _ _)
    · exact (NoInstall.refuseRequest p _ s).trans (.offerRecord _ _)

theorem KeepsLaws.intake (s : State) : ∃ t, execIntakeTakeRequest s = .next t ∧ KeepsLaws s t := by
  have taken (rest : List ReqPacket) : NoInstall s { s with dReqIn := rest } := .of_same rfl rfl rfl rfl rfl
  refine ⟨_, rfl, ?_⟩
  split
  · split
    · exact ((taken _).trans (.checkRequest _ _ _)).keeps.trans (.conclude s _)
    · exact .refl s
  · exact .refl s
  · exact .refl s

end Sys2Proof.Machine
end

section
/-! SUPPORT. The laws of windows, retirements, and the Map Cache, command by command. -/

namespace Sys2Proof.Machine

/-- A command answers a next state and keeps the three laws. -/
def Keeps (s : State) (o : Host.Outcome State Fault Refusal) : Prop :=
  ∃ t, o = .next t ∧ KeepsLaws s t

theorem Keeps.next {s t : State} (h : KeepsLaws s t) : Keeps s (.next t) := ⟨t, rfl, h⟩

/-- A happening that comes about or leaves the state as it is. -/
theorem KeepsLaws.ite {s t : State} {c : Prop} [Decidable c] (h : KeepsLaws s t) :
    KeepsLaws s (if c then t else s) := by
  split
  · exact h
  · exact .refl s

/-! ### Links (R174 to R177) -/

theorem Keeps.powerOn (aps : BitVec 3) (s : State) : Keeps s (execPowerOn aps s) := by
  have free (w : WinId) : ((State.powerOn aps).windows[w]).state = .free := by simp [State.powerOn]
  refine .next ⟨fun _ => ⟨fun w h => absurd (free w) h, fun v _ _ h => absurd (free v) h⟩, fun _ => ?_, fun _ _ => ?_⟩
  · exact RetireLaw.of_none (fun w => by simp [State.powerOn]) fun k => by simp [State.powerOn]
  · exact CacheLaw.of_none rfl fun k => by simp [State.powerOn]

/-- The loss of the U-port clears the cache, the walks and the fences, and RETIRING windows become FREE
(R174). -/
theorem KeepsLaws.of_cleared {s t : State}
    (hw : t.windows = Vector.ofFn fun w : Fin 24 =>
      if (s.windows[w]).state = .retiring then { s.windows[w] with state := .free } else s.windows[w])
    (hf : t.fences = Vector.replicate 4 {}) (hc : t.cache = []) (hk : t.walks = Vector.replicate 4 {}) :
    KeepsLaws s t := by
  have win (w : WinId) : t.windows[w]
      = if (s.windows[w]).state = .retiring then { s.windows[w] with state := .free } else s.windows[w] := by
    rw [hw]; simp
  refine ⟨WindowLaw.of_states fun w => ?_, fun _ => RetireLaw.of_none (fun w => ?_) fun k => ?_,
    fun _ _ => CacheLaw.of_none hc fun k => ?_⟩
  · rw [win]
    split
    · exact ⟨.free, rfl, fun h => absurd rfl h⟩
    · exact ⟨(s.windows[w]).state, rfl, id⟩
  · rw [win]
    split
    · exact fun h => by cases h
    next h => exact h
  · rw [hf]; simp
  · rw [hk]; simp

theorem KeepsLaws.loseUpstream (s : State) : KeepsLaws s (loseUpstream s) := by
  refine .of_cleared ?_ ?_ ?_ ?_ <;> simp only [Machine.loseUpstream, offerRecord_windows, offerRecord_fences,
    offerRecord_cache, offerRecord_walks]

theorem Keeps.uPortDown (s : State) : Keeps s (execUPortDown s) := by
  have down (t : State) : KeepsLaws t { t with uUp := false } := .of_same rfl rfl rfl rfl
  refine .next ?_
  split
  · exact (KeepsLaws.loseUpstream s).trans (down _)
  · exact .refl s

theorem Keeps.uPortUp (s : State) : Keeps s (execUPortUp s) := by
  have up : KeepsLaws s { s with uUp := true } := .of_same rfl rfl rfl rfl
  refine .next ?_
  split
  · exact .refl s
  · exact up.trans (.evalTrigger _)

theorem Keeps.resetMessage (s : State) : Keeps s (execResetMessage s) := by
  refine .next ?_
  split
  · exact (KeepsLaws.loseUpstream s).trans (.evalTrigger _)
  · exact .refl s

theorem Inside.loseDownstream (s : State) : Inside s (loseDownstream s) where
  windows := rfl
  fences k := by simp [Machine.loseDownstream]
  law _ := .of_windows rfl id (fun c h => ⟨c, h, rfl, rfl⟩) fun k => by
    have : (Machine.loseDownstream s).walks[k] = { s.walks[k] with waiters := [] } := by
      simp [Machine.loseDownstream]
    rw [covers, covers, this]; exact fun h => ⟨h, rfl, rfl⟩

theorem NoInstall.endDrain (r : ReqId) (s : State) : NoInstall s (endDrain r s) := by
  have context : NoInstall s (setContext r { s.contexts[r] with state := .off, quiesce := none } s) :=
    .of_same rfl rfl rfl rfl rfl
  exact context.trans (.replyDone _ _)

theorem Keeps.dPortDown (s : State) : Keeps s (execDPortDown s) := by
  have drains (t : State) : NoInstall t (endDrains t) := .foldl (fun u r => by
    split
    · exact .endDrain r u
    · exact .refl u) _ t
  refine .next ?_
  split
  · exact ((Inside.loseDownstream s).keeps.trans (.endFences s _)).trans (drains _).keeps
  · exact .refl s

theorem Keeps.holdLineChange (port : Port) (cls : PktClass) (on : Bool) (s : State) :
    Keeps s (execHoldLineChange port cls on s) := by
  refine .next ?_
  cases port with
  | upstream => cases cls <;> exact .ite (.of_same rfl rfl rfl rfl)
  | downstream => cases cls <;> exact .ite (.of_same rfl rfl rfl rfl)

/-! ### Arbiters (R80, R171, R173) -/

theorem KeepsLaws.grantForward (i : EntryId) (rest : List EntryId) (s : State) :
    KeepsLaws s (grantForward i rest s) := by
  have popped : KeepsLaws s { s with issueQ := rest } := .of_same rfl rfl rfl rfl
  have sent (t : State) (v : Vector Entry 64) (x : Option Packet) :
      KeepsLaws t { t with entries := v, uTx := x } := .of_same rfl rfl rfl rfl
  unfold Machine.grantForward
  simp only
  split
  · split
    · exact (popped.trans (Inside.bump _ _).keeps).trans (sent _ _ _)
    · exact popped.trans (sent _ _ _)
  · exact popped

theorem KeepsLaws.grantWalk (k : WalkId) (s : State) : KeepsLaws s (grantWalk k s) := by
  have sent (t : State) (x : Option Packet) (ht : t.walks = s.walks) (hq : (s.walks[k]).state = .queued) :
      NoInstall t { setWalk k { s.walks[k] with state := .issued } t with uTx := x } :=
    .of_set rfl rfl rfl rfl rfl fun _ h2 => by
      rw [covers, ht]; exact ⟨⟨by rw [hq]; rfl, h2⟩, rfl, rfl⟩
  unfold Machine.grantWalk
  simp only
  split
  next hq => exact (Inside.bump _ s).keeps.trans (sent _ _ (bump_walks _ s) hq).keeps
  next => exact .refl s

theorem KeepsLaws.grantAlert (s : State) : KeepsLaws s (grantAlert s) := by
  unfold Machine.grantAlert
  split
  · exact .of_same rfl rfl rfl rfl
  · exact .refl s

theorem KeepsLaws.grantOwn (o : OwnRequest) (rest : List OwnRequest) (s : State) :
    KeepsLaws s (grantOwn o rest s) := by
  have popped : KeepsLaws s { s with ownList := rest } := .of_same rfl rfl rfl rfl
  cases o with
  | walk k => exact popped.trans (.grantWalk k _)
  | alert => exact popped.trans (.grantAlert _)

theorem KeepsLaws.grantRequest (s : State) : KeepsLaws s (grantRequest s) := by
  have turned (t : State) (n : Nat) : KeepsLaws t { t with rotation := n } := .of_same rfl rfl rfl rfl
  unfold Machine.grantRequest
  split
  · exact .refl s
  · exact (KeepsLaws.grantForward _ _ s).trans (turned _ _)
  · exact (KeepsLaws.grantOwn _ _ s).trans (turned _ _)
  · split
    · exact (KeepsLaws.grantForward _ _ s).trans (turned _ _)
    · exact (KeepsLaws.grantOwn _ _ s).trans (turned _ _)

theorem KeepsLaws.grantCompletion (s : State) : KeepsLaws s (grantCompletion s) := by
  have turned (t : State) (x : CplTurn) : KeepsLaws t { t with cplTurn := x } := .of_same rfl rfl rfl rfl
  have management : KeepsLaws s (sendManagement s) := by
    unfold sendManagement
    split
    · exact .of_same rfl rfl rfl rfl
    · split
      · exact .of_same rfl rfl rfl rfl
      · exact .refl s
  have passThrough : KeepsLaws s (sendPassThrough s) := by
    unfold sendPassThrough
    split
    · exact .of_same rfl rfl rfl rfl
    · exact .refl s
  unfold Machine.grantCompletion
  split
  · exact management.trans (turned _ _)
  · exact passThrough.trans (turned _ _)

theorem Keeps.issueArbiterGrant (s : State) : Keeps s (execIssueArbiterGrant s) := by
  refine .next ?_
  split
  · exact .refl s
  split
  · exact .grantCompletion s
  split
  · exact .refl s
  · exact .grantRequest s

theorem KeepsLaws.sendAnswer (i : EntryId) (rest : List EntryId) (s : State) :
    KeepsLaws s (sendAnswer i rest s) := by
  have popped (x : Option Packet) : KeepsLaws s { s with answerQ := rest, dTx := x } := .of_same rfl rfl rfl rfl
  have lowered (r : ReqId) (t : State) : KeepsLaws t (lowerOutstanding r t) := by
    have written : KeepsLaws t (setContext r { t.contexts[r] with outstanding := (t.contexts[r]).outstanding - 1 } t) :=
      .of_same rfl rfl rfl rfl
    unfold lowerOutstanding
    simp only
    split
    · exact written.trans (NoInstall.endDrain r _).keeps
    · exact written
  unfold Machine.sendAnswer
  simp only
  split
  · exact (((popped _).trans (Inside.bump _ _).keeps).trans (NoInstall.setEntry i _ _).keeps).trans (lowered _ _)
  · exact .of_same rfl rfl rfl rfl

theorem KeepsLaws.grantDeviceCompletion (s : State) : KeepsLaws s (grantDeviceCompletion s) := by
  have turned (t : State) (x : AnswerTurn) : KeepsLaws t { t with answerTurn := x } := .of_same rfl rfl rfl rfl
  have refusal (r : Refused) (rest : List Refused) : KeepsLaws s (sendRefusal r rest s) := .of_same rfl rfl rfl rfl
  unfold Machine.grantDeviceCompletion
  split
  · exact .refl s
  · exact (KeepsLaws.sendAnswer _ _ s).trans (turned _ _)
  · exact (refusal _ _).trans (turned _ _)
  · split
    · exact (KeepsLaws.sendAnswer _ _ s).trans (turned _ _)
    · exact (refusal _ _).trans (turned _ _)

theorem Keeps.answerArbiterGrant (s : State) : Keeps s (execAnswerArbiterGrant s) := by
  have request : KeepsLaws s (grantDeviceRequest s) := by
    unfold grantDeviceRequest
    split
    · exact .of_same rfl rfl rfl rfl
    · exact .refl s
  have raised : KeepsLaws s (raiseRun s) := .ite (.of_same rfl rfl rfl rfl)
  refine .next ?_
  split
  · exact .refl s
  split
  · exact request
  split
  · exact raised.trans (.grantDeviceCompletion _)
  split
  · exact request
  · exact .refl s

theorem Keeps.passThroughRefusal (s : State) : Keeps s (execPassThroughRefusal s) := by
  refine .next ?_
  split
  · exact .refl s
  · exact .ite (.of_same rfl rfl rfl rfl)

/-! ### Management (R148, R152) -/

/-- The taking of a host request writes management slots, their order, the reply refusals and the down
pass-through queue (R148). -/
theorem KeepsLaws.decodeHost {p : ReqPacket} {s t : State} (h : decodeHost p s = some t) : KeepsLaws s t := by
  have refusal (b : Bool) (st : Status) (h : (if b = true then some (refuseHost p st s) else none) = some t) :
      KeepsLaws s t := by
    split at h
    · cases h; exact .of_same rfl rfl rfl rfl
    · cases h
  unfold Machine.decodeHost at h
  simp only at h
  split at h
  · split at h
    · split at h
      · cases h; exact .of_same rfl rfl rfl rfl
      · exact refusal _ _ h
    · exact refusal _ _ h
  · split at h
    · split at h
      · cases h; exact .of_same rfl rfl rfl rfl
      · cases h
    · exact refusal _ _ h

theorem Keeps.managementDecode (s : State) : Keeps s (execManagementDecode s) := by
  have taken (rest : List ReqPacket) : KeepsLaws s { s with uReqIn := rest } := .of_same rfl rfl rfl rfl
  refine .next ?_
  split
  · exact .refl s
  next p rest _ =>
    cases h : decodeHost p { s with uReqIn := rest } with
    | none => exact .refl s
    | some t => exact (taken rest).trans (.decodeHost h)

theorem KeepsLaws.completeHead (m : MgmtId) (ws : List Word) (s : State) : KeepsLaws s (completeHead m ws s) :=
  .of_same rfl rfl rfl rfl

theorem KeepsLaws.resultHead (m : MgmtId) (r : Result) (s : State) : KeepsLaws s (resultHead m r s) :=
  .of_same rfl rfl rfl rfl

theorem KeepsLaws.whenHead {op : MgmtOp} {body : MgmtId → List Word → State → State} {s : State}
    (h : ∀ m ws, KeepsLaws s (body m ws s)) : KeepsLaws s (whenHead op body s) := by
  rcases whenHead_cases op body s with he | ⟨m, _, _, he⟩
  · rw [he]; exact .refl s
  · rw [he]; exact h m _

theorem KeepsLaws.answerQuery (words : MgmtOp → Option (List Word)) (s : State) :
    KeepsLaws s (answerQuery words s) := by
  unfold Machine.answerQuery
  split
  · exact .refl s
  · split
    · exact .refl s
    · exact .completeHead _ _ s

/-! ### LOAD_WINDOW (R15, R16) -/

theorem Window.overlaps_comm (a b : Window) : a.overlaps b = b.overlaps a := by
  rw [Window.overlaps, Window.overlaps, Bool.and_comm]

theorem Window.shares_comm (a b : Window) : a.shares b = b.shares a := by
  rw [Window.shares, Window.shares, BitVec.and_comm]

/-- Check 3 of R15 is legality of the record it would write, and a check mode that a MAPPED window can have. -/
theorem loadFieldsGood_iff (f : LoadFields) :
    loadFieldsGood f = true
      ↔ (loadedWindow f).legal ∧ (f.mode = some .mapped → f.checkMode.isSome = true) := by
  have pages (h : 20 ≤ f.sizeExp) : 2 ^ f.sizeExp / 16384 = 2 ^ (f.sizeExp - 14) := by
    rw [show (16384 : Nat) = 2 ^ 14 from rfl, Nat.pow_div (by omega) (by decide)]
  have rights : (!f.rights.isEmpty) = true ↔ f.rights.read = true ∨ f.rights.write = true := by
    simp [Rights.isEmpty, Bool.or_eq_true]
  simp only [loadFieldsGood, Window.legal, loadedWindow, Window.size, Window.pages, Config.pageBytes,
    Bool.and_eq_true, decide_eq_true_eq, bne_iff_ne, rights]
  cases hm : f.mode with
  | none => simp
  | some md =>
    cases md with
    | mapped =>
      simp only [if_true, Bool.and_eq_true, decide_eq_true_eq, forall_const]
      constructor
      · rintro ⟨⟨⟨⟨⟨⟨h1, h2⟩, h3⟩, h4⟩, h5⟩, h6⟩, ⟨h7, h8⟩, h9⟩
        exact ⟨⟨h1, h2, h3, h4, h5, h6, h7, by rw [pages h2]; exact h8⟩, h9⟩
      · rintro ⟨⟨h1, h2, h3, h4, h5, h6, h7, h8⟩, h9⟩
        exact ⟨⟨⟨⟨⟨⟨h1, h2⟩, h3⟩, h4⟩, h5⟩, h6⟩, ⟨h7, by rw [pages h2] at h8; exact h8⟩, h9⟩
    | direct =>
      simp only [if_true, Bool.and_eq_true, decide_eq_true_eq]
      constructor
      · rintro ⟨⟨⟨⟨⟨⟨h1, h2⟩, h3⟩, h4⟩, h5⟩, h6⟩, h7, h8⟩
        exact ⟨⟨h1, h2, h3, h4, h5, h6, h7, h8⟩, fun h => by cases h⟩
      · rintro ⟨⟨h1, h2, h3, h4, h5, h6, h7, h8⟩, -⟩
        exact ⟨⟨⟨⟨⟨⟨h1, h2⟩, h3⟩, h4⟩, h5⟩, h6⟩, h7, h8⟩

/-- No window conflicts with the new one exactly when none that overlaps it shares a requester (R15, R4). -/
theorem conflictingWindow_none {s : State} {x : Window} :
    conflictingWindow s x = none ↔ ∀ w : WinId, ¬((s.windows[w]).state ≠ .free
      ∧ (s.windows[w]).overlaps x = true ∧ (s.windows[w]).shares x = true) := by
  simp only [conflictingWindow, List.find?_eq_none, List.mem_finRange, true_implies, Bool.and_eq_true,
    decide_eq_true_eq, and_assoc]

/-- The record that LOAD_WINDOW writes keeps the laws: it is legal and conflicts with no window (R15, R16). -/
theorem KeepsLaws.of_loaded {s t : State} {w : WinId} {x : Window} (hfree : (s.windows[w]).state = .free)
    (hx : x.state = .valid) (hlegal : x.legal)
    (hno : ∀ v : WinId, ¬((s.windows[v]).state ≠ .free ∧ (s.windows[v]).overlaps x = true
      ∧ (s.windows[v]).shares x = true))
    (hw : t.windows = s.windows.set w x) (hf : t.fences = s.fences) (hc : t.cache = s.cache)
    (hk : t.walks = s.walks) : KeepsLaws s t where
  window hs := by
    have apart {v : WinId} (hv : (s.windows[v]).state ≠ .free) (ho : (s.windows[v]).overlaps x = true) :
        (s.windows[v]).shares x = false := by simpa using fun h => hno v ⟨hv, ho, h⟩
    refine ⟨fun v => ?_, fun v u hvu => ?_⟩
    · rw [hw, set_getElem]
      split
      · exact fun _ => hlegal
      · exact hs.1 v
    · rw [hw, set_getElem, set_getElem]
      by_cases hv : v = w
      · rw [if_pos hv, if_neg fun hu => hvu (hv.trans hu.symm)]
        rw [Window.overlaps_comm, Window.shares_comm]
        exact fun _ hu ho => apart hu ho
      · rw [if_neg hv]
        by_cases hu : u = w
        · rw [if_pos hu]; exact fun hv' _ ho => apart hv' ho
        · rw [if_neg hu]; exact hs.2 v u hvu
  retire hr := by
    have state (v : WinId) : (t.windows[v]).state = .retiring ↔ (s.windows[v]).state = .retiring := by
      rw [hw, set_getElem]
      split
      next h => subst h; simp only [hx, hfree, reduceCtorEq]
      next => exact Iff.rfl
    have ret (k : FenceId) (v : WinId) : retires t k v ↔ retires s k v :=
      retires_iff_of_sameFences (.of_eq hf) k v
    simpa only [RetireLaw, state, ret, hf] using hr
  cache _ := by
    have valid (v : WinId) : (s.windows[v]).mappedValid → (t.windows[v]).mappedValid := by
      rw [hw, set_getElem]
      split
      next h => subst h; exact fun hv => absurd (hv.1.symm.trans hfree) (by decide)
      next => exact id
    refine CacheLaw.mono (by rw [hc]; exact id) ?_ ?_
    · rw [hc]; exact fun c h => ⟨⟨c, h, rfl, rfl⟩, valid _⟩
    · intro j
      rw [covers, covers, hk]
      exact fun h => ⟨h, rfl, rfl, valid _⟩

theorem KeepsLaws.runLoadWindow (m : MgmtId) (ws : List Word) (s : State) :
    KeepsLaws s (runLoadWindow m ws s) := by
  unfold Machine.runLoadWindow
  simp only
  split
  · exact .resultHead m _ s
  next w _ =>
    split
    · exact .resultHead m _ s
    next hfree =>
      split
      · exact .resultHead m _ s
      next hgood =>
        split
        · exact .resultHead m _ s
        next hno =>
          have hlegal := ((loadFieldsGood_iff (loadFields ws)).mp (by simpa using hgood)).1
          have loaded : KeepsLaws s (setWindow w (loadedWindow (loadFields ws)) s) :=
            .of_loaded (by simpa using hfree) rfl hlegal (conflictingWindow_none.mp hno) rfl rfl rfl rfl
          exact loaded.trans (.resultHead m _ _)

/-! ### Fence commands (R114 to R117) -/

/-- The scope that a fence command has passed its checks with: RETIRE_WINDOW's is a VALID window (R115). -/
def ScopeFits (cmd : FenceCommand) (scope : Scope) (s : State) : Prop :=
  cmd = .retireWindow → ∃ w : WinId, scope = .window w ∧ (s.windows[w]).state = .valid

theorem scopeFits_of_checkRetire {ws : List Word} {s : State} {scope : Scope}
    (h : checkRetire ws s = .ok scope) : ScopeFits .retireWindow scope s := by
  intro _
  unfold checkRetire at h
  split at h
  · cases h
  next w _ =>
    split at h
    · cases h
    · cases h
    next hv => cases h; exact ⟨w, rfl, hv⟩

theorem startedWindows_invalidate (scope : Scope) (x : WinState) (s : State) :
    startedWindows .invalidate scope x s = s.windows := rfl

/-- The windows at a fence's start: only the window that it retires changes (R117). -/
theorem startedWindows_retire (w : WinId) (x : WinState) (s : State) (v : WinId) :
    (startedWindows .retireWindow (.window w) x s)[v]
      = if v = w then { s.windows[w] with state := x } else s.windows[v] := by
  rw [startedWindows, set_getElem]

/-- A window that is RETIRING already is none that a fence starts to retire. -/
theorem startedWindows_of_retiring {cmd : FenceCommand} {scope : Scope} {s : State} (hfit : ScopeFits cmd scope s)
    (x : WinState) {v : WinId} (hv : (s.windows[v]).state = .retiring) :
    (startedWindows cmd scope x s)[v] = s.windows[v] := by
  cases cmd with
  | invalidate => rfl
  | retireWindow =>
    obtain ⟨w, rfl, hw⟩ := hfit rfl
    rw [startedWindows_retire, if_neg]
    rintro rfl; rw [hw] at hv; cases hv

theorem retiring_of_startedWindows {cmd : FenceCommand} {scope : Scope} {s : State} (hfit : ScopeFits cmd scope s)
    {x : WinState} {v : WinId} (h : ((startedWindows cmd scope x s)[v]).state = .retiring) :
    (s.windows[v]).state = .retiring ∨ (x = .retiring ∧ cmd = .retireWindow ∧ scope = .window v) := by
  cases cmd with
  | invalidate => exact .inl h
  | retireWindow =>
    obtain ⟨w, rfl, -⟩ := hfit rfl
    rw [startedWindows_retire] at h
    split at h
    next hv => exact .inr ⟨h, rfl, by rw [hv]⟩
    next => exact .inl h

theorem WindowLaw.started {s t : State} {cmd : FenceCommand} {scope : Scope} {x : WinState}
    (hfit : ScopeFits cmd scope s) (hw : t.windows = startedWindows cmd scope x s) : WindowLaw s → WindowLaw t := by
  refine WindowLaw.of_states fun v => ?_
  rw [hw]
  cases cmd with
  | invalidate => exact ⟨(s.windows[v]).state, rfl, id⟩
  | retireWindow =>
    obtain ⟨w, rfl, hv⟩ := hfit rfl
    rw [startedWindows_retire]
    split
    next h => subst h; exact ⟨x, rfl, fun _ => by rw [hv]; decide⟩
    next => exact ⟨(s.windows[v]).state, rfl, id⟩

/-- A fence that marked nothing: its window is FREE and no fence slot is taken (R116). -/
theorem RetireLaw.started_unmarked {s t : State} {cmd : FenceCommand} {scope : Scope} (hfit : ScopeFits cmd scope s)
    (hw : t.windows = startedWindows cmd scope .free s) (hf : t.fences = s.fences) (h : RetireLaw s) :
    RetireLaw t := by
  obtain ⟨r1, r2, r3⟩ := h
  have ret (j : FenceId) (v : WinId) : retires t j v ↔ retires s j v := retires_iff_of_sameFences (.of_eq hf) j v
  refine ⟨fun v hv => ?_, fun j hj hcmd => ?_, fun i j v => by rw [ret, ret]; exact r3 i j v⟩
  · rw [hw] at hv
    rcases retiring_of_startedWindows hfit hv with hv | ⟨hx, -⟩
    · simp only [ret]; exact r1 v hv
    · cases hx
  · rw [hf] at hj hcmd ⊢
    obtain ⟨v, hs, hv⟩ := r2 j hj hcmd
    exact ⟨v, hs, by rw [hw, startedWindows_of_retiring hfit _ hv]; exact hv⟩

/-- A fence that waits takes the FREE slot `k`, and the window that it retires is RETIRING (R117). -/
theorem RetireLaw.started_waiting {s t : State} {cmd : FenceCommand} {scope : Scope} {k : FenceId} {f : Fence}
    (hfit : ScopeFits cmd scope s) (hk : (s.fences[k]).state = .free)
    (hw : t.windows = startedWindows cmd scope .retiring s) (hf : t.fences = s.fences.set k f)
    (hfs : f.state = .waiting) (hfc : f.command = some cmd) (hfp : f.scope = some scope) (h : RetireLaw s) :
    RetireLaw t := by
  obtain ⟨r1, r2, r3⟩ := h
  have other {j : FenceId} (hj : j ≠ k) (v : WinId) : retires t j v ↔ retires s j v := by
    rw [retires, hf, set_getElem, if_neg hj]; exact Iff.rfl
  have own (v : WinId) : retires t k v ↔ cmd = .retireWindow ∧ scope = .window v := by
    rw [retires, hf, set_getElem, if_pos rfl, hfs, hfc, hfp]; simp
  have clash {j : FenceId} {v : WinId} (hj : j ≠ k) (hjv : retires t j v) (hkv : retires t k v) : False := by
    obtain ⟨hcmd, hs⟩ := (own v).mp hkv
    obtain ⟨hjs, hjc, hjp⟩ := (other hj v).mp hjv
    obtain ⟨w, hs', hvalid⟩ := hfit hcmd
    obtain ⟨u, hu, hur⟩ := r2 j hjs hjc
    have hvw : v = w := by rw [hs] at hs'; simpa using hs'
    have huv : u = v := by rw [hjp] at hu; simpa using hu.symm
    rw [huv, hvw, hvalid] at hur
    cases hur
  refine ⟨fun v hv => ?_, fun j hj hcmd => ?_, fun i j v hi hj => ?_⟩
  · rw [hw] at hv
    rcases retiring_of_startedWindows hfit hv with hv | ⟨-, hc, hs⟩
    · obtain ⟨j, hj⟩ := r1 v hv
      have hjk : j ≠ k := by rintro rfl; exact absurd (hk.symm.trans hj.1) (by decide)
      exact ⟨j, (other hjk v).mpr hj⟩
    · exact ⟨k, (own v).mpr ⟨hc, hs⟩⟩
  · rw [hf, set_getElem] at hj hcmd ⊢
    by_cases hjk : j = k
    · rw [if_pos hjk, hfc, Option.some.injEq] at hcmd
      obtain ⟨w, hs, -⟩ := hfit hcmd
      exact ⟨w, by rw [if_pos hjk, hfp, hs], by rw [hw, hcmd, hs, startedWindows_retire, if_pos rfl]⟩
    · rw [if_neg hjk] at hj hcmd ⊢
      obtain ⟨v, hs, hv⟩ := r2 j hj hcmd
      exact ⟨v, hs, by rw [hw, startedWindows_of_retiring hfit _ hv]; exact hv⟩
  · by_cases hik : i = k
    · by_cases hjk : j = k
      · rw [hik, hjk]
      · subst hik; exact (clash hjk hj hi).elim
    · by_cases hjk : j = k
      · subst hjk; exact (clash hik hi hj).elim
      · exact r3 i j v ((other hik v).mp hi) ((other hjk v).mp hj)

/-- The cache entries of a fence's scope leave and its walks go stale, so what stays is of windows that stay
(R117, R24, R35). -/
theorem CacheLaw.started {s t : State} {cmd : FenceCommand} {scope : Scope} {x : WinState}
    (hfit : ScopeFits cmd scope s) (hw : t.windows = startedWindows cmd scope x s)
    (hc : t.cache = s.cache.filter fun c => !scope.covers c.window c.page)
    (hl : ∀ j : WalkId, t.walks[j]
      = if (s.walks[j]).state.underWay && scope.covers (s.walks[j]).window (s.walks[j]).page then
          { s.walks[j] with stale := true }
        else s.walks[j]) : CacheLaw s → CacheLaw t := by
  have valid {v : WinId} {p : Nat} (h : scope.covers v p = false) :
      (s.windows[v]).mappedValid → (t.windows[v]).mappedValid := by
    rw [hw]
    cases cmd with
    | invalidate => exact id
    | retireWindow =>
      obtain ⟨w, rfl, -⟩ := hfit rfl
      have hvw : v ≠ w := by rintro rfl; simp [Scope.covers] at h
      rw [startedWindows_retire, if_neg hvw]; exact id
  refine CacheLaw.mono (by rw [hc]; exact fun h => h.filter _) (fun c hmem => ?_) fun j => ?_
  · rw [hc, List.mem_filter, Bool.not_eq_true'] at hmem
    exact ⟨⟨c, hmem.1, rfl, rfl⟩, valid hmem.2⟩
  · rw [covers, hl j]
    split
    next => rintro ⟨-, h⟩; cases h
    next hn =>
      rintro ⟨hu, hs⟩
      refine ⟨⟨hu, hs⟩, rfl, rfl, valid (p := (s.walks[j]).page) (Bool.eq_false_iff.mpr fun h => hn ?_)⟩
      rw [hu, h]; rfl

/-- Steps 1 to 4 of a fence's start keep the laws once the window's state and the fence slot agree
(R117, R24, R35). -/
theorem KeepsLaws.of_started {s t : State} {cmd : FenceCommand} {scope : Scope} {x : WinState} {k : FenceId}
    {f : Fence} (hfit : ScopeFits cmd scope s) (hk : (s.fences[k]).state = .free)
    (hx : (x = .free ∧ t.fences = s.fences) ∨ (x = .retiring ∧ t.fences = s.fences.set k f
      ∧ f.state = .waiting ∧ f.command = some cmd ∧ f.scope = some scope))
    (hw : t.windows = startedWindows cmd scope x s)
    (hc : t.cache = s.cache.filter fun c => !scope.covers c.window c.page)
    (hl : ∀ j : WalkId, t.walks[j]
      = if (s.walks[j]).state.underWay && scope.covers (s.walks[j]).window (s.walks[j]).page then
          { s.walks[j] with stale := true }
        else s.walks[j]) : KeepsLaws s t where
  window := .started hfit hw
  retire := by
    rcases hx with ⟨rfl, hf⟩ | ⟨rfl, hf, hfs, hfc, hfp⟩
    · exact .started_unmarked hfit hw hf
    · exact .started_waiting hfit hk hw hf hfs hfc hfp
  cache _ := .started hfit hw hc hl

/-- Steps 1 to 4 of a fence's start, and then the end of its retirement if it marked nothing: the window goes by
`startedWindows` (R117, R120). -/
theorem freedWindows_startedWindows {cmd : FenceCommand} {scope : Scope} {s : State}
    (hfit : ScopeFits cmd scope s) (f : Fence) (hc : f.command = some cmd) (hs : f.scope = some scope) :
    freedWindows f (startedWindows cmd scope .retiring s) = startedWindows cmd scope .free s := by
  refine vector_ext fun v => ?_
  rw [freedWindows_getElem, hc, hs]
  cases cmd with
  | invalidate => simp [startedWindows_invalidate]
  | retireWindow =>
    obtain ⟨w, rfl, hw⟩ := hfit rfl
    rw [startedWindows, startedWindows, set_getElem, set_getElem]
    by_cases hv : v = w
    · subst hv; simp
    · have : w ≠ v := Ne.symm hv
      simp [hv, this]

/-- The walks after steps 1 to 4 of a fence's start: those under way in its scope are stale (R117). -/
theorem withdrawScope_walk (k : FenceId) (cmd : FenceCommand) (scope : Scope) (s : State) (j : WalkId) :
    (withdrawScope k cmd scope s).walks[j]
      = if (s.walks[j]).state.underWay && scope.covers (s.walks[j]).window (s.walks[j]).page then
          { s.walks[j] with stale := true }
        else s.walks[j] := by
  simp [withdrawScope]

theorem KeepsLaws.startFence {k : FenceId} {cmd : FenceCommand} {scope : Scope} {s : State}
    (hfit : ScopeFits cmd scope s) (hk : (s.fences[k]).state = .free) (m : MgmtId) :
    KeepsLaws s (startFence k cmd scope m s) := by
  have ended (f : Fence) (hc : f.command = some cmd) (hs : f.scope = some scope) : KeepsLaws s
      { popOrder (withdrawScope k cmd scope s) with
        windows := freedWindows f (startedWindows cmd scope .retiring s) } :=
    .of_started (x := .free) (f := {}) hfit hk (.inl ⟨rfl, rfl⟩) (freedWindows_startedWindows hfit f hc hs) rfl
      (withdrawScope_walk k cmd scope s)
  have waits (f : Fence) (hf : f.state = .waiting) (hc : f.command = some cmd) (hs : f.scope = some scope) :
      KeepsLaws s (setFence k f (popOrder (withdrawScope k cmd scope s))) :=
    .of_started (x := .retiring) hfit hk (.inr ⟨rfl, rfl, hf, hc, hs⟩) rfl rfl (withdrawScope_walk k cmd scope s)
  have replies (t : State) (ws : List Word) : KeepsLaws t (replySlot m ws t) := .of_same rfl rfl rfl rfl
  have runs (t : State) (x : MgmtSlot) : KeepsLaws t (setMgmt m x t) := .of_same rfl rfl rfl rfl
  unfold Machine.startFence
  simp only
  split
  · rw [freeRetired_eq]
    exact (ended _ rfl rfl).trans (replies _ _)
  · exact (waits _ rfl rfl rfl).trans (runs _ _)

theorem lowestFreeFence_free {s : State} {k : FenceId} (h : lowestFreeFence s = some k) :
    (s.fences[k]).state = .free := by
  simpa using List.find?_some h

theorem KeepsLaws.runFenceCommand {cmd : FenceCommand} {c : Except Result Scope} {s : State}
    (hfit : ∀ scope, c = .ok scope → ScopeFits cmd scope s) (m : MgmtId) :
    KeepsLaws s (runFenceCommand cmd m c s) := by
  unfold Machine.runFenceCommand
  split
  · exact .resultHead m _ s
  next scope =>
    split
    · exact .of_same rfl rfl rfl rfl
    next k hk => exact .startFence (hfit scope rfl) (lowestFreeFence_free hk) m

theorem KeepsLaws.runRetire (m : MgmtId) (ws : List Word) (s : State) :
    KeepsLaws s (Machine.runFenceCommand .retireWindow m (checkRetire ws s) s) :=
  .runFenceCommand (fun _ h => scopeFits_of_checkRetire h) m

theorem KeepsLaws.runInvalidate (m : MgmtId) (ws : List Word) (s : State) :
    KeepsLaws s (Machine.runFenceCommand .invalidate m (checkInvalidate ws s) s) :=
  .runFenceCommand (fun _ _ h => by cases h) m

theorem Keeps.fenceCommandResumption (s : State) : Keeps s (execFenceCommandResumption s) := by
  have resumed (m : MgmtId) : KeepsLaws s (resumeFence m s) := by
    unfold resumeFence
    simp only
    split
    · exact .runRetire ..
    · exact .runInvalidate ..
    · exact .refl s
  refine .next ?_
  split
  · split
    · exact .refl s
    · exact resumed _
  · exact .refl s

/-! ### Requester commands and settings (R67 to R70, R103, R137 to R150) -/

theorem KeepsLaws.setContext (r : ReqId) (c : Context) (s : State) : KeepsLaws s (setContext r c s) :=
  .of_same rfl rfl rfl rfl

theorem KeepsLaws.runConfigureRequester (m : MgmtId) (ws : List Word) (s : State) :
    KeepsLaws s (runConfigureRequester m ws s) := by
  unfold Machine.runConfigureRequester
  simp only
  split
  · exact .resultHead m _ s
  split
  · exact .resultHead m _ s
  split
  · exact .resultHead m _ s
  · exact (KeepsLaws.setContext _ _ s).trans (.resultHead m _ _)

theorem KeepsLaws.runActivate (source : CtxState) (m : MgmtId) (ws : List Word) (s : State) :
    KeepsLaws s (runActivate source m ws s) := by
  unfold Machine.runActivate
  split
  · exact .resultHead m _ s
  split
  · exact (KeepsLaws.setContext _ _ s).trans (.resultHead m _ _)
  · exact .resultHead m _ s

theorem KeepsLaws.runQuiesce (m : MgmtId) (ws : List Word) (s : State) : KeepsLaws s (runQuiesce m ws s) := by
  have empty (r : ReqId) (c : Context) (b : Prop) [Decidable b] (t : State) (ht : KeepsLaws s t) :
      KeepsLaws s (if b then s |> Machine.setContext r c |> Machine.resultHead m .done else t) := by
    split
    · exact (KeepsLaws.setContext r c s).trans (.resultHead m _ _)
    · exact ht
  unfold Machine.runQuiesce
  simp only
  split
  · exact .resultHead m _ s
  split
  · exact .resultHead m _ s
  · exact .resultHead m _ s
  all_goals exact empty _ _ _ _ (.of_same rfl rfl rfl rfl)

theorem KeepsLaws.runSetAlert (m : MgmtId) (ws : List Word) (s : State) : KeepsLaws s (runSetAlert m ws s) := by
  have written (a : HAddr) (b : Bool) : KeepsLaws s { s with alertAddress := a, alertEnabled := b } :=
    .of_same rfl rfl rfl rfl
  unfold Machine.runSetAlert
  simp only
  split
  · exact .resultHead m _ s
  split
  · exact .resultHead m _ s
  · exact ((written _ _).trans (.resultHead m _ _)).trans (.evalTrigger _)

theorem KeepsLaws.clearGroup (g : Fin 18) (s : State) : KeepsLaws s (clearGroup g s) := by
  unfold Machine.clearGroup
  split
  · exact .of_same rfl rfl rfl rfl
  split
  · exact .of_same rfl rfl rfl rfl
  · exact .of_same rfl rfl rfl rfl

theorem Keeps.cacheStorageUpset (w : WinId) (page : Nat) (s : State) :
    Keeps s (execCacheStorageUpset w page s) := by
  have key (c : CacheEntry) : (if cacheKey w page c then { c with upset := true } else c).window = c.window
      ∧ (if cacheKey w page c then { c with upset := true } else c).page = c.page := by
    split <;> exact ⟨rfl, rfl⟩
  have upset : Inside s
      { s with cache := s.cache.map fun c => if cacheKey w page c then { c with upset := true } else c } := by
    refine ⟨rfl, .of_eq rfl, fun _ => .of_windows rfl (fun h => List.pairwise_map.mpr (h.imp fun hab => ?_))
      (fun c hc => ?_) fun k h => ⟨h, rfl, rfl⟩⟩
    · rw [CacheEntry.Apart, (key _).1, (key _).2, (key _).1, (key _).2]; exact hab
    · obtain ⟨d, hd, rfl⟩ := List.mem_map.mp hc
      exact ⟨d, hd, (key d).1.symm, (key d).2.symm⟩
  exact .next upset.keeps

/-! ### Every command -/

theorem Keeps.head {op : MgmtOp} {body : MgmtId → List Word → State → State} {s : State}
    (h : ∀ m ws, KeepsLaws s (body m ws s)) : Keeps s (.next (whenHead op body s)) := .next (.whenHead h)

theorem exec_keeps (c : Instr) (s : State) : Keeps s (exec c s) := by
  cases c with
  | powerOn aps => exact .powerOn aps s
  | uPortDown => exact .uPortDown s
  | uPortUp => exact .uPortUp s
  | resetMessage => exact .resetMessage s
  | dPortDown => exact .dPortDown s
  | dPortUp => exact .next (.of_same rfl rfl rfl rfl)
  | holdLineChange port cls on => exact .holdLineChange port cls on s
  | deviceRequestArrival p => exact .next (.ite (.of_same rfl rfl rfl rfl))
  | deviceCompletionArrival p => exact .next (.ite (.of_same rfl rfl rfl rfl))
  | hostRequestArrival p => exact .next (.ite (.of_same rfl rfl rfl rfl))
  | hostCompletionArrival p => exact .next (.ite (.of_same rfl rfl rfl rfl))
  | intakeTakeRequest => exact KeepsLaws.intake s
  | issueArbiterGrant => exact .issueArbiterGrant s
  | answerArbiterGrant => exact .answerArbiterGrant s
  | passThroughRefusal => exact .passThroughRefusal s
  | managementDecode => exact .managementDecode s
  | completionMatching => exact KeepsLaws.completionMatching s
  | tick => exact .next (.tick s)
  | requestAgeExpiry e => exact .next (.ite (.takeTableTick s))
  | entryRelease e => exact .next (.ite (.takeTableTick s))
  | entryReclaim e => exact .next (.ite (.takeTableTick s))
  | walkTimeout k => exact .next (.ite (.takeWalkTick s))
  | walkRelease k => exact .next (.ite (.takeWalkTick s))
  | walkReclaim k => exact .next (.ite (.takeWalkTick s))
  | alertTimeout => exact .next (.ite (.takeAlertTick s))
  | alertRelease => exact .next (.ite (.takeAlertTick s))
  | alertReclaim => exact .next (.ite (.takeAlertTick s))
  | loadWindow => exact .head fun m ws => .runLoadWindow m ws s
  | retireWindow => exact .head fun m ws => .runRetire m ws s
  | invalidate => exact .head fun m ws => .runInvalidate m ws s
  | fenceCommandResumption => exact .fenceCommandResumption s
  | configureRequester => exact .head fun m ws => .runConfigureRequester m ws s
  | enableRequester => exact .head fun m ws => .runActivate .off m ws s
  | resumeRequester => exact .head fun m ws => .runActivate .stopped m ws s
  | quiesceRequester => exact .head fun m ws => .runQuiesce m ws s
  | setTiming =>
    refine .head fun m ws => ?_
    split
    · exact .of_same rfl rfl rfl rfl
    · exact .resultHead m _ s
  | setArbiter =>
    refine .head fun m ws => ?_
    simp only
    split
    · exact .resultHead m _ s
    · exact .of_same rfl rfl rfl rfl
  | setAlert => exact .head fun m ws => .runSetAlert m ws s
  | ackAlert =>
    refine .head fun m ws => .trans ?_ (.evalTrigger _)
    exact .of_same rfl rfl rfl rfl
  | clearCounters =>
    refine .head fun m ws => ?_
    split
    · exact .of_same rfl rfl rfl rfl
    split
    · exact .resultHead m _ s
    next g _ => exact (KeepsLaws.clearGroup g s).trans (.resultHead m _ _)
  | clearFaults => exact .head fun m ws => .of_same rfl rfl rfl rfl
  | moveAperture =>
    refine .head fun m ws => ?_
    simp only
    split
    · exact .resultHead m _ s
    · exact .of_same rfl rfl rfl rfl
  | status => exact .head fun m ws => .completeHead m _ s
  | window => exact .next (.answerQuery _ s)
  | requester => exact .next (.answerQuery _ s)
  | counters => exact .next (.answerQuery _ s)
  | fault =>
    refine .head fun m ws => ?_
    split
    · exact .completeHead m _ s
    · exact .of_same rfl rfl rfl rfl
  | time => exact .head fun m ws => .completeHead m _ s
  | fences => exact .head fun m ws => .completeHead m _ s
  | cacheStorageUpset w page => exact .cacheStorageUpset w page s

/-- What one step does keeps the laws of windows, retirements and the Map Cache. -/
theorem step_keepsLaws {s t : State} (h : step s = .next t) : KeepsLaws s t := by
  unfold step at h
  split at h
  · cases h; exact .refl s
  next c rest _ =>
    have taken : KeepsLaws s { s with pending := rest } := .of_same rfl rfl rfl rfl
    obtain ⟨u, hu, hk⟩ := exec_keeps c { s with pending := rest }
    rw [hu] at h
    cases h
    exact taken.trans hk

/-- Settles O50: a step changes the fields of a window only by LOAD_WINDOW, whose checks are the law's, and
brings no other window out of FREE. -/
theorem windowsKept : Obligations.WindowsKept := fun _ _ hw h => (step_keepsLaws h).window hw

/-- Settles O51: a window retires when its fence starts to wait, and is freed when that fence ends. -/
theorem retirementsKept : Obligations.RetirementsKept := fun _ _ hr h => (step_keepsLaws h).retire hr

/-- Settles O53: a walk starts for a page that is neither cached nor covered, an install ends the walk that
covered its page, and a retirement withdraws both. -/
theorem cacheAndWalksKept : Obligations.CacheAndWalksKept := fun _ _ hw hc h => (step_keepsLaws h).cache hw hc

end Sys2Proof.Machine
end

section
/-! SUPPORT. The values after power-on, what the loss of the U-port leaves, the checks of LOAD_WINDOW, and the check
of a page-map word. -/

namespace Sys2Proof.Machine

/-! ### Power-on (R177) -/

section PowerOn

variable (aps : BitVec 3)

theorem powerOn_window (w : WinId) : (State.powerOn aps).windows[w] = {} := by simp [State.powerOn]
theorem powerOn_walk (k : WalkId) : (State.powerOn aps).walks[k] = {} := by simp [State.powerOn]
theorem powerOn_entry (i : EntryId) : (State.powerOn aps).entries[i] = {} := by simp [State.powerOn]
theorem powerOn_context (r : ReqId) : (State.powerOn aps).contexts[r] = {} := by simp [State.powerOn]
theorem powerOn_fence (k : FenceId) : (State.powerOn aps).fences[k] = {} := by simp [State.powerOn]
theorem powerOn_mgmt (m : MgmtId) : (State.powerOn aps).mgmt[m] = {} := by simp [State.powerOn]

/-- Every counter is 0 at power-on (R135). -/
theorem powerOn_counter (c : Counter) : (State.powerOn aps).counter c = 0 := by
  cases c <;> simp [State.counter, State.powerOn]

/-- The aperture base for a strap reading (R147). -/
theorem strapBase_toNat : (strapBase aps).toNat = 0x3F0000000000 + aps.toNat * 0x10000 := by
  revert aps; decide

/-- Settles O3: power-on writes every field, and the table rows are read off the replicated defaults. -/
theorem powerOnValues : Obligations.PowerOnValues := fun aps s =>
  ⟨{ State.powerOn aps with pending := s.pending }, rfl, rfl, rfl, rfl, rfl, rfl, rfl, rfl, rfl, rfl, rfl, rfl,
    rfl, rfl, rfl, rfl, rfl, rfl, rfl, powerOn_window aps, rfl, rfl, powerOn_walk aps, powerOn_entry aps, rfl, rfl,
    powerOn_context aps, rfl, rfl, rfl, rfl, rfl, rfl, rfl, rfl, rfl, rfl, powerOn_fence aps, rfl, rfl, rfl,
    powerOn_counter aps, rfl, rfl, rfl, rfl, strapBase_toNat aps, powerOn_mgmt aps, rfl, rfl, rfl, rfl⟩

/-! ### The laws right after power-on -/

theorem powerOn_ranges : CapacityLaw (State.powerOn aps) ∧ ArbiterLaw (State.powerOn aps) := by
  simp [CapacityLaw, ArbiterLaw, State.powerOn]

theorem powerOn_settings : SettingsLaw (State.powerOn aps) := by
  refine ⟨fun r => ?_, ?_, ?_, Nat.le_of_ble_eq_true rfl, Nat.le_of_ble_eq_true rfl, ?_, rfl,
    Nat.le_of_ble_eq_true rfl, fun i => ?_, fun k => ?_, Nat.zero_le _⟩
  · rw [powerOn_context]; unfold Context.legal; decide
  · show Timing.legal {}; unfold Timing.legal; decide
  · show Timing.legal {}; unfold Timing.legal; decide
  · show (strapBase aps).toNat % 65536 = 0
    rw [strapBase_toNat]; omega
  · rw [powerOn_entry]; decide
  · rw [powerOn_walk]; decide

theorem powerOn_noneCounted (r : ReqId) : countedEntries r (State.powerOn aps) = 0 := by
  refine List.countP_eq_zero.mpr fun i _ => ?_
  rw [powerOn_entry]
  simp [EntryState.counted, EntryState.inFlight]

theorem powerOn_noneMarked (k : FenceId) : markedEntries k (State.powerOn aps) = 0 := by
  refine List.countP_eq_zero.mpr fun i _ => ?_
  rw [powerOn_entry]
  simp

theorem powerOn_counts : CountLaw (State.powerOn aps) := fun r => by
  rw [powerOn_noneCounted, powerOn_context]
  exact ⟨rfl, by decide, fun _ => rfl, fun h => by cases h⟩

theorem powerOn_marks : MarkLaw (State.powerOn aps) := fun k => by
  refine ⟨fun h => ?_, fun _ => powerOn_noneMarked aps k, fun i hi => ?_⟩
  · rw [powerOn_fence] at h; cases h
  · rw [powerOn_entry] at hi; simp at hi

theorem powerOn_windows : WindowLaw (State.powerOn aps) := by
  have free (w : WinId) : ((State.powerOn aps).windows[w]).state = .free := by rw [powerOn_window]
  exact ⟨fun w h => absurd (free w) h, fun v _ _ h => absurd (free v) h⟩

theorem powerOn_retirements : RetireLaw (State.powerOn aps) :=
  .of_none (fun w => by rw [powerOn_window]; exact fun h => by cases h) fun k => by rw [powerOn_fence]

theorem powerOn_tags : TagLaw (State.powerOn aps) := fun i j _ hi => by
  rw [powerOn_entry] at hi; cases hi

theorem powerOn_cache : CacheLaw (State.powerOn aps) := .of_none rfl fun k => by rw [powerOn_walk]

theorem powerOn_waiting : waitingEntries (State.powerOn aps) = [] := by
  simp [waitingEntries, State.powerOn]

theorem powerOn_places : PlaceLaw (State.powerOn aps) := by
  have free (i : EntryId) {st : EntryState} (h : st ≠ .free) (l : List EntryId) (hl : l = []) :
      i ∈ l ↔ ((State.powerOn aps).entries[i]).state = st := by
    rw [powerOn_entry, hl]; simp [Ne.symm h]
  refine ⟨List.nodup_nil, fun i => free i (by decide) _ rfl, List.nodup_nil, fun i => free i (by decide) _ rfl, ?_,
    fun i => free i (by decide) _ (powerOn_waiting aps), fun k _ => by rw [powerOn_walk], fun i h => ?_⟩
  · rw [powerOn_waiting]; exact List.nodup_nil
  · rw [powerOn_entry] at h; cases h

theorem powerOn_ownList : OwnListLaw (State.powerOn aps) := by
  refine ⟨List.nodup_nil, Nat.zero_le _, fun k => ?_, fun h => ?_, fun h => ?_⟩
  · rw [powerOn_walk]
    exact ⟨fun h => absurd h List.not_mem_nil, fun h => by cases h⟩
  · exact absurd h List.not_mem_nil
  · cases h

theorem powerOn_backlog : BacklogLaw (State.powerOn aps) := fun h => absurd rfl h

theorem powerOn_awaited : awaitedSlots (State.powerOn aps) = [] := by
  simp [awaitedSlots, State.powerOn]

theorem powerOn_management : MgmtLaw (State.powerOn aps) := by
  have free (m : MgmtId) {st : MgmtState} (h : st ≠ .free) (l : List MgmtId) (hl : l = []) :
      m ∈ l ↔ ((State.powerOn aps).mgmt[m]).state = st := by
    rw [powerOn_mgmt, hl]; simp [Ne.symm h]
  refine ⟨List.nodup_nil, fun m => free m (by decide) _ rfl, List.nodup_nil, fun m => free m (by decide) _ rfl, ?_,
    fun m => free m (by decide) _ (powerOn_awaited aps), fun k _ => by rw [powerOn_fence],
    fun r _ => by rw [powerOn_context], fun m h => ?_, fun h => by cases h⟩
  · rw [powerOn_awaited]; exact List.nodup_nil
  · rw [powerOn_mgmt] at h; cases h

theorem powerOn_cleared : FreeLaw (State.powerOn aps) :=
  ⟨fun i _ => powerOn_entry aps i, fun k _ => powerOn_walk aps k, fun k _ => powerOn_fence aps k, fun _ => rfl,
    fun m _ => powerOn_mgmt aps m⟩

theorem powerOn_entries : EntryLaw (State.powerOn aps) := fun i h => by
  rw [powerOn_entry] at h; exact absurd rfl h

theorem powerOn_upstreamDown : UpstreamDownLaw (State.powerOn aps) := fun _ =>
  ⟨rfl, rfl, rfl, rfl, rfl, rfl, rfl, rfl, rfl, rfl, rfl, rfl, fun k => by rw [powerOn_walk],
    fun i => by rw [powerOn_entry]; exact ⟨.inl rfl, rfl⟩, rfl, fun k => by rw [powerOn_fence],
    fun w => by rw [powerOn_window]; exact fun h => (by cases h), fun m => by rw [powerOn_mgmt],
    rfl, rfl, rfl, rfl, fun r => by rw [powerOn_context]⟩

theorem powerOn_downstreamDown : DownstreamDownLaw (State.powerOn aps) := fun _ =>
  ⟨rfl, rfl, rfl, rfl, rfl, rfl, rfl, rfl, fun k => by rw [powerOn_walk],
    fun i => by rw [powerOn_entry]; exact .inl rfl,
    fun r => by rw [powerOn_context]; exact ⟨rfl, fun h => by cases h⟩⟩

end PowerOn

/-- Settles O60, law by law. -/
theorem lawsHoldAfterPowerOn : Obligations.LawsHoldAfterPowerOn := fun aps =>
  ⟨rfl, (powerOn_ranges aps).1, (powerOn_ranges aps).2, powerOn_settings aps, powerOn_counts aps, powerOn_marks aps,
    powerOn_windows aps, powerOn_retirements aps, powerOn_tags aps, powerOn_cache aps, powerOn_places aps,
    powerOn_ownList aps, powerOn_backlog aps, powerOn_management aps, powerOn_cleared aps, powerOn_entries aps,
    powerOn_upstreamDown aps, powerOn_downstreamDown aps, rfl⟩

/-! ### The loss of the U-port (R174) -/

/-- What the sweep does to an entry, by its state (R61). -/
theorem sweepEntry_eq (e : Entry) :
    sweepEntry e = if e.state.inFlight = true then e.answered { status := .abort } false
      else if e.state = .abandoned then {}
      else if e.state = .answering then { e with upstreamOpen := false }
      else e := by
  unfold sweepEntry
  cases h : e.state <;> simp [EntryState.inFlight, Entry.answered]

/-- A record is offered in the same way whatever the state of the link (R132). -/
theorem offerRecord_setUUp (r : FaultRecord) (s : State) (b : Bool) :
    { offerRecord r s with uUp := b } = offerRecord r { s with uUp := b } := by
  unfold offerRecord
  split
  · rfl
  · rfl

/-- Settles O4: the sweep entry by entry, and the record with the number of swept entries. -/
theorem uPortDownClearsAndSweeps : Obligations.UPortDownClearsAndSweeps := by
  intro s hup
  have swept : resetRecord s =
      { kind := .upstreamReset
        detail := min ((List.finRange 64).countP fun i => (s.entries[i]).state.inFlight) 63 } := by
    rw [resetRecord, sweptEntries, ← List.countP_eq_length_filter]
  have entries : (Vector.ofFn fun i : Fin 64 => sweepEntry s.entries[i]) = Vector.ofFn fun i : Fin 64 =>
      if (s.entries[i]).state.inFlight = true then (s.entries[i]).answered { status := .abort } false
      else if (s.entries[i]).state = .abandoned then {}
      else if (s.entries[i]).state = .answering then { s.entries[i] with upstreamOpen := false }
      else s.entries[i] := by
    simp only [sweepEntry_eq]
  show execUPortDown s = _
  rw [execUPortDown, if_pos hup, loseUpstream, offerRecord_setUUp, swept, entries]
  rfl

/-! ### LOAD_WINDOW (R15, R16) -/

theorem modeOfCode_eq (c : Nat) :
    modeOfCode c = if c = 1 then some .mapped else if c = 2 then some .direct else none := by
  unfold modeOfCode
  split
  · rfl
  · rfl
  next h1 h2 => rw [if_neg h1, if_neg h2]

theorem modeOfCode_mapped (c : Nat) : modeOfCode c = some .mapped ↔ c = 1 := by
  unfold modeOfCode
  split <;> simp_all

theorem modeOfCode_direct (c : Nat) : modeOfCode c = some .direct ↔ c = 2 := by
  unfold modeOfCode
  split <;> simp_all

/-- The check mode that a code names, OFF for the code that names none (R181). -/
theorem checkModeOfCode_getD (c : Nat) :
    (checkModeOfCode c).getD .off = if c = 1 then .report else if c = 2 then .enforce else .off := by
  unfold checkModeOfCode
  split
  · rfl
  · rfl
  · rfl
  next _ h1 h2 => rw [if_neg h1, if_neg h2]; rfl

/-- A code of two bits names a check mode unless it is 3 (R181). -/
theorem checkModeOfCode_isSome {c : Nat} (h : c < 4) : (checkModeOfCode c).isSome = true ↔ c ≠ 3 := by
  revert h c; decide

theorem field_lt (w : Word) (lo width : Nat) : field w lo width < 2 ^ width :=
  (w.extractLsb' lo width).isLt

/-- The record that LOAD_WINDOW's payload spells, bit by bit (R16, R181). -/
theorem loadedWindow_loadFields (ws : List Word) :
    loadedWindow (loadFields ws) =
      { state := .valid
        reqSet := (payloadWord ws 0).extractLsb' 32 16
        base := (payloadWord ws 1).extractLsb' 0 48
        sizeExp := field (payloadWord ws 0) 8 6
        mode := if field (payloadWord ws 0) 16 2 = 1 then some .mapped
          else if field (payloadWord ws 0) 16 2 = 2 then some .direct else none
        rights := { read := (payloadWord ws 0).getLsbD 20, write := (payloadWord ws 0).getLsbD 21 }
        mapRoot := if field (payloadWord ws 0) 16 2 = 1 then (payloadWord ws 2).extractLsb' 0 50 else 0
        hostBase := if field (payloadWord ws 0) 16 2 = 2 then (payloadWord ws 3).extractLsb' 0 50 else 0
        checkMode := if field (payloadWord ws 0) 16 2 = 1 then
            (if field (payloadWord ws 0) 24 2 = 1 then .report
              else if field (payloadWord ws 0) 24 2 = 2 then .enforce else .off)
          else .off } := by
  have rights : rightsOfCode (field (payloadWord ws 0) 20 2)
      = { read := (payloadWord ws 0).getLsbD 20, write := (payloadWord ws 0).getLsbD 21 } := by
    simp only [rightsOfCode, testBit_field, Nat.ofNat_pos, Nat.one_lt_ofNat, decide_true, Bool.true_and]
  simp only [loadedWindow, loadFields, modeOfCode_mapped, modeOfCode_direct, checkModeOfCode_getD, rights]
  rw [modeOfCode_eq]

theorem asFin_of_eq {n x : Nat} {w : Fin n} (h : x = w.val) : asFin n x = some w := by
  subst h; simp [asFin]

theorem asFin_of_ge {n x : Nat} (h : n ≤ x) : asFin n x = none := by
  simp [asFin, Nat.not_lt.mpr h]

/-- Settles O34: the checks of R15 in their order, then the record. -/
theorem loadWindowChecksAndLoads : Obligations.LoadWindowChecksAndLoads := by
  intro s m rest ws hh w0 mode check x good conflicts
  have hx : loadedWindow (loadFields ws) = x := loadedWindow_loadFields ws
  have hgood : loadFieldsGood (loadFields ws) = true ↔ good := by
    have hmode : (loadFields ws).mode = some .mapped ↔ mode = 1 := modeOfCode_mapped _
    have hcheck : (loadFields ws).checkMode.isSome = true ↔ check ≠ 3 := checkModeOfCode_isSome (field_lt _ _ _)
    rw [loadFieldsGood_iff, hx, hmode, hcheck]
  have run : exec .loadWindow s = .next (runLoadWindow m ws s) := by
    show Host.Outcome.next (whenHead .loadWindow runLoadWindow s) = _
    rw [whenHead_of_head hh]
  have reply (r : Result) : resultHead m r s = replied m rest [resultWord r] s := completeHead_eq hh.1 _
  rw [run]
  refine ⟨fun hidx => ?_, fun w hidx => ⟨fun hbusy => ?_, fun hfree hbad => ?_, fun hfree hok => ⟨?_, ?_⟩⟩⟩
  · have : asFin 24 (loadFields ws).index = none := asFin_of_ge hidx
    simp only [runLoadWindow, this, reply]
  all_goals have hw : asFin 24 (loadFields ws).index = some w := asFin_of_eq hidx
  · simp only [runLoadWindow, hw, if_pos hbusy, reply]
  · have hno : loadFieldsGood (loadFields ws) = false := by
      rw [← Bool.not_eq_true, hgood]; exact hbad
    simp only [runLoadWindow, hw, hfree, hno, ne_eq, not_true, if_false, Bool.not_false, if_true, reply]
  · intro v hv hfirst
    have hfound : conflictingWindow s x = some v := by
      refine find?_finRange_first _ v ?_ fun u hu => ?_
      · simpa only [Bool.and_eq_true, decide_eq_true_eq, and_assoc] using hv
      · rw [← Bool.not_eq_true]
        simpa only [Bool.and_eq_true, decide_eq_true_eq, and_assoc] using hfirst u hu
    simp only [runLoadWindow, hw, hfree, hgood.mpr hok, hx, hfound, ne_eq, not_true, if_false, Bool.not_true,
      Bool.false_eq_true, reply]
  · intro hnone
    have hno : conflictingWindow s x = none := conflictingWindow_none.mpr hnone
    simp only [runLoadWindow, hw, hfree, hgood.mpr hok, hx, hno, ne_eq, not_true, if_false, Bool.not_true,
      Bool.false_eq_true]
    rw [resultHead, completeHead_eq (s := setWindow w x s) hh.1]
    rfl

/-! ### The check of a page-map word (R10 to R13, R180) -/

theorem extractLsb'_eq_zero (w : Word) (lo n : Nat) :
    w.extractLsb' lo n = 0 ↔ ∀ i < n, w.getLsbD (lo + i) = false := by
  constructor
  · intro h i hi
    have := congrArg (fun v => v.getLsbD i) h
    simpa [hi] using this
  · intro h
    refine BitVec.eq_of_getLsbD_eq fun i hi => ?_
    simpa [hi] using h i hi

/-- The exclusive-or of all eight bytes of a word. -/
def byteSum (w : Word) : BitVec 8 :=
  wordByte w 0 ^^^ wordByte w 1 ^^^ wordByte w 2 ^^^ wordByte w 3 ^^^ wordByte w 4 ^^^ wordByte w 5
    ^^^ wordByte w 6 ^^^ wordByte w 7

/-- The check byte matches exactly when the bytes' exclusive-or is 0xA5 (R10). -/
theorem checkByteMatches_iff (w : Word) : checkByteMatches w = true ↔ byteSum w = 0xA5 := by
  rw [checkByteMatches, beq_iff_eq, correctCheckByte, byteSum]
  constructor
  · intro h
    rw [h, ← BitVec.xor_assoc, BitVec.xor_self, BitVec.zero_xor]
  · intro h
    rw [← h, ← BitVec.xor_assoc, BitVec.xor_self, BitVec.zero_xor]

theorem wordByte_xor (v w : Word) (i : Nat) : wordByte (v ^^^ w) i = wordByte v i ^^^ wordByte w i := by
  refine BitVec.eq_of_getLsbD_eq fun j hj => ?_
  simp [wordByte, hj]

theorem byteSum_xor (v w : Word) : byteSum (v ^^^ w) = byteSum v ^^^ byteSum w := by
  simp only [byteSum, wordByte_xor]
  ac_rfl

/-- A single bit shows in the exclusive-or of the bytes. -/
theorem byteSum_bit : ∀ n : Fin 64, byteSum (BitVec.ofNat 64 (2 ^ n.val)) ≠ 0 := by decide

theorem checkByteMatches_flip {w : Word} (h : checkByteMatches w = true) (n : Fin 64) :
    checkByteMatches (w ^^^ BitVec.ofNat 64 (2 ^ n.val)) = false := by
  rw [← Bool.not_eq_true, checkByteMatches_iff, byteSum_xor, (checkByteMatches_iff w).mp h]
  intro hsame
  refine byteSum_bit n ?_
  calc byteSum (BitVec.ofNat 64 (2 ^ n.val))
      = 0xA5 ^^^ (0xA5 ^^^ byteSum (BitVec.ofNat 64 (2 ^ n.val))) := by
        rw [← BitVec.xor_assoc, BitVec.xor_self, BitVec.zero_xor]
    _ = 0 := by rw [hsame]; exact BitVec.xor_self

/-- A parity: eight flags' exclusive-or against the odd count of the first seven and a constant. -/
theorem xor_eq_odd_count : ∀ c b0 b1 b2 b3 b4 b5 b6 : Bool,
    (b0 ^^ b1 ^^ b2 ^^ b3 ^^ b4 ^^ b5 ^^ b6 ^^ c)
      = (([b0, b1, b2, b3, b4, b5, b6].countP id + if c then 1 else 0) % 2 == 1) := by decide

/-- One bit of the correct check byte, as a parity (R10). -/
theorem correctCheckByte_bit (w : Word) (b : Fin 8) :
    (correctCheckByte w).getLsbD b.val
      = (((List.finRange 7).countP (fun n => w.getLsbD (8 * n.val + b.val))
          + (if (0xA5 : BitVec 8).getLsbD b.val then 1 else 0)) % 2 == 1) := by
  have hb (i : Nat) : (wordByte w i).getLsbD b.val = w.getLsbD (8 * i + b.val) := by
    simp [wordByte]
  have hl : (List.finRange 7).countP (fun n => w.getLsbD (8 * n.val + b.val))
      = [w.getLsbD (8 * 0 + b.val), w.getLsbD (8 * 1 + b.val), w.getLsbD (8 * 2 + b.val),
          w.getLsbD (8 * 3 + b.val), w.getLsbD (8 * 4 + b.val), w.getLsbD (8 * 5 + b.val),
          w.getLsbD (8 * 6 + b.val)].countP id := rfl
  rw [hl, ← xor_eq_odd_count]
  simp only [correctCheckByte, BitVec.getLsbD_xor, hb]

theorem reservedClear_iff (w : Word) : reservedClear w = true
    ↔ ∀ n : Fin 64, (3 ≤ n.val ∧ n.val ≤ 13 ∨ 50 ≤ n.val ∧ n.val ≤ 55) → w.getLsbD n.val = false := by
  simp only [reservedClear, Bool.and_eq_true, beq_iff_eq]
  rw [extractLsb'_eq_zero, extractLsb'_eq_zero]
  constructor
  · rintro ⟨hlow, hhigh⟩ n (⟨h3, h13⟩ | ⟨h50, h55⟩)
    · have := hlow (n.val - 3) (by omega)
      rwa [Nat.add_sub_cancel' h3] at this
    · have := hhigh (n.val - 50) (by omega)
      rwa [Nat.add_sub_cancel' h50] at this
  · intro h
    exact ⟨fun i hi => h ⟨3 + i, by omega⟩ (by simp only; omega),
      fun i hi => h ⟨50 + i, by omega⟩ (by simp only; omega)⟩

theorem checkByteMatches_bits (w : Word) : checkByteMatches w = true
    ↔ ∀ b : Fin 8, w.getLsbD (56 + b.val) = (correctCheckByte w).getLsbD b.val := by
  have high (b : Fin 8) : (wordByte w 7).getLsbD b.val = w.getLsbD (56 + b.val) := by simp [wordByte]
  rw [checkByteMatches, beq_iff_eq]
  constructor
  · intro h b; rw [← high, h]
  · intro h
    exact BitVec.eq_of_getLsbD_eq fun i hi => (high ⟨i, hi⟩).trans (h ⟨i, hi⟩)

/-- Settles O45: the reserved bits, the check byte as a parity, and the table of R13. -/
theorem wordCheckFollowsItsTable : Obligations.WordCheckFollowsItsTable := by
  intro w mode
  refine ⟨reservedClear_iff w, ?_, fun hr => ?_, fun hr hm hc => ?_, fun hr hm => ?_, ?_,
    fun h n => checkByteMatches_flip h n⟩
  · rw [checkByteMatches_bits]
    simp only [correctCheckByte_bit]
  · simp only [judgeWord, hr, Bool.not_false, if_true]
  · simp only [judgeWord, hr, hm, hc, Bool.not_true, Bool.false_eq_true, if_false, and_self, if_true]
  · have hno : ¬(mode = .enforce ∧ checkByteMatches w = false) := by
      rintro ⟨he, hc⟩
      rcases hm with hm | hm
      · exact hm he
      · rw [hm] at hc; cases hc
    simp only [judgeWord, hr, Bool.not_true, Bool.false_eq_true, if_false, if_neg hno, mapPresent]
    by_cases hp : w.getLsbD 0 = true <;>
      simp only [hp, Bool.not_true, Bool.not_false, Bool.false_eq_true, if_true, if_false]
  · have hmode : mode ≠ .off ↔ mode = .report ∨ mode = .enforce := by cases mode <;> decide
    simp only [wordMismatches, Bool.and_eq_true, decide_eq_true_eq, Bool.not_eq_true', hmode]
    tauto

end Sys2Proof.Machine
end

section
/-! SUPPORT. Records in order, and the close of a happening that made them; the places of an entry; the answer and
the handing on of an entry that stands nowhere. -/

namespace Sys2Proof.Machine

/-! ### Records (R132) -/

/-- The records of a list offered in order. -/
def offerAll (rs : List FaultRecord) (s : State) : State :=
  rs.foldl (fun u r => offerRecord r u) s

theorem offerAll_nil (s : State) : offerAll [] s = s := rfl

theorem offerAll_cons (r : FaultRecord) (rs : List FaultRecord) (s : State) :
    offerAll (r :: rs) s = offerAll rs (offerRecord r s) := rfl

theorem offerAll_append (rs qs : List FaultRecord) (s : State) :
    offerAll (rs ++ qs) s = offerAll qs (offerAll rs s) := List.foldl_append

/-- What a record reads of the state: the queue, its loss and the tick. -/
def SameRecords (s t : State) : Prop :=
  t.faults = s.faults ∧ t.lost = s.lost ∧ t.overflowPending = s.overflowPending ∧ t.now = s.now

/-- A record writes the queue and its loss, by what it reads, and nothing else. -/
theorem offerRecord_of_same {s t : State} (h : SameRecords s t) (r : FaultRecord) :
    offerRecord r t =
      { t with
        faults := (offerRecord r s).faults
        lost := (offerRecord r s).lost
        overflowPending := (offerRecord r s).overflowPending } := by
  obtain ⟨hf, hl, ho, hn⟩ := h
  by_cases hr : s.faults.length < 16
  · rw [offerRecord_of_room r s hr, offerRecord_of_room r t (by rwa [hf]), hf, ho, hn, ← hl]
  · rw [offerRecord_of_full r s (by omega), offerRecord_of_full r t (by rw [hf]; omega), hl, ← hf]

theorem SameRecords.offerRecord {s t : State} (h : SameRecords s t) (r : FaultRecord) :
    SameRecords (offerRecord r s) (offerRecord r t) := by
  rw [offerRecord_of_same h r]
  exact ⟨rfl, rfl, rfl, by rw [offerRecord_now]; exact h.2.2.2⟩

/-- Records write the queue and its loss, by what they read, and nothing else. -/
theorem offerAll_of_same {s t : State} (h : SameRecords s t) (rs : List FaultRecord) :
    offerAll rs t =
      { t with
        faults := (offerAll rs s).faults
        lost := (offerAll rs s).lost
        overflowPending := (offerAll rs s).overflowPending } := by
  induction rs generalizing s t with
  | nil =>
    obtain ⟨hf, hl, ho, -⟩ := h
    rw [offerAll_nil, offerAll_nil, ← hf, ← hl, ← ho]
  | cons r rs ih =>
    rw [offerAll_cons, offerAll_cons, ih (h.offerRecord r), offerRecord_of_same h r]

/-- The records of a happening in terms of the state itself. -/
theorem offerAll_eq (rs : List FaultRecord) (s : State) :
    offerAll rs s =
      { s with
        faults := (offerAll rs s).faults
        lost := (offerAll rs s).lost
        overflowPending := (offerAll rs s).overflowPending } :=
  offerAll_of_same ⟨rfl, rfl, rfl, rfl⟩ rs

/-- Records pass by a change that neither reads nor writes what they do. -/
theorem offerAll_comm {g : State → State}
    (hg : ∀ (s : State) (f : List FaultRecord) (l : Nat) (o : Bool),
      g { s with faults := f, lost := l, overflowPending := o }
        = { g s with faults := f, lost := l, overflowPending := o })
    (hs : ∀ s : State, SameRecords s (g s)) (rs : List FaultRecord) (s : State) :
    offerAll rs (g s) = g (offerAll rs s) := by
  exact (offerAll_of_same (hs s) rs).trans ((hg s _ _ _).symm.trans (congrArg g (offerAll_eq rs s).symm))

/-- A record lengthens the queue exactly while it has room (R132). -/
theorem offerRecord_length (r : FaultRecord) (s : State) :
    (offerRecord r s).faults.length = if s.faults.length < 16 then s.faults.length + 1 else s.faults.length := by
  split
  next h => simp [offerRecord_of_room r s h]
  next h => simp [offerRecord_of_full r s (by omega)]

theorem offerAll_length_le (rs : List FaultRecord) (s : State) :
    s.faults.length ≤ (offerAll rs s).faults.length := by
  induction rs generalizing s with
  | nil => exact Nat.le_refl _
  | cons r rs ih =>
    refine Nat.le_trans ?_ (ih (offerRecord r s))
    rw [offerRecord_length]; split <;> omega

/-- The queue grows at a list of records exactly when there is one and the queue had room (R132). -/
theorem offerAll_grows (rs : List FaultRecord) (s : State) :
    s.faults.length < (offerAll rs s).faults.length ↔ rs ≠ [] ∧ s.faults.length < 16 := by
  cases rs with
  | nil => simp [offerAll_nil]
  | cons r rs =>
    simp only [offerAll_cons, ne_eq, reduceCtorEq, not_false_eq_true, true_and]
    have hle := offerAll_length_le rs (offerRecord r s)
    rw [offerRecord_length] at hle
    constructor
    · intro h
      by_contra hfull
      have full (qs : List FaultRecord) : ∀ t : State, 16 ≤ t.faults.length →
          (offerAll qs t).faults.length = t.faults.length := by
        induction qs with
        | nil => exact fun _ _ => rfl
        | cons q qs ih =>
          intro t ht
          rw [offerAll_cons, ih _ (by rw [offerRecord_length]; split <;> omega), offerRecord_length,
            if_neg (by omega)]
      have := full (r :: rs) s (by omega)
      rw [offerAll_cons] at this
      omega
    · intro h
      rw [if_pos h] at hle
      omega

theorem noteRecords_eq (rs : List FaultRecord) (s : State) :
    noteRecords rs s = if rs ≠ [] ∧ s.faults.length < 16 then evalTrigger (offerAll rs s) else offerAll rs s := rfl

/-! ### The alert trigger (R141) -/

/-- An evaluation of the trigger empties no own list. -/
theorem evalTrigger_ownList (s : State) (h : (evalTrigger s).ownList = []) : s.ownList = [] := by
  unfold evalTrigger at h
  split at h
  · simp [fireAlert] at h
  · exact h

/-- A happening that ends no fence and frees no alert slot closes with the trigger, once, if it enqueued a
record. -/
theorem conclude_offerAll {before s : State} (rs : List FaultRecord) (hf : s.fences = before.fences)
    (hr : s.faults = before.faults) (ha : s.alertSlot = before.alertSlot)
    (ho : s.ownList = [] → before.ownList = []) : conclude before (offerAll rs s) = noteRecords rs s := by
  have hrec := offerAll_eq rs s
  have fences : (offerAll rs s).fences = before.fences := by rw [hrec]; exact hf
  have slot : (offerAll rs s).alertSlot = before.alertSlot := by rw [hrec]; exact ha
  have own : (offerAll rs s).ownList = s.ownList := by rw [hrec]
  have point : triggerPoint before (offerAll rs s) = true ↔ rs ≠ [] ∧ s.faults.length < 16 := by
    rw [triggerPoint, slot, ← hr, ← offerAll_grows rs s]
    by_cases hs : before.alertSlot.state = .free <;> simp [hs]
  simp only [conclude, endFences_of_same before _ fences]
  rw [resetRotation_of, noteRecords_eq]
  · simp only [point]
  · intro h
    refine ho ?_
    rw [← own]
    split at h
    · exact evalTrigger_ownList _ h
    · exact h

/-- A happening that makes no record, ends no fence and frees no alert slot has nothing to close. -/
theorem conclude_same {before s : State} (hf : s.fences = before.fences) (hr : s.faults = before.faults)
    (ha : s.alertSlot = before.alertSlot) (ho : s.ownList = [] → before.ownList = []) :
    conclude before s = s :=
  conclude_offerAll [] hf hr ha ho

/-- The trigger reads no context and writes none. -/
theorem evalTrigger_contexts_comm (s : State) (c : Vector Context 16) :
    evalTrigger { s with contexts := c } = { evalTrigger s with contexts := c } := by
  have : triggerHolds { s with contexts := c } = triggerHolds s := rfl
  unfold evalTrigger
  rw [this]
  split <;> rfl

theorem noteRecords_contexts_comm (rs : List FaultRecord) (s : State) (c : Vector Context 16) :
    noteRecords rs { s with contexts := c } = { noteRecords rs s with contexts := c } := by
  have offered : offerAll rs { s with contexts := c } = { offerAll rs s with contexts := c } :=
    offerAll_comm (g := fun u => { u with contexts := c }) (fun _ _ _ _ => rfl)
      (fun _ => ⟨rfl, rfl, rfl, rfl⟩) rs s
  rw [noteRecords_eq, noteRecords_eq, offered, evalTrigger_contexts_comm]
  split <;> rfl

theorem noteRecords_contexts (rs : List FaultRecord) (s : State) : (noteRecords rs s).contexts = s.contexts := by
  rw [noteRecords_eq, offerAll_eq]
  split
  · rw [evalTrigger_contexts]
  · rfl

/-! ### Intake of the head of the ingress (R43, R47) -/

theorem sourceReq_of_val {src : Source} {r : ReqId} (h : src.toNat = r.val) : sourceReq src = some r := by
  have hr := r.isLt
  have hlt : src.toNat < 16 := by omega
  simp only [sourceReq, hlt, dite_true]
  exact congrArg some (Fin.ext h)

/-- The head that can be taken goes through the checks of R44 (R43). -/
theorem intake_of_takeable {s : State} {p : ReqPacket} {rest : List ReqPacket} {i : EntryId}
    (h : Takeable s p rest i) :
    exec .intakeTakeRequest s = .next (conclude s (checkRequest i p { s with dReqIn := rest })) := by
  have hfree := lowestFreeEntry_of_takeable h
  obtain ⟨hq, hroom, -, -⟩ := h
  show execIntakeTakeRequest s = _
  simp only [execIntakeTakeRequest, hq, hfree, Config.refusalCapacity, hroom, if_true]

/-- A refusal of the head (R47). -/
theorem refuseRequest_eq (p : ReqPacket) (rest : List ReqPacket) (st : Status) (s : State) :
    refuseRequest p st { s with dReqIn := rest } = refusedTo p rest st s := by
  simp only [refuseRequest, refusedTo, bumpRefused, sourceReq]
  split
  next h => split at h <;> simp_all
  next r h =>
    split at h
    next hlt => simp only [Option.some.injEq] at h; subst h; rw [dif_pos hlt]
    next => cases h

theorem refusedTo_frame (p : ReqPacket) (rest : List ReqPacket) (st : Status) (s : State) :
    (refusedTo p rest st s).fences = s.fences ∧ (refusedTo p rest st s).faults = s.faults
      ∧ (refusedTo p rest st s).alertSlot = s.alertSlot ∧ (refusedTo p rest st s).ownList = s.ownList
      ∧ (refusedTo p rest st s).contexts = s.contexts := by
  unfold refusedTo
  simp only
  split <;> simp

/-- A happening of intake that refuses and makes these records. -/
theorem conclude_refused (p : ReqPacket) (rest : List ReqPacket) (st : Status) (rs : List FaultRecord)
    (s : State) : conclude s (offerAll rs (refusedTo p rest st s)) = noteRecords rs (refusedTo p rest st s) := by
  obtain ⟨hf, hr, ha, ho, -⟩ := refusedTo_frame p rest st s
  exact conclude_offerAll rs hf hr ha fun h => ho ▸ h

/-- A refusal whose record is a stopping fault: the stop comes to the same before and after the trigger
(R72, R141). -/
theorem conclude_stopped (p : ReqPacket) (rest : List ReqPacket) (st : Status) (rec : FaultRecord)
    (kind : FaultKind) (r : ReqId) (s : State) :
    conclude s (applyStop kind r (offerRecord rec (refusedTo p rest st s)))
      = { noteRecords [rec] (refusedTo p rest st s) with
          contexts := (noteRecords [rec] (refusedTo p rest st s)).contexts.set r
            (((noteRecords [rec] (refusedTo p rest st s)).contexts[r]).stoppedBy kind) } := by
  obtain ⟨hf, hr, ha, ho, hc⟩ := refusedTo_frame p rest st s
  rw [noteRecords_contexts, ← noteRecords_contexts_comm, applyStop_eq, offerRecord_contexts]
  have stop (c : Vector Context 16) : { offerRecord rec (refusedTo p rest st s) with contexts := c }
      = offerAll [rec] { refusedTo p rest st s with contexts := c } :=
    (offerAll_comm (g := fun u => { u with contexts := c }) (fun _ _ _ _ => rfl)
      (fun _ => ⟨rfl, rfl, rfl, rfl⟩) [rec] (refusedTo p rest st s)).symm
  rw [stop]
  exact conclude_offerAll [rec] hf hr ha fun h => ho ▸ h

/-! ### The conditions of R45 -/

section Breaks

variable {p : ReqPacket}

theorem breaks_one : Breaks p 1 ↔ 16 ≤ (headerSource p.h0).toNat := by simp [Breaks]
theorem breaks_two : Breaks p 2 ↔ 31 < (headerTag p.h0).toNat := by simp [Breaks]
theorem breaks_three : Breaks p 3 ↔ headerLength p.h0 < 1 ∨ 64 < headerLength p.h0 := by simp [Breaks]
theorem breaks_four : Breaks p 4 ↔ (requestKind p = .write ∧ p.body.length ≠ headerLength p.h0)
    ∨ (requestKind p = .read ∧ p.body ≠ []) := by simp [Breaks]
theorem breaks_five : Breaks p 5 ↔ 2 ^ 48 ≤ (requestAddress p).toNat := by simp [Breaks]
theorem breaks_six : Breaks p 6 ↔ (requestAddress p).toNat % 8 ≠ 0 := by simp [Breaks]
theorem breaks_seven : Breaks p 7 ↔ (requestAddress p).toNat / 16384
    ≠ ((requestAddress p).toNat + 8 * headerLength p.h0 - 1) / 16384 := by simp [Breaks]

/-- Only the details 1 to 7 name a condition. -/
theorem breaks_range {d : Nat} (h : Breaks p d) :
    d = 1 ∨ d = 2 ∨ d = 3 ∨ d = 4 ∨ d = 5 ∨ d = 6 ∨ d = 7 := by
  unfold Breaks at h
  omega

open Classical in
/-- The detail of a malformed request, as the chain of R45's conditions. -/
theorem malformedDetail_eq (p : ReqPacket) :
    malformedDetail p = if Breaks p 1 then some 1 else if Breaks p 2 then some 2 else if Breaks p 3 then some 3
      else if Breaks p 4 then some 4 else if Breaks p 5 then some 5 else if Breaks p 6 then some 6
      else if Breaks p 7 then some 7 else none := by
  simp only [malformedDetail, breaks_one, breaks_two, breaks_three, breaks_four, breaks_five, breaks_six,
    breaks_seven, crossesBoundary, Config.pageBytes, decide_eq_true_eq, ge_iff_le, gt_iff_lt]

/-- A request is well formed exactly when it meets none of R45's conditions. -/
theorem malformedDetail_none : malformedDetail p = none ↔ ∀ d : Nat, ¬Breaks p d := by
  have link (c : Prop) [Decidable c] (a : Nat) (x : Option Nat) :
      (if c then some a else x) = none ↔ ¬c ∧ x = none := by
    by_cases hc : c <;> simp [hc]
  rw [malformedDetail_eq]
  simp only [link, and_true]
  constructor
  · rintro ⟨h1, h2, h3, h4, h5, h6, h7⟩ d hd
    rcases breaks_range hd with rfl | rfl | rfl | rfl | rfl | rfl | rfl
    exacts [h1 hd, h2 hd, h3 hd, h4 hd, h5 hd, h6 hd, h7 hd]
  · exact fun h => ⟨h 1, h 2, h 3, h 4, h 5, h 6, h 7⟩

/-- The first of R45's conditions that holds is the detail. -/
theorem malformedDetail_of_first {d : Nat} (h : Breaks p d) (hfirst : ∀ c : Nat, c < d → ¬Breaks p c) :
    malformedDetail p = some d := by
  rw [malformedDetail_eq]
  rcases breaks_range h with rfl | rfl | rfl | rfl | rfl | rfl | rfl <;> simp [h, hfirst]

end Breaks

end Sys2Proof.Machine
end

section
/-! SUPPORT. Intake: the refusals of R44 in their order. -/

namespace Sys2Proof.Machine

/-! ### Refusals (R44 to R47) -/

theorem tagInUse_iff {s : State} {r : ReqId} {tag : Tag} : tagInUse s r tag = true ↔ TagTaken s r tag := by
  simp only [tagInUse, TagTaken, List.any_eq_true, List.mem_finRange, true_and, Bool.and_eq_true,
    decide_eq_true_eq, and_assoc]

theorem tagInUse_false {s : State} {r : ReqId} {tag : Tag} (h : ¬TagTaken s r tag) : tagInUse s r tag = false := by
  rw [← Bool.not_eq_true, tagInUse_iff]; exact h

/-- A well-formed request of an UP port goes on to the checks of its requester (R44). -/
theorem checkRequest_of_wellFormed {s : State} {p : ReqPacket} {r : ReqId} (hup : s.uUp = true)
    (hp : malformedDetail p = none) (hr : (headerSource p.h0).toNat = r.val) (i : EntryId)
    (rest : List ReqPacket) :
    checkRequest i p { s with dReqIn := rest } = admitRequest i r p { s with dReqIn := rest } := by
  simp only [checkRequest, hup, hp, sourceReq_of_val hr, Bool.true_eq_false, if_false]

/-- A request of an ACTIVE requester with a free tag below its limit goes on to the match of its window
(R44). -/
theorem checkRequest_of_passesSix {s : State} {p : ReqPacket} {r : ReqId} (h : PassesSix s p r) (i : EntryId)
    (rest : List ReqPacket) :
    checkRequest i p { s with dReqIn := rest } =
      match matchWindow s r (requestDAddr p) with
      | none =>
        { s with dReqIn := rest } |> refuseRequest p .denied |> offerRecord (intakeRecord .noWindow r p none)
          |> applyStop .noWindow r
      | some w =>
        if (s.windows[w]).state = .retiring then refuseRequest p .unmapped { s with dReqIn := rest }
        else if (s.windows[w]).rights.permits (requestKind p) then
          acceptRequest i r p w { s with dReqIn := rest }
        else
          { s with dReqIn := rest } |> refuseRequest p .denied
            |> offerRecord (intakeRecord .rights r p (some w)) |> applyStop .rights r := by
  obtain ⟨hup, hp, hr, hact, htag, hlim⟩ := h
  have hfree : tagInUse { s with dReqIn := rest } r (headerTag p.h0) = false := tagInUse_false htag
  have hroom : ¬(s.contexts[r]).limit ≤ (s.contexts[r]).outstanding := Nat.not_le.mpr hlim
  rw [checkRequest_of_wellFormed hup hp hr]
  simp only [admitRequest, hact, hfree, hroom, reduceCtorEq, or_self, if_false, Bool.false_eq_true]
  rfl

/-- The record of a malformed request (R45, R131). -/
theorem malformedRecord_eq (p : ReqPacket) (d : Nat) :
    malformedRecord p d =
      { kind := .malformedRequest, detail := d
        requester := if h : (headerSource p.h0).toNat < 16 then some ⟨(headerSource p.h0).toNat, h⟩ else none
        reqTag := if (headerSource p.h0).toNat < 16 then some (headerTag p.h0) else none
        dAddr := if 5 < d then some (requestDAddr p) else none } := by
  by_cases h : (headerSource p.h0).toNat < 16 <;> simp [malformedRecord, sourceReq, h]

/-- Settles O10: each check of R44 answers by one refusal, and the checks before it pass. -/
theorem intakeRefuses : Obligations.IntakeRefuses := by
  intro s p rest i ht src tag a stopped
  have refused (st : Status) (h : checkRequest i p { s with dReqIn := rest }
      = refuseRequest p st { s with dReqIn := rest }) :
      exec .intakeTakeRequest s = .next (refusedTo p rest st s) := by
    rw [intake_of_takeable ht, h, refuseRequest_eq]
    exact congrArg _ (conclude_refused p rest st [] s)
  have recorded (st : Status) (rec : FaultRecord) (h : checkRequest i p { s with dReqIn := rest }
      = offerRecord rec (refuseRequest p st { s with dReqIn := rest })) :
      exec .intakeTakeRequest s = .next (noteRecords [rec] (refusedTo p rest st s)) := by
    rw [intake_of_takeable ht, h, refuseRequest_eq]
    exact congrArg _ (conclude_refused p rest st [rec] s)
  have stops (st : Status) (rec : FaultRecord) (kind : FaultKind) (r : ReqId)
      (h : checkRequest i p { s with dReqIn := rest }
        = applyStop kind r (offerRecord rec (refuseRequest p st { s with dReqIn := rest }))) :
      exec .intakeTakeRequest s = .next (stopped kind r (noteRecords [rec] (refusedTo p rest st s))) := by
    rw [intake_of_takeable ht, h, refuseRequest_eq]
    exact congrArg _ (conclude_stopped p rest st rec kind r s)
  refine ⟨fun hdown => refused _ ?_, malformedDetail_none, fun hup d hd hfirst => ?_,
    fun hup hok r hr => ⟨fun hoff => refused _ ?_, fun hdr => refused _ ?_, fun hact htag => recorded _ _ ?_,
      fun hact htag hlim => refused _ ?_⟩,
    fun r h6 => ⟨fun hno => stops _ _ _ _ ?_, fun w hw => ⟨fun hret => refused _ ?_, fun hval hper =>
      stops _ _ _ _ ?_⟩⟩⟩
  · simp only [checkRequest, hdown, if_true]
  · rw [← malformedRecord_eq]
    refine recorded _ _ ?_
    simp only [checkRequest, hup, malformedDetail_of_first hd hfirst, Bool.true_eq_false, if_false]
  · rw [checkRequest_of_wellFormed hup (malformedDetail_none.mpr hok) hr]
    simp only [admitRequest, hoff, if_true]
  · rw [checkRequest_of_wellFormed hup (malformedDetail_none.mpr hok) hr]
    simp only [admitRequest, hdr, reduceCtorEq, or_self, if_false, if_true]
  · have hused : tagInUse { s with dReqIn := rest } r (headerTag p.h0) = true := tagInUse_iff.mpr htag
    rw [checkRequest_of_wellFormed hup (malformedDetail_none.mpr hok) hr]
    simp only [admitRequest, hact, hused, reduceCtorEq, or_self, if_false, if_true]
    rfl
  · have hfree : tagInUse { s with dReqIn := rest } r (headerTag p.h0) = false := tagInUse_false htag
    rw [checkRequest_of_wellFormed hup (malformedDetail_none.mpr hok) hr]
    simp only [admitRequest, hact, hfree, hlim, reduceCtorEq, or_self, if_false, if_true, Bool.false_eq_true]
  · rw [checkRequest_of_passesSix h6, matchWindow_none.mpr hno]
    rfl
  · rw [checkRequest_of_passesSix h6, matchWindow_of_matches hw]
    simp only [hret, if_true]
  · rw [checkRequest_of_passesSix h6, matchWindow_of_matches hw]
    simp only [hval, hper, reduceCtorEq, if_false, Bool.false_eq_true]
    rfl

end Sys2Proof.Machine
end

section
/-! SUPPORT. An entry that stands in no place: how it is answered, queued, denied, looked up and sent to the Walk
Unit, and how a list of such entries is handed on. -/

namespace Sys2Proof.Machine

/-! ### One entry -/

/-- A TRANSLATING entry that carries no mark and stands in no queue or list. -/
structure Loose (t : State) (i : EntryId) : Prop where
  state : (t.entries[i]).state = .translating
  marks : (t.entries[i]).marks = noMarks
  issueQ : i ∉ t.issueQ
  backlog : i ∉ t.backlog
  waiters : ∀ k : WalkId, i ∉ (t.walks[k]).waiters

/-- An entry without marks has none to lose (R119). -/
theorem dropMarks_of_unmarked {i : EntryId} {s : State} (h : (s.entries[i]).marks = noMarks) :
    dropMarks i s = s := by
  have entries : s.entries.set i { s.entries[i] with marks := noMarks } = s.entries := by
    rw [← h]; exact set_getElem_self s.entries i
  have fences : (Vector.ofFn fun k : Fin 4 =>
      if (s.entries[i]).marks[k] then { s.fences[k] with remaining := (s.fences[k]).remaining - 1 }
      else s.fences[k]) = s.fences := by
    refine vector_ext fun k => ?_
    rw [h]; simp
  rw [dropMarks, entries, fences]

/-- A loose entry that is answered joins the answer queue; nothing else changes (R54). -/
theorem answerEntry_of_loose {t : State} {i : EntryId} (h : Loose t i) (a : Answer) (o : Bool) :
    answerEntry i a o t =
      { t with entries := t.entries.set i ((t.entries[i]).answered a o), answerQ := t.answerQ ++ [i] } := by
  have hfl : (t.entries[i]).state.inFlight = true := by rw [h.state]; rfl
  simp only [answerEntry, hfl, if_true, dropMarks_of_unmarked h.marks,
    leavePlaces_of_absent i t h.issueQ h.backlog h.waiters]
  rfl

/-- The record of an entry that a window or a map entry denies (R5, R131). -/
def rightsNote (w : WinId) (e : Entry) : FaultRecord where
  kind := .rights
  requester := some e.requester
  reqTag := some e.reqTag
  window := some w
  dAddr := some e.dAddr

/-- A loose entry that is denied: one record, the answer and the stop (R5, R72). -/
theorem denyEntry_of_loose {t : State} {i : EntryId} (h : Loose t i) (w : WinId) {e : Entry}
    (he : t.entries[i] = e) :
    denyEntry i w t =
      offerAll [rightsNote w e]
        { t with
          entries := t.entries.set i (e.answered { status := .denied } false)
          answerQ := t.answerQ ++ [i]
          contexts := t.contexts.set e.requester ((t.contexts[e.requester]).stoppedBy .rights) } := by
  subst he
  have loose : Loose (offerRecord (rightsNote w t.entries[i]) t) i := by
    refine ⟨?_, ?_, ?_, ?_, ?_⟩ <;> simp only [offerRecord_entries, offerRecord_issueQ, offerRecord_backlog,
      offerRecord_walks]
    exacts [h.state, h.marks, h.issueQ, h.backlog, h.waiters]
  show applyStop .rights _ (answerEntry i _ false (offerRecord (rightsNote w t.entries[i]) t)) = _
  rw [answerEntry_of_loose loose, applyStop_eq]
  simp only [offerRecord_entries, offerRecord_answerQ, offerRecord_contexts]
  exact (offerAll_comm
    (g := fun u => { u with
      entries := t.entries.set i ((t.entries[i]).answered { status := .denied } false)
      answerQ := t.answerQ ++ [i]
      contexts := t.contexts.set (t.entries[i]).requester
        ((t.contexts[(t.entries[i]).requester]).stoppedBy .rights) })
    (fun _ _ _ _ => rfl) (fun _ => ⟨rfl, rfl, rfl, rfl⟩) [rightsNote w t.entries[i]] t).symm

/-! ### A list of entries -/

/-- How entries are handed on: which are permitted, and what an entry becomes in either case; a denied one makes
a record that names the window. -/
structure Handing where
  window : WinId
  permits : Entry → Bool
  queued : Entry → Entry
  denied : Entry → Entry

/-- The entries of a list that a handing denies, in order. -/
def Handing.refuses (h : Handing) (is : List EntryId) (t : State) : List EntryId :=
  is.filter fun i => !h.permits t.entries[i]

/-- The entries of a list handed on in order: the permitted ones join the issue queue, the others are answered,
with a record each and the stop policy (R33, R5, R72). -/
def handAll (h : Handing) (is : List EntryId) (t : State) : State :=
  offerAll ((h.refuses is t).map fun i => rightsNote h.window t.entries[i])
    { t with
      entries := Vector.ofFn fun i : Fin 64 =>
        if i ∈ is then (if h.permits t.entries[i] = true then h.queued t.entries[i] else h.denied t.entries[i])
        else t.entries[i]
      issueQ := t.issueQ ++ is.filter fun i => h.permits t.entries[i]
      answerQ := t.answerQ ++ h.refuses is t
      contexts := stoppedContexts .rights (h.refuses is t) t }

theorem handAll_eq (h : Handing) (is : List EntryId) (t : State) :
    handAll h is t = offerAll ((h.refuses is t).map fun i => rightsNote h.window t.entries[i])
      { t with
        entries := Vector.ofFn fun i : Fin 64 =>
          if i ∈ is then (if h.permits t.entries[i] = true then h.queued t.entries[i] else h.denied t.entries[i])
          else t.entries[i]
        issueQ := t.issueQ ++ is.filter fun i => h.permits t.entries[i]
        answerQ := t.answerQ ++ h.refuses is t
        contexts := stoppedContexts .rights (h.refuses is t) t } := rfl

/-- A table rewritten at the members of a list with one member. -/
theorem ofFn_mem_singleton {α : Type} {n : Nat} (v : Vector α n) (i : Fin n) (f : α → α) :
    (Vector.ofFn fun j : Fin n => if j ∈ [i] then f v[j] else v[j]) = v.set i (f v[i]) := by
  refine vector_ext fun j => ?_
  rw [set_getElem]
  by_cases hj : j = i
  · subst hj; simp
  · simp [hj]

theorem ofFn_mem_nil {α : Type} {n : Nat} (v : Vector α n) (f : α → α) :
    (Vector.ofFn fun j : Fin n => if j ∈ ([] : List (Fin n)) then f v[j] else v[j]) = v :=
  vector_ext fun j => by simp

theorem stoppedContexts_nil (kind : FaultKind) (t : State) : stoppedContexts kind [] t = t.contexts :=
  vector_ext fun r => by simp [stoppedContexts]

theorem stoppedContexts_getElem (kind : FaultKind) (is : List EntryId) (t : State) (r : ReqId) :
    (stoppedContexts kind is t)[r]
      = if is.any (fun i => decide ((t.entries[i]).requester = r)) = true then (t.contexts[r]).stoppedBy kind
        else t.contexts[r] := by
  simp only [stoppedContexts, Fin.getElem_fin, Vector.getElem_ofFn]

theorem stoppedContexts_singleton (kind : FaultKind) (i : EntryId) (t : State) :
    stoppedContexts kind [i] t
      = t.contexts.set (t.entries[i]).requester ((t.contexts[(t.entries[i]).requester]).stoppedBy kind) := by
  refine vector_ext fun r => ?_
  rw [stoppedContexts_getElem, set_getElem]
  by_cases hr : r = (t.entries[i]).requester
  · subst hr; simp
  · have : ¬(t.entries[i]).requester = r := fun e => hr e.symm
    rw [if_neg hr, if_neg]
    simpa using this

/-- A permitted entry handed on alone. -/
theorem handAll_permitted {h : Handing} {i : EntryId} {t : State} (hp : h.permits t.entries[i] = true) :
    handAll h [i] t =
      { t with entries := t.entries.set i (h.queued t.entries[i]), issueQ := t.issueQ ++ [i] } := by
  have hr : h.refuses [i] t = [] := by rw [Handing.refuses]; simp only [List.filter, hp, Bool.not_true]
  have hq : [i].filter (fun j => h.permits t.entries[j]) = [i] := by simp only [List.filter, hp]
  rw [handAll, hr, hq, List.map_nil, offerAll_nil, stoppedContexts_nil, List.append_nil,
    ofFn_mem_singleton t.entries i fun e => if h.permits e = true then h.queued e else h.denied e, if_pos hp]

/-- A denied entry handed on alone. -/
theorem handAll_denied {h : Handing} {i : EntryId} {t : State} (hp : h.permits t.entries[i] = false) :
    handAll h [i] t =
      offerAll [rightsNote h.window t.entries[i]]
        { t with
          entries := t.entries.set i (h.denied t.entries[i])
          answerQ := t.answerQ ++ [i]
          contexts := t.contexts.set (t.entries[i]).requester
            ((t.contexts[(t.entries[i]).requester]).stoppedBy .rights) } := by
  have hr : h.refuses [i] t = [i] := by rw [Handing.refuses]; simp only [List.filter, hp, Bool.not_false]
  have hq : [i].filter (fun j => h.permits t.entries[j]) = [] := by simp only [List.filter, hp]
  have hn : ¬h.permits t.entries[i] = true := by rw [hp]; decide
  rw [handAll, hr, hq, stoppedContexts_singleton, List.append_nil, List.map_singleton,
    ofFn_mem_singleton t.entries i fun e => if h.permits e = true then h.queued e else h.denied e, if_neg hn]

theorem handAll_entries (h : Handing) (is : List EntryId) (t : State) (j : EntryId) :
    (handAll h is t).entries[j] = if j ∈ is then
        (if h.permits t.entries[j] = true then h.queued t.entries[j] else h.denied t.entries[j])
      else t.entries[j] := by
  rw [handAll, offerAll_eq]
  simp

/-- A handing leaves the windows, the cache, the walks and the backlog. -/
theorem handAll_frame (h : Handing) (is : List EntryId) (t : State) :
    (handAll h is t).windows = t.windows ∧ (handAll h is t).cache = t.cache ∧ (handAll h is t).walks = t.walks
      ∧ (handAll h is t).backlog = t.backlog := by
  rw [handAll, offerAll_eq]
  exact ⟨rfl, rfl, rfl, rfl⟩

theorem handAll_issueQ (h : Handing) (is : List EntryId) (t : State) :
    (handAll h is t).issueQ = t.issueQ ++ is.filter fun i => h.permits t.entries[i] := by
  rw [handAll, offerAll_eq]

theorem handAll_answerQ (h : Handing) (is : List EntryId) (t : State) :
    (handAll h is t).answerQ = t.answerQ ++ h.refuses is t := by
  rw [handAll, offerAll_eq]

/-- An entry that is not handed on stays loose. -/
theorem Loose.handAll {t : State} {j : EntryId} (hl : Loose t j) (h : Handing) {is : List EntryId} (hj : j ∉ is) :
    Loose (handAll h is t) j := by
  obtain ⟨-, -, hw, hb⟩ := handAll_frame h is t
  have he : (Machine.handAll h is t).entries[j] = t.entries[j] := by rw [handAll_entries, if_neg hj]
  refine ⟨by rw [he]; exact hl.state, by rw [he]; exact hl.marks, ?_, by rw [hb]; exact hl.backlog,
    by rw [hw]; exact hl.waiters⟩
  rw [handAll_issueQ, List.mem_append, not_or]
  exact ⟨hl.issueQ, fun hm => hj (List.mem_of_mem_filter hm)⟩

theorem stoppedBy_idem (c : Context) (kind : FaultKind) : (c.stoppedBy kind).stoppedBy kind = c.stoppedBy kind := by
  rw [stoppedBy_stoppedBy]; split <;> rfl

/-- The stops of two lists, one after the other, are those of the two together (R72). -/
theorem stoppedContexts_append (kind : FaultKind) (as bs : List EntryId) {t u : State}
    (he : ∀ i ∈ bs, u.entries[i] = t.entries[i]) (hc : u.contexts = stoppedContexts kind as t) :
    stoppedContexts kind bs u = stoppedContexts kind (as ++ bs) t := by
  refine vector_ext fun r => ?_
  have same : bs.any (fun i => decide ((u.entries[i]).requester = r))
      = bs.any fun i => decide ((t.entries[i]).requester = r) := by
    rw [Bool.eq_iff_iff, List.any_eq_true, List.any_eq_true]
    exact exists_congr fun i => and_congr_right fun hi => by rw [he i hi]
  rw [stoppedContexts_getElem, stoppedContexts_getElem, hc, stoppedContexts_getElem, same, List.any_append]
  by_cases ha : as.any (fun i => decide ((t.entries[i]).requester = r)) = true
  · simp only [ha, Bool.true_or, if_true, stoppedBy_idem, ite_self]
  · simp only [Bool.not_eq_true] at ha
    simp only [ha, Bool.false_or, Bool.false_eq_true, if_false]

/-- Records pass by a change of the tables that a handing changes. -/
theorem offerAll_tables (rs : List FaultRecord) (s : State) (es : Vector Entry 64) (q a : List EntryId)
    (cs : Vector Context 16) :
    offerAll rs { s with entries := es, issueQ := q, answerQ := a, contexts := cs }
      = { offerAll rs s with entries := es, issueQ := q, answerQ := a, contexts := cs } :=
  offerAll_comm (g := fun u => { u with entries := es, issueQ := q, answerQ := a, contexts := cs })
    (fun _ _ _ _ => rfl) (fun _ => ⟨rfl, rfl, rfl, rfl⟩) rs s

/-- The first entry of a list is handed on, and then the others. -/
theorem handAll_cons (h : Handing) {i : EntryId} {is : List EntryId} (hi : i ∉ is) (t : State) :
    handAll h (i :: is) t = handAll h is (handAll h [i] t) := by
  have other {j : EntryId} (hj : j ∈ is) : (handAll h [i] t).entries[j] = t.entries[j] := by
    rw [handAll_entries, if_neg]
    rw [List.mem_singleton]; rintro rfl; exact hi hj
  have refuses : h.refuses is (handAll h [i] t) = h.refuses is t :=
    List.filter_congr fun j hj => by rw [other hj]
  have permits : is.filter (fun j => h.permits (handAll h [i] t).entries[j])
      = is.filter fun j => h.permits t.entries[j] := List.filter_congr fun j hj => by rw [other hj]
  have notes : (h.refuses is t).map (fun j => rightsNote h.window (handAll h [i] t).entries[j])
      = (h.refuses is t).map fun j => rightsNote h.window t.entries[j] :=
    List.map_congr_left fun j hj => by rw [other (List.mem_of_mem_filter hj)]
  have entries : (Vector.ofFn fun j : Fin 64 => if j ∈ is then
        (if h.permits (handAll h [i] t).entries[j] = true then h.queued (handAll h [i] t).entries[j]
          else h.denied (handAll h [i] t).entries[j]) else (handAll h [i] t).entries[j])
      = Vector.ofFn fun j : Fin 64 => if j ∈ i :: is then
        (if h.permits t.entries[j] = true then h.queued t.entries[j] else h.denied t.entries[j])
        else t.entries[j] := by
    refine congrArg Vector.ofFn (funext fun j => ?_)
    by_cases hj : j ∈ is
    · rw [if_pos hj, if_pos (List.mem_cons_of_mem i hj), other hj]
    · rw [if_neg hj, handAll_entries]
      simp only [List.mem_cons, hj, List.not_mem_nil, or_false]
  have hr : h.refuses (i :: is) t = h.refuses [i] t ++ h.refuses is t := List.filter_append [i] is
  have contexts : stoppedContexts .rights (h.refuses is t) (handAll h [i] t)
      = stoppedContexts .rights (h.refuses (i :: is) t) t := by
    rw [hr]
    refine stoppedContexts_append _ _ _ (fun j hj => other (List.mem_of_mem_filter hj)) ?_
    rw [handAll, offerAll_eq]
  have hq : (i :: is).filter (fun j => h.permits t.entries[j])
      = [i].filter (fun j => h.permits t.entries[j]) ++ is.filter fun j => h.permits t.entries[j] :=
    List.filter_append [i] is
  have rest : handAll h is (handAll h [i] t) =
      offerAll ((h.refuses is t).map fun j => rightsNote h.window t.entries[j])
        { handAll h [i] t with
          entries := Vector.ofFn fun j : Fin 64 => if j ∈ i :: is then
            (if h.permits t.entries[j] = true then h.queued t.entries[j] else h.denied t.entries[j])
            else t.entries[j]
          issueQ := t.issueQ ++ (i :: is).filter fun j => h.permits t.entries[j]
          answerQ := t.answerQ ++ h.refuses (i :: is) t
          contexts := stoppedContexts .rights (h.refuses (i :: is) t) t } := by
    rw [handAll, refuses, permits, notes, entries, contexts, handAll_issueQ, handAll_answerQ, hr, hq,
      ← List.append_assoc, ← List.append_assoc]
  have first := handAll_eq h [i] t
  rw [rest, handAll_eq, first, ← offerAll_tables, hr, List.map_append, offerAll_append]

/-- A list of loose entries handed on one by one, where each step is preceded by what a lookup does aside
(`pre`). -/
theorem foldl_eq_handAll {h : Handing} {step : State → EntryId → State} {pre : State → State} {P : State → Prop}
    (hpre : ∀ (l : List EntryId) (t : State), handAll h l (pre t) = pre (handAll h l t))
    (hloose : ∀ (t : State) (i : EntryId), Loose t i → Loose (pre t) i)
    (hentries : ∀ t : State, (pre t).entries = t.entries)
    (hP : ∀ (t : State) (i : EntryId), P t → P (handAll h [i] (pre t))) {is : List EntryId} (hnd : is.Nodup)
    {s : State} (hs : ∀ i ∈ is, Loose s i) (hs' : P s)
    (hstep : ∀ i ∈ is, ∀ t : State, Loose t i → P t → t.entries[i] = s.entries[i] →
      step t i = handAll h [i] (pre t)) :
    is.foldl step s = handAll h is (pre^[is.length] s) := by
  induction is generalizing s with
  | nil =>
    show s = handAll h [] s
    rw [handAll, Handing.refuses, List.filter_nil, List.map_nil, offerAll_nil, stoppedContexts_nil,
      List.filter_nil, List.append_nil, List.append_nil,
      ofFn_mem_nil s.entries fun e => if h.permits e = true then h.queued e else h.denied e]
  | cons i is ih =>
    obtain ⟨hi, hnd⟩ := List.nodup_cons.mp hnd
    have other {j : EntryId} (hj : j ∈ is) : (handAll h [i] (pre s)).entries[j] = s.entries[j] := by
      rw [handAll_entries, if_neg, hentries]
      rw [List.mem_singleton]; rintro rfl; exact hi hj
    have commute (n : Nat) (t : State) (l : List EntryId) : pre^[n] (handAll h l t) = handAll h l (pre^[n] t) := by
      induction n generalizing t with
      | zero => rfl
      | succ n ihn => rw [Function.iterate_succ_apply, Function.iterate_succ_apply, ← hpre, ihn]
    rw [List.foldl_cons, hstep i List.mem_cons_self s (hs i List.mem_cons_self) hs' rfl,
      ih hnd (fun j hj => ?_) (hP s i hs') (fun j hj t ht hPt he => ?_), commute, ← handAll_cons h hi,
      List.length_cons, Function.iterate_succ_apply]
    · refine (hloose s j (hs j (List.mem_cons_of_mem i hj))).handAll h ?_
      rw [List.mem_singleton]; rintro rfl; exact hi hj
    · exact hstep j (List.mem_cons_of_mem i hj) t ht hPt (he.trans (other hj))

end Sys2Proof.Machine
end

section
/-! SUPPORT. The re-translation of an entry, case by case of its match (R18), the lookup of its page (R21), and the
way to the Walk Unit (R26). -/

namespace Sys2Proof.Machine

/-! ### The match and its outcome (R18) -/

/-- Windows that match only while RETIRING, or none, answer an entry UNMAPPED (R18). -/
theorem retranslate_unmapped {t : State} {i : EntryId} (hs : (t.entries[i]).state = .translating)
    (h : ∀ v : WinId, (t.windows[v]).matches (t.entries[i]).requester (t.entries[i]).dAddr = true →
      (t.windows[v]).state = .retiring) :
    retranslate i t = answerEntry i { status := .unmapped } false t := by
  simp only [retranslate, retranslateWith, hs, if_true]
  split
  · rfl
  next w hm => rw [if_pos (h w (matchWindow_some hm))]; rfl

/-- A VALID window without the entry's kind denies it (R18, R5). -/
theorem retranslate_denied {t : State} {i : EntryId} {w : WinId} (hs : (t.entries[i]).state = .translating)
    (hm : Matches t (t.entries[i]).requester (t.entries[i]).dAddr w) (hv : (t.windows[w]).state = .valid)
    (hp : (t.windows[w]).rights.permits (t.entries[i]).kind = false) : retranslate i t = denyEntry i w t := by
  simp only [retranslate, retranslateWith, hs, if_true, matchWindow_of_matches hm, hv, hp, reduceCtorEq, if_false,
    Bool.false_eq_true]

/-- A VALID window with the entry's kind translates it (R18). -/
theorem retranslate_allowed {t : State} {i : EntryId} {w : WinId} (hs : (t.entries[i]).state = .translating)
    (hm : Matches t (t.entries[i]).requester (t.entries[i]).dAddr w) (hv : (t.windows[w]).state = .valid)
    (hp : (t.windows[w]).rights.permits (t.entries[i]).kind = true) :
    retranslate i t = translateIn missEntry i w t := by
  simp only [retranslate, retranslateWith, hs, if_true, matchWindow_of_matches hm, hv, hp, reduceCtorEq, if_false]

/-! ### The window's mode (R7, R8) -/

/-- The entry as translation in window `w` leaves it before the outcome (R18). -/
def Entry.placedIn (e : Entry) (win : Window) (w : WinId) : Entry :=
  { e with window := w, page := pageOf win e.dAddr, hostAddr := none }

/-- A DIRECT window queues the entry (R7). -/
theorem translateIn_direct {t : State} {i : EntryId} {w : WinId} (hs : (t.entries[i]).state = .translating)
    (hd : (t.windows[w]).mode = some .direct) :
    translateIn missEntry i w t =
      { t with
        entries := t.entries.set i
          { (t.entries[i]).placedIn t.windows[w] w with
            state := .queued, hostAddr := some (directAddr t.windows[w] (t.entries[i]).dAddr) }
        issueQ := t.issueQ ++ [i] } := by
  have hq : ((setEntry i ((t.entries[i]).placedIn t.windows[w] w) t).entries[i]).state = .translating := by
    rw [setEntry_entries, set_getElem, if_pos rfl]; exact hs
  simp only [translateIn, hd, if_true]
  show queueEntry i _ (setEntry i ((t.entries[i]).placedIn t.windows[w] w) t) = _
  rw [queueEntry_of_translating i _ _ hq]
  simp only [setEntry_entries, set_getElem, if_true, Vector.set_set]
  rfl

/-- A MAPPED window looks the entry's page up (R8, R21). -/
theorem translateIn_mapped {t : State} {i : EntryId} {w : WinId} (hd : (t.windows[w]).mode = some .mapped) :
    translateIn missEntry i w t = lookup missEntry i w (pageOf t.windows[w] (t.entries[i]).dAddr)
      (setEntry i ((t.entries[i]).placedIn t.windows[w] w) t) := by
  simp only [translateIn, hd, reduceCtorEq, Option.some.injEq, if_false]
  rfl

/-- A VALID MAPPED window with the entry's kind looks the entry's page up (R18). -/
theorem retranslate_mapped {t : State} {i : EntryId} {w : WinId} {p : Nat}
    (hs : (t.entries[i]).state = .translating)
    (hm : Matches t (t.entries[i]).requester (t.entries[i]).dAddr w) (hv : (t.windows[w]).state = .valid)
    (hp : (t.windows[w]).rights.permits (t.entries[i]).kind = true) (hd : (t.windows[w]).mode = some .mapped)
    (hpage : pageOf t.windows[w] (t.entries[i]).dAddr = p) :
    retranslate i t = lookup missEntry i w p (setEntry i ((t.entries[i]).placedIn t.windows[w] w) t) := by
  rw [retranslate_allowed hs hm hv hp, translateIn_mapped hd, hpage]

/-! ### The lookup (R21) -/

/-- The one cache entry of a page is the one that the search finds (R20). -/
theorem find?_cacheKey_of_mem {l : List CacheEntry} (hl : l.Pairwise CacheEntry.Apart) {c : CacheEntry} {w : WinId}
    {p : Nat} (hc : c ∈ l) (hw : c.window = w) (hp : c.page = p) : l.find? (cacheKey w p) = some c := by
  cases hf : l.find? (cacheKey w p) with
  | none =>
    have := List.find?_eq_none.mp hf c hc
    simp [cacheKey, hw, hp] at this
  | some d =>
    obtain ⟨hd, hdw, hdp⟩ := find?_cacheKey hf
    by_contra hne
    have : Std.Symm CacheEntry.Apart := ⟨fun a b h e => h ⟨e.1.symm, e.2.symm⟩⟩
    exact hl.forall hd hc (fun e => hne (congrArg some e)) ⟨hdw.trans hw.symm, hdp.trans hp.symm⟩

/-- The Map Cache after a hit of entry `c` (R20). -/
def movedFront (w : WinId) (p : Nat) (c : CacheEntry) (l : List CacheEntry) : List CacheEntry :=
  c :: l.filter fun x => !cacheKey w p x

/-- A lookup that hits a good entry (R21). -/
theorem lookup_hit {t : State} {i : EntryId} {w : WinId} {p : Nat} {c : CacheEntry}
    (hf : t.cache.find? (cacheKey w p) = some c) (hu : c.upset = false) :
    lookup missEntry i w p t
      = takeFrame i w c.rights c.frame (bump cacheHits { t with cache := movedFront w p c t.cache }) := by
  simp only [lookup, hf, hu, Bool.false_eq_true, if_false]
  rfl

/-- A lookup of a page that is not cached (R21). -/
theorem lookup_miss {t : State} {i : EntryId} {w : WinId} {p : Nat} (hu : Uncached t w p) :
    lookup missEntry i w p t = missEntry i w p (bump cacheMisses t) := by
  simp only [lookup, find?_cacheKey_none.mpr hu]

/-- A map entry with the kind in its effective rights queues the entry (R5, R8). -/
theorem takeFrame_permitted {t : State} {i : EntryId} {w : WinId} {r : Rights} {f : BitVec 36}
    (hs : (t.entries[i]).state = .translating)
    (hp : ((t.windows[w]).rights.meet r).permits (t.entries[i]).kind = true) :
    takeFrame i w r f t =
      { t with
        entries := t.entries.set i
          { t.entries[i] with state := .queued, hostAddr := some (frameAddr f (t.entries[i]).dAddr) }
        issueQ := t.issueQ ++ [i] } := by
  simp only [takeFrame, hp, if_true]
  exact queueEntry_of_translating i _ t hs

/-- A map entry without the kind in its effective rights denies the entry (R5). -/
theorem takeFrame_denied {t : State} {i : EntryId} {w : WinId} {r : Rights} {f : BitVec 36}
    (hp : ((t.windows[w]).rights.meet r).permits (t.entries[i]).kind = false) :
    takeFrame i w r f t = denyEntry i w t := by
  simp only [takeFrame, hp, Bool.false_eq_true, if_false]

/-! ### The way to the Walk Unit (R26) -/

/-- The only walk that covers a page is the one that the search finds (R25, R26). -/
theorem coveringWalk_of_alone {t : State} {k : WalkId} {w : WinId} {p : Nat} (hk : covers t k)
    (hw : (t.walks[k]).window = w) (hp : (t.walks[k]).page = p)
    (alone : ∀ j : WalkId, j ≠ k → covers t j → ¬((t.walks[j]).window = w ∧ (t.walks[j]).page = p)) :
    coveringWalk t w p = some k := by
  refine find?_finRange_first _ k ?_ fun j hj => ?_
  · simp [hk.1, hk.2, hw, hp, -Fin.getElem_fin]
  · rw [← Bool.not_eq_true]
    intro h
    simp only [Bool.and_eq_true, Bool.not_eq_true', decide_eq_true_eq] at h
    obtain ⟨⟨⟨hu, hs⟩, hjw⟩, hjp⟩ := h
    exact alone j (Fin.ne_of_lt hj) ⟨hu, hs⟩ ⟨hjw, hjp⟩

/-- No second walk covers a page (R26). -/
theorem CacheLaw.alone {t : State} (hc : CacheLaw t) {k : WalkId} {w : WinId} {p : Nat} (hk : covers t k)
    (hw : (t.walks[k]).window = w) (hp : (t.walks[k]).page = p) {j : WalkId} (hj : j ≠ k) (hcov : covers t j) :
    ¬((t.walks[j]).window = w ∧ (t.walks[j]).page = p) := by
  obtain ⟨-, -, -, alone⟩ := hc
  exact fun h => alone j k hj hcov hk ⟨h.1.trans hw.symm, h.2.trans hp.symm⟩

/-- The one walk that covers a page is the one that the search finds (R25, R26). -/
theorem coveringWalk_of {t : State} (hc : CacheLaw t) {k : WalkId} {w : WinId} {p : Nat} (hk : covers t k)
    (hw : (t.walks[k]).window = w) (hp : (t.walks[k]).page = p) : coveringWalk t w p = some k :=
  coveringWalk_of_alone hk hw hp fun _ hj hcov => hc.alone hk hw hp hj hcov

/-- A miss merges into the walk that covers its page (R26, step 1). -/
theorem missEntry_join {t : State} {i : EntryId} {k : WalkId} {w : WinId} {p : Nat}
    (h : coveringWalk t w p = some k) : missEntry i w p t = joinWalk k i t := by
  simp only [missEntry, goToWalk, h]

/-- A miss waits in the backlog while every walk slot is busy (R26, step 3; R28). -/
theorem missEntry_backlog {t : State} {i : EntryId} {w : WinId} {p : Nat} (hc : Uncovered t w p)
    (hb : ∀ k : WalkId, (t.walks[k]).state ≠ .free) :
    missEntry i w p t = { t with backlog := t.backlog ++ [i] } := by
  have hfree : lowestFreeWalk t = none := by
    simpa only [lowestFreeWalk, List.find?_eq_none, List.mem_finRange, true_implies, decide_eq_true_eq] using hb
  simp only [missEntry, goToWalk, coveringWalk_none.mpr hc, hfree]

/-- A miss starts a walk in the lowest-numbered FREE slot, when no backlog entry holds its page
(R26, step 2; R27). -/
theorem missEntry_start {t : State} {i : EntryId} {k : WalkId} {w : WinId} {p : Nat} (hc : Uncovered t w p)
    (hk : LowestFreeWalk t k)
    (hb : ∀ j ∈ t.backlog, ¬((t.entries[j]).window = w ∧ (t.entries[j]).page = p)) :
    missEntry i w p t = startWalk k i w p t := by
  have none (j : EntryId) (hj : j ∈ t.backlog) : holdsPage (startWalk k i w p t) w p j = false := by
    rw [← Bool.not_eq_true, holdsPage, Bool.and_eq_true, decide_eq_true_eq, decide_eq_true_eq]
    exact hb j hj
  have moved : t.backlog.filter (holdsPage (startWalk k i w p t) w p) = [] :=
    List.filter_eq_nil_iff.mpr fun j hj => by rw [none j hj]; decide
  have stay : t.backlog.filter (fun j => !holdsPage (startWalk k i w p t) w p j) = t.backlog :=
    List.filter_eq_self.mpr fun j hj => by rw [none j hj]; rfl
  have hbl : (startWalk k i w p t).backlog = t.backlog := rfl
  simp only [missEntry, goToWalk, coveringWalk_none.mpr hc, lowestFreeWalk_of hk, hbl, moved, stay,
    List.foldl_nil]
  rfl

/-! ### Acceptance (R49, R50) -/

/-- The translation of an accepted request starts from `acceptedTo` (R49). -/
theorem acceptRequest_eq (i : EntryId) (r : ReqId) (p : ReqPacket) (w : WinId) (s : State)
    (rest : List ReqPacket) :
    acceptRequest i r p w { s with dReqIn := rest }
      = translateIn missEntry i w (acceptedTo rest i r (acceptedAs s p r w) s) := rfl

theorem acceptedTo_entry (rest : List ReqPacket) (i : EntryId) (r : ReqId) (e : Entry) (s : State) :
    (acceptedTo rest i r e s).entries[i] = e := by
  rw [acceptedTo, bump_entries, set_getElem, if_pos rfl]

/-- A request that passes every check is accepted into its entry (R44, R49). -/
theorem intake_of_admissible {s : State} {p : ReqPacket} {rest : List ReqPacket} {i : EntryId} {r : ReqId}
    {w : WinId} (h : Admissible s p rest i r w) :
    exec .intakeTakeRequest s = .next
      (conclude s (translateIn missEntry i w (acceptedTo rest i r (acceptedAs s p r w) s))) := by
  obtain ⟨ht, h6, hm, hv, hp⟩ := h
  rw [intake_of_takeable ht, checkRequest_of_passesSix h6, matchWindow_of_matches hm]
  simp only [hv, hp, reduceCtorEq, if_false, if_true]
  rw [acceptRequest_eq]

/-- Settles O11: the entry is queued by the window's DIRECT address. -/
theorem intakeAcceptsDirect : Obligations.IntakeAcceptsDirect := by
  intro s p rest i r w h hd a e
  have he := acceptedTo_entry rest i r (acceptedAs s p r w) s
  have hw : (acceptedTo rest i r (acceptedAs s p r w) s).windows = s.windows := bump_windows _ _
  have hset : (acceptedTo rest i r (acceptedAs s p r w) s).entries.set i e = s.entries.set i e := by
    rw [acceptedTo, bump_entries, Vector.set_set]
  have hq : translateIn missEntry i w (acceptedTo rest i r (acceptedAs s p r w) s)
      = { acceptedTo rest i r e s with issueQ := s.issueQ ++ [i] } := by
    rw [translateIn_direct (by rw [he]; rfl) (by rw [hw]; exact hd), he, hw]
    show ({ acceptedTo rest i r (acceptedAs s p r w) s with
      entries := (acceptedTo rest i r (acceptedAs s p r w) s).entries.set i e
      issueQ := (acceptedTo rest i r (acceptedAs s p r w) s).issueQ ++ [i] } : State) = _
    rw [hset]
    rfl
  rw [intake_of_admissible h, hq]
  exact congrArg _ (conclude_same rfl rfl rfl id)

/-! ### A MAPPED window at intake (R49, R50) -/

theorem mem_waitingEntries {s : State} {i : EntryId} :
    i ∈ waitingEntries s ↔ (∃ k : WalkId, i ∈ (s.walks[k]).waiters) ∨ i ∈ s.backlog := by
  simp only [waitingEntries, List.mem_append]
  constructor
  · rintro ((((h | h) | h) | h) | h)
    exacts [.inl ⟨0, h⟩, .inl ⟨1, h⟩, .inl ⟨2, h⟩, .inl ⟨3, h⟩, .inr h]
  · rintro (⟨k, h⟩ | h)
    · match k with
      | 0 => exact .inl (.inl (.inl (.inl h)))
      | 1 => exact .inl (.inl (.inl (.inr h)))
      | 2 => exact .inl (.inl (.inr h))
      | 3 => exact .inl (.inr h)
    · exact .inr h

/-- An entry that is not TRANSLATING waits on no walk and not in the backlog (R25, R28). -/
theorem PlaceLaw.not_waiting {s : State} (h : PlaceLaw s) {i : EntryId}
    (hi : (s.entries[i]).state ≠ .translating) : i ∉ s.backlog ∧ ∀ k : WalkId, i ∉ (s.walks[k]).waiters := by
  obtain ⟨-, -, -, -, -, waits, -, -⟩ := h
  have hn : i ∉ waitingEntries s := fun hm => hi ((waits i).mp hm)
  rw [mem_waitingEntries, not_or, not_exists] at hn
  exact ⟨hn.2, hn.1⟩

/-- The stop of a denied requester comes to the same before and after the trigger (R72, R141). -/
theorem noteRecords_stop (rs : List FaultRecord) (kind : FaultKind) (r : ReqId) (v : State) :
    { noteRecords rs v with
      contexts := (noteRecords rs v).contexts.set r (((noteRecords rs v).contexts[r]).stoppedBy kind) }
      = noteRecords rs { v with contexts := v.contexts.set r ((v.contexts[r]).stoppedBy kind) } := by
  rw [noteRecords_contexts]
  exact (noteRecords_contexts_comm _ _ _).symm

/-- The close of a happening whose one record is a stopping fault (R72, R141). -/
theorem conclude_stop {before v : State} (rec : FaultRecord) (kind : FaultKind) (r : ReqId)
    (hf : v.fences = before.fences) (hr : v.faults = before.faults) (ha : v.alertSlot = before.alertSlot)
    (ho : v.ownList = [] → before.ownList = []) :
    conclude before (offerAll [rec] { v with contexts := v.contexts.set r ((v.contexts[r]).stoppedBy kind) })
      = { noteRecords [rec] v with
          contexts := (noteRecords [rec] v).contexts.set r (((noteRecords [rec] v).contexts[r]).stoppedBy kind) } :=
  (conclude_offerAll [rec] (s := { v with contexts := v.contexts.set r ((v.contexts[r]).stoppedBy kind) })
    hf hr ha ho).trans (noteRecords_stop [rec] kind r v).symm

theorem setEntry_acceptedTo (rest : List ReqPacket) (i : EntryId) (r : ReqId) (e : Entry) (s : State) :
    setEntry i e (acceptedTo rest i r e s) = acceptedTo rest i r e s := by
  have : (acceptedTo rest i r e s).entries.set i e = (acceptedTo rest i r e s).entries := by
    rw [acceptedTo, bump_entries, Vector.set_set]
  rw [setEntry, this]

/-- A request that passes every check and matches a MAPPED window looks its page up (R50). -/
theorem intake_of_mapped {s : State} {p : ReqPacket} {rest : List ReqPacket} {i : EntryId} {r : ReqId} {w : WinId}
    (h : Admissible s p rest i r w) (hd : (s.windows[w]).mode = some .mapped) :
    exec .intakeTakeRequest s = .next (conclude s (lookup missEntry i w (acceptedAs s p r w).page
      (acceptedTo rest i r (acceptedAs s p r w) s))) := by
  have he := acceptedTo_entry rest i r (acceptedAs s p r w) s
  have hw : (acceptedTo rest i r (acceptedAs s p r w) s).windows = s.windows := bump_windows _ _
  rw [intake_of_admissible h, translateIn_mapped (by rw [hw]; exact hd), he, hw]
  show Host.Outcome.next (conclude s (lookup missEntry i w (acceptedAs s p r w).page
    (setEntry i (acceptedAs s p r w) (acceptedTo rest i r (acceptedAs s p r w) s)))) = _
  rw [setEntry_acceptedTo]

/-- The entry of an accepted request stands nowhere yet: it was FREE (R49, R55). -/
theorem loose_accepted {s : State} (hpl : PlaceLaw s) {i : EntryId} (hi : (s.entries[i]).state = .free)
    {t : State} {e : Entry} (he : t.entries[i] = e) (hs : e.state = .translating) (hm : e.marks = noMarks)
    (hq : t.issueQ = s.issueQ) (hb : t.backlog = s.backlog) (hw : t.walks = s.walks) : Loose t i := by
  obtain ⟨nb, nw⟩ := hpl.not_waiting (i := i) (by rw [hi]; decide)
  obtain ⟨-, queued, -⟩ := hpl
  refine ⟨by rw [he]; exact hs, by rw [he]; exact hm, ?_, by rw [hb]; exact nb, by rw [hw]; exact nw⟩
  rw [hq, queued, hi]; decide

/-- Settles O12: a hit queues or denies the entry, a miss goes to the walk, the slot or the backlog of R26. -/
theorem intakeLooksUpMapped : Obligations.IntakeLooksUpMapped := by
  intro s p rest i r w hpl hcl h hd a e u
  have hfree : (s.entries[i]).state = .free := h.1.2.2.1
  have he : u.entries[i] = e := acceptedTo_entry rest i r e s
  have hset (x : Entry) : u.entries.set i x = s.entries.set i x := by
    show (acceptedTo rest i r e s).entries.set i x = _
    rw [acceptedTo, bump_entries, Vector.set_set]
  rw [intake_of_mapped h hd]
  refine ⟨?_, ?_⟩
  · intro c hc hcw hcp hcu v
    have hfind : u.cache.find? (cacheKey w e.page) = some c := find?_cacheKey_of_mem hcl.1 hc hcw hcp
    have hit : lookup missEntry i w e.page u = takeFrame i w c.rights c.frame v := lookup_hit hfind hcu
    have hve : v.entries[i] = e := he
    refine ⟨?_, ?_⟩
    · intro hp
      have queued : takeFrame i w c.rights c.frame v
          = { v with
              entries := s.entries.set i
                { e with state := .queued, hostAddr := some (c.frame ++ a.extractLsb' 0 14) }
              issueQ := s.issueQ ++ [i] } := by
        rw [takeFrame_permitted (by rw [hve]; rfl) (by rw [hve]; exact hp), hve, ← hset]
        rfl
      rw [hit, queued]
      exact congrArg _ (conclude_same rfl rfl rfl id)
    · intro hp x
      have loose : Loose v i := loose_accepted hpl hfree hve rfl rfl rfl rfl rfl
      have denied : takeFrame i w c.rights c.frame v
          = offerAll [rightsNote w e]
              { v with
                entries := s.entries.set i (e.answered { status := .denied } false)
                answerQ := s.answerQ ++ [i]
                contexts := v.contexts.set r ((v.contexts[r]).stoppedBy .rights) } := by
        rw [takeFrame_denied (by rw [hve]; exact hp), denyEntry_of_loose loose w hve, ← hset]
        rfl
      rw [hit, denied]
      exact congrArg _ (conclude_stop (rightsNote w e) .rights r (v := { v with
        entries := s.entries.set i (e.answered { status := .denied } false)
        answerQ := s.answerQ ++ [i] }) rfl rfl rfl id)
  · intro hmiss v
    have missed : lookup missEntry i w e.page u = missEntry i w e.page v := lookup_miss hmiss
    have hve : ∀ j : EntryId, j ≠ i → v.entries[j] = s.entries[j] := fun j hj => by
      show (s.entries.set i e)[j] = _
      rw [set_getElem, if_neg hj]
    rw [missed]
    refine ⟨fun k hk hkw hkp => ?_, fun hno => ⟨fun k hk hbl => ?_, fun hbusy => ?_⟩⟩
    · have hcov : coveringWalk v w e.page = some k := coveringWalk_of (t := s) hcl hk hkw hkp
      rw [missEntry_join hcov]
      exact congrArg _ (conclude_same rfl rfl rfl id)
    · rw [missEntry_start (t := v) hno hk fun j hj => ?_]
      · exact congrArg _ (conclude_same rfl rfl rfl fun h => absurd h (by simp [startWalk]))
      · rw [hve j]
        · exact hbl j hj
        · rintro rfl
          exact (hpl.not_waiting (i := j) (by rw [hfree]; decide)).1 hj
    · rw [missEntry_backlog (t := v) hno hbusy]
      exact congrArg _ (conclude_same rfl rfl rfl id)

end Sys2Proof.Machine
end

section
/-! SUPPORT. Completions at a walk slot: the slot that becomes FREE, the waiters that it leaves loose, the check of
its word, and the late completion (R31 to R35, R39). -/

namespace Sys2Proof.Machine

/-! ### Matching (R93) -/

theorem ownerOf_walk {src : Source} {tag : Tag} {k : WalkId} (hs : src = 31) (ht : tag.toNat = 64 + k.val) :
    ownerOf src tag = .walk k := by
  have hk := k.isLt
  have h64 : ¬tag.toNat < 64 := by omega
  have hin : tag.toNat - 64 < 4 := by omega
  have hsrc : ¬src ≠ bridgeSource := by rw [hs]; decide
  have he : (⟨tag.toNat - 64, hin⟩ : WalkId) = k := Fin.ext (by simp only; omega)
  rw [ownerOf, if_neg hsrc, dif_neg h64, dif_pos hin, he]

theorem ownerOf_entry {src : Source} {tag : Tag} {i : EntryId} (hs : src = 31) (ht : tag.toNat = i.val) :
    ownerOf src tag = .entry i := by
  have hi := i.isLt
  have hin : tag.toNat < 64 := by omega
  have hsrc : ¬src ≠ bridgeSource := by rw [hs]; decide
  have he : (⟨tag.toNat, hin⟩ : EntryId) = i := Fin.ext ht
  rw [ownerOf, if_neg hsrc, dif_pos hin, he]

/-- The completion that a walk slot's tag names is taken at that slot (R93). -/
theorem matching_of_walk {s : State} {p : CplPacket} {rest : List CplPacket} {k : WalkId}
    (h : CompletionFor s p rest (64 + k.val)) :
    exec .completionMatching s = .next (conclude s (matchWalk k p { s with uCplIn := rest })) := by
  obtain ⟨hq, hs, ht⟩ := h
  show execCompletionMatching s = _
  simp only [execCompletionMatching, hq, takeCompletion, ownerOf_walk hs ht]

/-- The completion that an entry's tag names is taken at that entry (R93). -/
theorem matching_of_entry {s : State} {p : CplPacket} {rest : List CplPacket} {i : EntryId}
    (h : CompletionFor s p rest i.val) :
    exec .completionMatching s = .next (conclude s (matchEntry i p { s with uCplIn := rest })) := by
  obtain ⟨hq, hs, ht⟩ := h
  show execCompletionMatching s = _
  simp only [execCompletionMatching, hq, takeCompletion, ownerOf_entry hs ht]

/-! ### The slot becomes FREE (R32) -/

/-- A walk slot that is not QUEUED has no read in the own list (R83). -/
theorem OwnListLaw.not_listed {s : State} (h : OwnListLaw s) {k : WalkId} (hk : (s.walks[k]).state ≠ .queued) :
    OwnRequest.walk k ∉ s.ownList := by
  obtain ⟨-, -, own, -⟩ := h
  exact fun hm => hk ((own k).mp hm)

/-- A walk slot with no read in the own list becomes FREE, and nothing else changes (R32). -/
theorem freeWalk_of_notListed {t : State} {k : WalkId} (h : OwnRequest.walk k ∉ t.ownList) :
    freeWalk k t = { t with walks := t.walks.set k {} } := by
  have : t.ownList.filter (· ≠ .walk k) = t.ownList :=
    List.filter_eq_self.mpr fun o ho => decide_eq_true fun e => h (by rw [← e]; exact ho)
  rw [freeWalk, this]
  rfl

/-- A walk that covers after a slot became FREE covered before, in another slot (R25). -/
theorem covers_freed {s t : State} {k : WalkId} (h : t.walks = s.walks.set k {}) {j : WalkId} :
    covers t j ↔ j ≠ k ∧ covers s j := by
  rw [covers, h, set_getElem]
  by_cases hj : j = k
  · simp [hj, SlotState.underWay]
  · simp only [hj, if_false, ne_eq, not_false_eq_true, true_and, covers]

theorem Uncovered.freed {s t : State} {k : WalkId} {w : WinId} {p : Nat} (hu : Uncovered s w p)
    (h : t.walks = s.walks.set k {}) : Uncovered t w p := by
  intro j hj
  obtain ⟨hne, hc⟩ := (covers_freed h).mp hj
  rw [h, set_getElem, if_neg hne]
  exact hu j hc

theorem serveBacklog_nil {t : State} (k : WalkId) (h : t.backlog = []) : serveBacklog k t = t := by
  rw [serveBacklog, h]; rfl

/-- One backlog entry is served into a FREE slot (R29). -/
theorem serveBacklog_singleton {t : State} {k : WalkId} {i : EntryId} (hb : t.backlog = [i])
    (hk : (t.walks[k]).state = .free) : serveBacklog k t = retranslate i { t with backlog := [] } := by
  rw [serveBacklog, hb]
  simp only [List.length_singleton, serveSteps, hk, if_true, hb]

/-! ### Records and the tables -/

section OfferAll

variable (rs : List FaultRecord) (s : State)

@[simp] theorem offerAll_windows : (offerAll rs s).windows = s.windows := by rw [offerAll_eq]
@[simp] theorem offerAll_cache : (offerAll rs s).cache = s.cache := by rw [offerAll_eq]
@[simp] theorem offerAll_walks : (offerAll rs s).walks = s.walks := by rw [offerAll_eq]
@[simp] theorem offerAll_backlog : (offerAll rs s).backlog = s.backlog := by rw [offerAll_eq]
@[simp] theorem offerAll_entries : (offerAll rs s).entries = s.entries := by rw [offerAll_eq]
@[simp] theorem offerAll_issueQ : (offerAll rs s).issueQ = s.issueQ := by rw [offerAll_eq]
@[simp] theorem offerAll_answerQ : (offerAll rs s).answerQ = s.answerQ := by rw [offerAll_eq]
@[simp] theorem offerAll_contexts : (offerAll rs s).contexts = s.contexts := by rw [offerAll_eq]
@[simp] theorem offerAll_ownList : (offerAll rs s).ownList = s.ownList := by rw [offerAll_eq]

theorem offerAll_setEntry (i : EntryId) (e : Entry) :
    offerAll rs (setEntry i e s) = setEntry i e (offerAll rs s) :=
  offerAll_comm (g := setEntry i e) (fun _ _ _ _ => rfl) (fun _ => ⟨rfl, rfl, rfl, rfl⟩) rs s

theorem offerAll_bump (c : Counter) : offerAll rs (bump c s) = bump c (offerAll rs s) :=
  offerAll_comm (g := bump c) (fun _ _ _ _ => by cases c <;> rfl)
    (fun u => ⟨bump_faults c u, bump_lost c u, bump_overflowPending c u, bump_now c u⟩) rs s

theorem offerAll_startWalk (k : WalkId) (i : EntryId) (w : WinId) (p : Nat) :
    offerAll rs (startWalk k i w p s) = startWalk k i w p (offerAll rs s) :=
  offerAll_comm (g := startWalk k i w p) (fun _ _ _ _ => rfl) (fun _ => ⟨rfl, rfl, rfl, rfl⟩) rs s

end OfferAll

/-! ### The late completion (R39) -/

/-- The end of an ABANDONED walk slot at a late completion, before the backlog is served (R39). -/
theorem matchWalk_abandoned {s : State} {k : WalkId} (p : CplPacket) (rest : List CplPacket)
    (hout : OwnRequest.walk k ∉ s.ownList) (hab : (s.walks[k]).state = .abandoned) :
    matchWalk k p { s with uCplIn := rest } = serveBacklog k
      (offerAll [{ kind := .lateCompletion, window := some (s.walks[k]).window,
                   hostAddr := some (s.walks[k]).mapAddr }]
        (bump lateCompletions { s with uCplIn := rest, walks := s.walks.set k {} })) := by
  have hst : (({ s with uCplIn := rest } : State).walks[k]).state = .abandoned := hab
  simp only [matchWalk, hst, lateWalk]
  refine congrArg (serveBacklog k) ?_
  show freeWalk k (offerAll [abandonedWalkRecord .lateCompletion k { s with uCplIn := rest }]
    (bump lateCompletions { s with uCplIn := rest })) = _
  rw [freeWalk_of_notListed (by rw [offerAll_ownList]; exact hout), offerAll_walks]
  exact (offerAll_comm (g := fun u => { u with walks := s.walks.set k {} })
    (fun _ _ _ _ => rfl) (fun _ => ⟨rfl, rfl, rfl, rfl⟩) _ _).symm

/-- Settles O27: the freed slot takes the one backlog entry's walk, or nothing. -/
theorem lateWalkFreesAndServes : Obligations.LateWalkFreesAndServes := by
  intro s p rest k i w hown hcpl hab note e win page
  have hout := hown.not_listed (k := k) (by rw [hab]; decide)
  rw [matching_of_walk hcpl, matchWalk_abandoned p rest hout hab]
  refine ⟨fun hb => ?_, fun hb htr hm hv hd hp hmiss hno hbusy => ?_⟩
  · rw [serveBacklog_nil k (by rw [offerAll_backlog]; exact hb)]
    exact congrArg _ (conclude_offerAll [note] rfl rfl rfl id)
  · have free : ((s.walks.set k {})[k]).state = .free := by rw [set_getElem, if_pos rfl]
    -- the state in which the one backlog entry re-translates
    let z := offerAll [note]
      (bump lateCompletions { s with uCplIn := rest, walks := s.walks.set k {}, backlog := [] })
    have served : serveBacklog k (offerAll [note]
        (bump lateCompletions { s with uCplIn := rest, walks := s.walks.set k {} })) = retranslate i z := by
      rw [serveBacklog_singleton (i := i) (by rw [offerAll_backlog]; exact hb) (by rw [offerAll_walks]; exact free)]
      exact congrArg (retranslate i) (offerAll_comm (g := fun u => { u with backlog := [] })
        (fun _ _ _ _ => rfl) (fun _ => ⟨rfl, rfl, rfl, rfl⟩) [note] _).symm
    have ze : z.entries = s.entries := offerAll_entries _ _
    have zw : z.windows = s.windows := offerAll_windows _ _
    have zl : z.walks = s.walks.set k {} := offerAll_walks _ _
    have zc : z.cache = s.cache := offerAll_cache _ _
    have zb : z.backlog = [] := offerAll_backlog _ _
    have first : LowestFreeWalk z k := by
      refine ⟨by rw [zl]; exact free, fun j hj => ?_⟩
      rw [zl, set_getElem, if_neg (Fin.ne_of_lt hj)]
      exact hbusy j (Fin.ne_of_lt hj)
    have allowed : retranslate i z = translateIn missEntry i w z :=
      retranslate_allowed (by rw [ze]; exact htr) (by rw [Matches, zw, ze]; exact hm) (by rw [zw]; exact hv)
        (by rw [zw, ze]; exact hp)
    have looked : translateIn missEntry i w z = lookup missEntry i w page (setEntry i (e.placedIn win w) z) := by
      rw [translateIn_mapped (by rw [zw]; exact hd), zw, ze]
      rfl
    have missed : lookup missEntry i w page (setEntry i (e.placedIn win w) z)
        = missEntry i w page (bump cacheMisses (setEntry i (e.placedIn win w) z)) :=
      lookup_miss (by simp only [Uncached, setEntry_cache, zc]; exact hmiss)
    have started : missEntry i w page (bump cacheMisses (setEntry i (e.placedIn win w) z))
        = startWalk k i w page (bump cacheMisses (setEntry i (e.placedIn win w) z)) :=
      missEntry_start (hno.freed (k := k) (by rw [bump_walks, setEntry_walks, zl]))
        (by simpa only [LowestFreeWalk, bump_walks, setEntry_walks] using first)
        (by rw [bump_backlog, setEntry_backlog, zb]; simp)
    rw [served, allowed, looked, missed, started]
    -- the walk that starts, with its record still to be made
    let v (x : Vector WalkSlot 4) : State := bump lateCompletions (bump cacheMisses
      { s with
        uCplIn := rest, backlog := [], walks := x, ownList := s.ownList ++ [.walk k]
        entries := s.entries.set i { e with window := w, page := page, hostAddr := none } })
    have unrecorded : startWalk k i w page (bump cacheMisses (setEntry i (e.placedIn win w)
        (bump lateCompletions { s with uCplIn := rest, walks := s.walks.set k {}, backlog := [] })))
          = v (s.walks.set k (startedWalk s i w page)) :=
      congrArg v (Vector.set_set (xs := s.walks) (b := startedWalk s i w page) ({} : WalkSlot) k.isLt)
    have recorded : startWalk k i w page (bump cacheMisses (setEntry i (e.placedIn win w) z))
        = offerAll [note] (v (s.walks.set k (startedWalk s i w page))) := by
      rw [← unrecorded, offerAll_startWalk, offerAll_bump, offerAll_setEntry]
    have listed : (v (s.walks.set k (startedWalk s i w page))).ownList ≠ [] := by
      show s.ownList ++ [.walk k] ≠ []
      simp
    rw [recorded]
    exact congrArg _ (conclude_offerAll [note] (s := v (s.walks.set k (startedWalk s i w page))) rfl rfl rfl
      fun h => absurd h listed)

end Sys2Proof.Machine
end

section
/-! SUPPORT. The word that a walk brings: its check's records, the waiters that the freed slot leaves loose, and
their handing on or their answer (R11 to R13, R32 to R35). -/

namespace Sys2Proof.Machine

/-! ### The waiters of a walk (R25) -/

theorem waitingEntries_eq (s : State) :
    waitingEntries s = (List.finRange 4).flatMap (fun k => (s.walks[k]).waiters) ++ s.backlog := by
  have : List.finRange 4 = [0, 1, 2, 3] := rfl
  rw [this]
  simp [waitingEntries]

/-- The waiters of a walk are distinct, TRANSLATING, and wait on no other walk (R25). -/
theorem PlaceLaw.waiters {s : State} (h : PlaceLaw s) (k : WalkId) :
    (s.walks[k]).waiters.Nodup ∧ ∀ i ∈ (s.walks[k]).waiters, (s.entries[i]).state = .translating
      ∧ ∀ j : WalkId, j ≠ k → i ∉ (s.walks[j]).waiters := by
  obtain ⟨-, -, -, -, nodup, waits, -, -⟩ := h
  rw [waitingEntries_eq] at nodup
  obtain ⟨each, apart⟩ := List.nodup_flatMap.mp (List.nodup_append.mp nodup).1
  refine ⟨each k (List.mem_finRange k), fun i hi => ⟨(waits i).mp (mem_waitingEntries.mpr (.inl ⟨k, hi⟩)), ?_⟩⟩
  intro j hj hij
  have : Std.Symm (Function.onFun List.Disjoint fun k : WalkId => (s.walks[k]).waiters) :=
    ⟨fun a b hab => List.Disjoint.symm hab⟩
  exact apart.forall (List.mem_finRange j) (List.mem_finRange k) hj hij hi

/-- An entry in a state that no fence marks carries no mark (R118). -/
theorem MarkLaw.unmarked {s : State} (h : MarkLaw s) {i : EntryId} (hi : (s.entries[i]).state.markable = false) :
    (s.entries[i]).marks = noMarks := by
  refine vector_ext fun k => ?_
  have hk := (h k).2.2 i
  rw [hi] at hk
  have : (noMarks : Marks)[k] = false := by simp
  rw [this, ← Bool.not_eq_true]
  exact fun hm => absurd (hk hm) (by decide)

/-- The waiters of a walk whose slot became FREE stand nowhere (R32). -/
theorem loose_waiter {s t : State} (hpl : PlaceLaw s) (hm : MarkLaw s) {k : WalkId} {i : EntryId}
    (hi : i ∈ (s.walks[k]).waiters) (he : t.entries = s.entries) (hq : t.issueQ = s.issueQ) (hb : t.backlog = [])
    (hw : t.walks = s.walks.set k {}) : Loose t i := by
  obtain ⟨htr, hother⟩ := (hpl.waiters k).2 i hi
  obtain ⟨-, queued, -⟩ := hpl
  refine ⟨by rw [he]; exact htr, by rw [he]; exact hm.unmarked (by rw [htr]; rfl), ?_, by rw [hb]; simp,
    fun j => ?_⟩
  · rw [hq, queued, htr]; decide
  · rw [hw, set_getElem]
    split
    · simp
    next hj => exact hother j hj

/-! ### The records of the check (R11 to R13) -/

theorem walkRecord_eq (kind : FaultKind) (d : Nat) (k : WalkId) (s : State) :
    walkRecord kind d k s = walkNote kind d k s := by
  simp only [walkRecord, walkNote, Option.map_map]
  rfl

/-- The record of a check's outcome, beside that of a mismatch (R11, R13). -/
def outcomeNotes (o : WordOutcome) (k : WalkId) (s : State) : List FaultRecord :=
  match o with
  | .formatFailure => [walkNote .mapFormat 0 k s]
  | .notPresent => [walkNote .notPresent 0 k s]
  | .checkFailure => []
  | .usable => []

/-- The records that the check of a word makes, in order (R11 to R13). -/
def checkNotes (k : WalkId) (word : Word) (s : State) : List FaultRecord :=
  let mode := (s.windows[(s.walks[k]).window]).checkMode
  (if wordMismatches mode word = true then [walkNote .mapCheck (mapCheckDetail mode) k s] else [])
    ++ outcomeNotes (judgeWord mode word) k s

/-- A mismatch counts (R12). -/
def countMismatch (b : Bool) (s : State) : State :=
  if b = true then bump mapCheckMismatches s else s

theorem checkRecords_eq (k : WalkId) (word : Word) (s : State) :
    checkRecords k word s = offerAll (checkNotes k word s)
      (countMismatch (wordMismatches (s.windows[(s.walks[k]).window]).checkMode word) s) := by
  simp only [checkRecords, checkNotes, countMismatch, walkRecord_eq]
  generalize judgeWord _ word = j
  cases wordMismatches (s.windows[(s.walks[k]).window]).checkMode word <;> cases j <;> rfl

/-! ### Answers and stops for every waiter (R34, R72) -/

/-- A list of loose entries answered one by one with a status. -/
theorem foldl_eq_answered {step : State → EntryId → State} {st : Status} {P : State → Prop}
    (hP : ∀ (t : State) (es : Vector Entry 64) (q : List EntryId), P t → P { t with entries := es, answerQ := q })
    {is : List EntryId} (hnd : is.Nodup) {s : State} (hs : ∀ i ∈ is, Loose s i) (hs' : P s)
    (hstep : ∀ i ∈ is, ∀ t : State, Loose t i → P t → t.entries[i] = s.entries[i] →
      step t i = answerEntry i { status := st } false t) :
    is.foldl step s =
      { s with
        entries := Vector.ofFn fun i : Fin 64 =>
          if i ∈ is then (s.entries[i]).answered { status := st } false else s.entries[i]
        answerQ := s.answerQ ++ is } := by
  induction is generalizing s with
  | nil =>
    rw [List.append_nil, ofFn_mem_nil s.entries fun e => e.answered { status := st } false]
    rfl
  | cons i is ih =>
    obtain ⟨hi, hnd⟩ := List.nodup_cons.mp hnd
    have other {j : EntryId} (hj : j ≠ i) (x : Entry) : (s.entries.set i x)[j] = s.entries[j] := by
      rw [set_getElem, if_neg hj]
    have apart {j : EntryId} (hj : j ∈ is) : j ≠ i := by rintro rfl; exact hi hj
    rw [List.foldl_cons, hstep i List.mem_cons_self s (hs i List.mem_cons_self) hs' rfl,
      answerEntry_of_loose (hs i List.mem_cons_self), ih hnd (fun j hj => ?_) (hP _ _ _ hs')
        fun j hj t ht hPt he => ?_]
    · have entries : (Vector.ofFn fun j : Fin 64 => if j ∈ is then
            ((s.entries.set i ((s.entries[i]).answered { status := st } false))[j]).answered { status := st } false
          else (s.entries.set i ((s.entries[i]).answered { status := st } false))[j])
          = Vector.ofFn fun j : Fin 64 => if j ∈ i :: is then (s.entries[j]).answered { status := st } false
            else s.entries[j] := by
        refine congrArg Vector.ofFn (funext fun j => ?_)
        by_cases hj : j = i
        · subst hj; rw [if_neg hi, if_pos List.mem_cons_self, set_getElem, if_pos rfl]
        · rw [other hj]; simp only [List.mem_cons, hj, false_or]
      rw [entries, List.append_assoc, List.singleton_append]
    · obtain ⟨h1, h2, h3, h4, h5⟩ := hs j (List.mem_cons_of_mem i hj)
      exact ⟨by rw [other (apart hj)]; exact h1, by rw [other (apart hj)]; exact h2, h3, h4, h5⟩
    · exact hstep j (List.mem_cons_of_mem i hj) t ht hPt (he.trans (other (apart hj) _))

theorem answerAll_of_loose {is : List EntryId} (hnd : is.Nodup) {s : State} (hs : ∀ i ∈ is, Loose s i)
    (st : Status) :
    answerAll is st s =
      { s with
        entries := Vector.ofFn fun i : Fin 64 =>
          if i ∈ is then (s.entries[i]).answered { status := st } false else s.entries[i]
        answerQ := s.answerQ ++ is } :=
  foldl_eq_answered (P := fun _ => True) (fun _ _ _ _ => trivial) hnd hs trivial fun _ _ _ _ _ _ => rfl

/-- One stop for each requester of a list writes those requesters' contexts (R72). -/
theorem foldl_applyStop (kind : FaultKind) (rs : List ReqId) (s : State) :
    rs.foldl (fun t r => applyStop kind r t) s =
      { s with contexts := Vector.ofFn fun r : Fin 16 =>
          if r ∈ rs then (s.contexts[r]).stoppedBy kind else s.contexts[r] } := by
  induction rs generalizing s with
  | nil => rw [ofFn_mem_nil s.contexts fun c => c.stoppedBy kind]; rfl
  | cons q rs ih =>
    have contexts : (Vector.ofFn fun r : Fin 16 => if r ∈ rs then
          ((s.contexts.set q ((s.contexts[q]).stoppedBy kind))[r]).stoppedBy kind
        else (s.contexts.set q ((s.contexts[q]).stoppedBy kind))[r])
        = Vector.ofFn fun r : Fin 16 => if r ∈ q :: rs then (s.contexts[r]).stoppedBy kind else s.contexts[r] := by
      refine congrArg Vector.ofFn (funext fun r => ?_)
      rw [set_getElem]
      by_cases hr : r = q
      · subst hr; simp only [if_true, stoppedBy_idem, ite_self, List.mem_cons, true_or]
      · simp only [hr, if_false, List.mem_cons, false_or]
    rw [List.foldl_cons, applyStop_eq, ih, contexts]

/-- The stops of a walk's waiters act on the contexts that `stoppedContexts` names (R72). -/
theorem stopAll_waiters (kind : FaultKind) (is : List EntryId) {s t : State} (hc : t.contexts = s.contexts) :
    stopAll kind (is.map fun i => (s.entries[i]).requester) t
      = { t with contexts := stoppedContexts kind is s } := by
  rw [stopAll, foldl_applyStop]
  have : (Vector.ofFn fun r : Fin 16 => if r ∈ (is.map fun i => (s.entries[i]).requester).eraseDups then
        (t.contexts[r]).stoppedBy kind else t.contexts[r]) = stoppedContexts kind is s := by
    refine vector_ext fun r => ?_
    rw [stoppedContexts_getElem, hc]
    simp only [Fin.getElem_fin, Vector.getElem_ofFn, List.mem_eraseDups, List.mem_map, List.any_eq_true,
      decide_eq_true_eq]
  rw [this]

end Sys2Proof.Machine
end

section
/-! SUPPORT. The usable word: the install, the freed slot, and the hand-on of its waiters (R23, R32, R33). -/

namespace Sys2Proof.Machine

/-! ### The completion that brings one word (R31) -/

/-- An OK completion with one word goes to the check, or, at a stale walk, to the re-translation (R31). -/
theorem matching_of_word {s : State} {p : CplPacket} {rest : List CplPacket} {k : WalkId} {word : Word}
    (h : CompletionFor s p rest (64 + k.val)) (hok : headerStatus p.h0 = 0) (hbody : p.body = [word])
    (hiss : (s.walks[k]).state = .issued) :
    exec .completionMatching s = .next (conclude s
      (if (s.walks[k]).stale = true then finishStaleWalk k { s with uCplIn := rest }
        else finishWalk k word { s with uCplIn := rest })) := by
  have hst : (({ s with uCplIn := rest } : State).walks[k]).state = .issued := hiss
  have hstatus : hostStatus (headerStatus p.h0) = .ok := by rw [hok]; rfl
  have hword : wordOf p = some word := by rw [wordOf, hbody]
  rw [matching_of_walk h]
  simp only [matchWalk, hst, hstatus, hword]

section CountMismatch

variable (b : Bool) (s : State)

@[simp] theorem countMismatch_fences : (countMismatch b s).fences = s.fences := by cases b <;> rfl
@[simp] theorem countMismatch_faults : (countMismatch b s).faults = s.faults := by cases b <;> rfl
@[simp] theorem countMismatch_alertSlot : (countMismatch b s).alertSlot = s.alertSlot := by cases b <;> rfl
@[simp] theorem countMismatch_ownList : (countMismatch b s).ownList = s.ownList := by cases b <;> rfl

end CountMismatch

/-- The close of a check's happening (R12, R141). -/
theorem conclude_counted {before u : State} (b : Bool) (rs : List FaultRecord) (hf : u.fences = before.fences)
    (hr : u.faults = before.faults) (ha : u.alertSlot = before.alertSlot)
    (ho : u.ownList = before.ownList) :
    conclude before (offerAll rs (countMismatch b u)) = noteRecords rs (countMismatch b u) :=
  conclude_offerAll rs (by rw [countMismatch_fences, hf]) (by rw [countMismatch_faults, hr])
    (by rw [countMismatch_alertSlot, ha]) fun h => by rw [← ho, ← countMismatch_ownList b u]; exact h

/-! ### A map entry handed to a list (R33) -/

/-- A map entry with these rights and this frame handed on, in the windows of `v` (R5, R8). -/
def frameHanding (v : State) (w : WinId) (r : Rights) (f : BitVec 36) : Handing where
  window := w
  permits e := ((v.windows[w]).rights.meet r).permits e.kind
  queued e := { e with state := .queued, hostAddr := some (frameAddr f e.dAddr) }
  denied e := e.answered { status := .denied } false

theorem takeFrame_eq_handAll {v t : State} {i : EntryId} {w : WinId} {r : Rights} {f : BitVec 36} (hl : Loose t i)
    (hw : t.windows = v.windows) : takeFrame i w r f t = handAll (frameHanding v w r f) [i] t := by
  cases hp : ((t.windows[w]).rights.meet r).permits (t.entries[i]).kind with
  | true =>
    have : (frameHanding v w r f).permits t.entries[i] = true := by rw [hw] at hp; exact hp
    rw [takeFrame_permitted hl.state hp, handAll_permitted this]
    rfl
  | false =>
    have : (frameHanding v w r f).permits t.entries[i] = false := by rw [hw] at hp; exact hp
    rw [takeFrame_denied hp, denyEntry_of_loose hl w rfl, handAll_denied this]
    rfl

/-- A map entry handed on to a list of loose entries in order (R33). -/
theorem foldl_takeFrame {t : State} {is : List EntryId} (w : WinId) (r : Rights) (f : BitVec 36) (hnd : is.Nodup)
    (hl : ∀ i ∈ is, Loose t i) :
    is.foldl (fun u i => takeFrame i w r f u) t = handAll (frameHanding t w r f) is t := by
  have folded := foldl_eq_handAll (h := frameHanding t w r f) (step := fun u i => takeFrame i w r f u) (pre := id)
    (P := fun u => u.windows = t.windows) (fun _ _ => rfl) (fun _ _ h => h) (fun _ => rfl)
    (fun u i hu => (handAll_frame (frameHanding t w r f) [i] u).1.trans hu) hnd hl rfl
    fun i _ u hu hw _ => takeFrame_eq_handAll hu hw
  rw [Function.iterate_id] at folded
  exact folded

/-- Records made before a handing come first. -/
theorem handAll_offerAll (h : Handing) (is : List EntryId) (rs : List FaultRecord) (t : State) :
    handAll h is (offerAll rs t) =
      offerAll (rs ++ (h.refuses is t).map fun i => rightsNote h.window t.entries[i])
        { t with
          entries := Vector.ofFn fun i : Fin 64 =>
            if i ∈ is then (if h.permits t.entries[i] = true then h.queued t.entries[i] else h.denied t.entries[i])
            else t.entries[i]
          issueQ := t.issueQ ++ is.filter fun i => h.permits t.entries[i]
          answerQ := t.answerQ ++ h.refuses is t
          contexts := stoppedContexts .rights (h.refuses is t) t } := by
  have he : (offerAll rs t).entries = t.entries := offerAll_entries rs t
  have hrefuses : h.refuses is (offerAll rs t) = h.refuses is t := by rw [Handing.refuses, he]; rfl
  have hstopped (js : List EntryId) : stoppedContexts .rights js (offerAll rs t) = stoppedContexts .rights js t := by
    rw [stoppedContexts, he, offerAll_contexts]; rfl
  rw [handAll_eq, hrefuses, hstopped, he, offerAll_issueQ, offerAll_answerQ, ← offerAll_tables, ← offerAll_append]

/-! ### The end of a walk with a usable word (R23, R32, R33) -/

/-- The state in which the usable word is installed and its slot is FREE, before the hand-on. -/
def installed (k : WalkId) (word : Word) (v : State) : State :=
  { v with
    walks := v.walks.set k {}
    cache := ({ window := (v.walks[k]).window, page := (v.walks[k]).page, frame := mapFrame word,
                rights := mapRights word } :: v.cache).take 48 }

theorem install_freed {v : State} {k : WalkId} (word : Word) (hout : OwnRequest.walk k ∉ v.ownList) :
    freeWalk k (install (v.walks[k]).window (v.walks[k]).page word (checkRecords k word v))
      = offerAll (checkNotes k word v)
          (countMismatch (wordMismatches (v.windows[(v.walks[k]).window]).checkMode word) (installed k word v)) := by
  have counted (b : Bool) : countMismatch b (installed k word v)
      = { countMismatch b v with walks := (installed k word v).walks, cache := (installed k word v).cache } := by
    cases b <;> rfl
  have walks (b : Bool) : (countMismatch b v).walks = v.walks := by cases b <;> rfl
  have cache (b : Bool) : (countMismatch b v).cache = v.cache := by cases b <;> rfl
  rw [checkRecords_eq, counted, freeWalk_of_notListed]
  · have comm := offerAll_comm
      (g := fun u => { u with walks := (installed k word v).walks, cache := (installed k word v).cache })
      (fun _ _ _ _ => rfl) (fun _ => ⟨rfl, rfl, rfl, rfl⟩) (checkNotes k word v)
      (countMismatch (wordMismatches (v.windows[(v.walks[k]).window]).checkMode word) v)
    rw [comm, install, offerAll_walks, offerAll_cache, walks, cache]
    rfl
  · show _ ∉ (offerAll _ _).ownList
    rw [offerAll_ownList, countMismatch_ownList]
    exact hout

/-- The end of a walk whose word is usable, with nothing in the backlog (R32, R33). -/
theorem finishWalk_usable {v : State} {k : WalkId} {word : Word} (hpl : PlaceLaw v) (hm : MarkLaw v)
    (hout : OwnRequest.walk k ∉ v.ownList) (hb : v.backlog = [])
    (hj : judgeWord (v.windows[(v.walks[k]).window]).checkMode word = .usable) :
    let x := v.walks[k]
    let h := frameHanding v x.window (mapRights word) (mapFrame word)
    finishWalk k word v =
      offerAll (checkNotes k word v ++ (h.refuses x.waiters v).map fun i => rightsNote x.window v.entries[i])
        (countMismatch (wordMismatches (v.windows[x.window]).checkMode word)
          { installed k word v with
            entries := Vector.ofFn fun i : Fin 64 =>
              if i ∈ x.waiters then (if h.permits v.entries[i] = true then h.queued v.entries[i]
                else h.denied v.entries[i]) else v.entries[i]
            issueQ := v.issueQ ++ x.waiters.filter fun i => h.permits v.entries[i]
            answerQ := v.answerQ ++ h.refuses x.waiters v
            contexts := stoppedContexts .rights (h.refuses x.waiters v) v }) := by
  intro x h
  let y := countMismatch (wordMismatches (v.windows[x.window]).checkMode word) (installed k word v)
  have fields (b : Bool) : (countMismatch b (installed k word v)).entries = v.entries
      ∧ (countMismatch b (installed k word v)).issueQ = v.issueQ
      ∧ (countMismatch b (installed k word v)).backlog = v.backlog
      ∧ (countMismatch b (installed k word v)).walks = v.walks.set k {}
      ∧ (countMismatch b (installed k word v)).windows = v.windows
      ∧ (countMismatch b (installed k word v)).answerQ = v.answerQ
      ∧ (countMismatch b (installed k word v)).contexts = v.contexts := by
    cases b <;> exact ⟨rfl, rfl, rfl, rfl, rfl, rfl, rfl⟩
  obtain ⟨ye, yq, yb, yw, yn, ya, yc⟩ := fields (wordMismatches (v.windows[x.window]).checkMode word)
  have loose : ∀ i ∈ x.waiters, Loose (offerAll (checkNotes k word v) y) i := fun i hi =>
    loose_waiter hpl hm hi (by rw [offerAll_entries]; exact ye) (by rw [offerAll_issueQ]; exact yq)
      (by rw [offerAll_backlog]; exact yb.trans hb) (by rw [offerAll_walks]; exact yw)
  have same : frameHanding (offerAll (checkNotes k word v) y) x.window (mapRights word) (mapFrame word) = h := by
    show frameHanding (offerAll (checkNotes k word v) y) x.window (mapRights word) (mapFrame word)
      = frameHanding v x.window (mapRights word) (mapFrame word)
    rw [frameHanding, frameHanding, offerAll_windows]
    simp only [show y.windows = v.windows from yn]
  have folded : x.waiters.foldl (fun t i => takeFrame i x.window (mapRights word) (mapFrame word) t)
      (offerAll (checkNotes k word v) y) = handAll h x.waiters (offerAll (checkNotes k word v) y) := by
    rw [foldl_takeFrame _ _ _ (hpl.waiters k).1 loose, same]
  have ended : finishWalk k word v = serveBacklog k (handAll h x.waiters (offerAll (checkNotes k word v) y)) := by
    rw [← folded]
    simp only [finishWalk, hj, wordFault, install_freed word hout]
    rfl
  have backlog : (handAll h x.waiters (offerAll (checkNotes k word v) y)).backlog = [] := by
    rw [(handAll_frame h x.waiters _).2.2.2, offerAll_backlog]
    exact yb.trans hb
  have tables (b : Bool) (es : Vector Entry 64) (q a : List EntryId) (cs : Vector Context 16) :
      { countMismatch b (installed k word v) with entries := es, issueQ := q, answerQ := a, contexts := cs }
        = countMismatch b { installed k word v with entries := es, issueQ := q, answerQ := a, contexts := cs } := by
    cases b <;> rfl
  have refuses : h.refuses x.waiters y = h.refuses x.waiters v := by rw [Handing.refuses, ye]; rfl
  have stopped (js : List EntryId) : stoppedContexts .rights js y = stoppedContexts .rights js v := by
    rw [stoppedContexts, ye, yc]; rfl
  rw [ended, serveBacklog_nil k backlog, handAll_offerAll, refuses, stopped, ye, yq, ya, tables]
  rfl

/-- The records of a check that finds the word usable: the reported mismatch, if there is one (R12). -/
theorem checkNotes_usable {v : State} {k : WalkId} {word : Word} {b : Bool} {mode : CheckMode}
    (hmode : (v.windows[(v.walks[k]).window]).checkMode = mode)
    (hj : judgeWord mode word = .usable) (hb : wordMismatches mode word = b) :
    checkNotes k word v = if b = true then [walkNote .mapCheck 1 k v] else [] := by
  subst hmode
  simp only [checkNotes, outcomeNotes, hj, hb, List.append_nil, mapCheckDetail]
  split
  next h =>
    have : (v.windows[(v.walks[k]).window]).checkMode ≠ .enforce := by
      intro he
      rw [h, wordMismatches, he] at hb
      simp only [judgeWord, he] at hj
      grind
    rw [if_neg this]
  next => rfl

/-- Settles O24: the word is installed and handed to the freed slot's waiters. -/
theorem usableWalkInstalls : Obligations.UsableWalkInstalls := by
  intro s p rest k word hpl hm hown hb hcpl hok hbody hiss hstale x win hres hbyte hpres frame kinds permitted
    denied mismatch u records
  have hout := hown.not_listed (k := k) (by rw [hiss]; decide)
  have usable : judgeWord win.checkMode word = .usable := by
    have : ¬(win.checkMode = .enforce ∧ checkByteMatches word = false) := by grind
    simp only [judgeWord, hres, hpres, if_neg this, Bool.not_true, Bool.false_eq_true, if_false]
  have mismatches : wordMismatches win.checkMode word = mismatch := by
    rw [wordMismatches, hres]
    show _ = (decide (win.checkMode = .report) && !checkByteMatches word)
    cases hc : win.checkMode <;> cases hm : checkByteMatches word <;> simp_all
  have notes : checkNotes k word { s with uCplIn := rest }
      = if mismatch = true then [walkNote .mapCheck 1 k s] else [] :=
    checkNotes_usable (v := { s with uCplIn := rest }) rfl usable mismatches
  rw [matching_of_word hcpl hok hbody hiss, if_neg (by rw [hstale]; decide),
    finishWalk_usable (v := { s with uCplIn := rest }) hpl hm hout hb usable, notes]
  show Host.Outcome.next (conclude s (offerAll records (countMismatch (wordMismatches win.checkMode word) u))) = _
  rw [mismatches]
  exact congrArg _ (conclude_counted (before := s) (u := u) mismatch records rfl rfl rfl rfl)

end Sys2Proof.Machine
end

section
/-! SUPPORT. The word that is not usable (R34), and what the close of a happening leaves of the translation. -/

namespace Sys2Proof.Machine

/-! ### The word that is not usable (R34) -/

/-- Every waiter is answered UNMAPPED, the stop policy acts, and the slot is FREE (R34). -/
def unmappedWalk (f : FaultKind) (k : WalkId) (v : State) : State :=
  { v with
    walks := v.walks.set k {}
    entries := unmappedEntries (v.walks[k]).waiters v
    answerQ := v.answerQ ++ (v.walks[k]).waiters
    contexts := stoppedContexts f (v.walks[k]).waiters v }

/-- The end of a walk whose word is not usable, with nothing in the backlog (R34). -/
theorem finishWalk_unusable {v : State} {k : WalkId} {word : Word} {f : FaultKind} (hpl : PlaceLaw v)
    (hm : MarkLaw v) (hout : OwnRequest.walk k ∉ v.ownList) (hb : v.backlog = [])
    (hj : wordFault (judgeWord (v.windows[(v.walks[k]).window]).checkMode word) = some f) :
    finishWalk k word v =
      offerAll (checkNotes k word v)
        (countMismatch (wordMismatches (v.windows[(v.walks[k]).window]).checkMode word) (unmappedWalk f k v)) := by
  let is := (v.walks[k]).waiters
  let notes := checkNotes k word v
  let y (b : Bool) : State := countMismatch b v
  -- the slot is FREE, and the records are made
  let z (b : Bool) : State := { offerAll notes (y b) with walks := v.walks.set k {} }
  have fields (b : Bool) : (y b).entries = v.entries ∧ (y b).issueQ = v.issueQ ∧ (y b).backlog = v.backlog
      ∧ (y b).walks = v.walks ∧ (y b).answerQ = v.answerQ ∧ (y b).contexts = v.contexts := by
    cases b <;> exact ⟨rfl, rfl, rfl, rfl, rfl, rfl⟩
  generalize hw : wordMismatches (v.windows[(v.walks[k]).window]).checkMode word = b
  obtain ⟨ye, yq, yb, yw, ya, yc⟩ := fields b
  have ze : (z b).entries = v.entries := (offerAll_entries notes (y b)).trans ye
  have za : (z b).answerQ = v.answerQ := (offerAll_answerQ notes (y b)).trans ya
  have freed : freeWalk k (checkRecords k word v) = z b := by
    rw [checkRecords_eq, hw, freeWalk_of_notListed]
    · rw [offerAll_walks, show (countMismatch b v).walks = v.walks from yw]
    · rw [offerAll_ownList, countMismatch_ownList]
      exact hout
  have loose : ∀ i ∈ is, Loose (z b) i := fun i hi =>
    loose_waiter hpl hm hi ze ((offerAll_issueQ notes (y b)).trans yq)
      (((offerAll_backlog notes (y b)).trans yb).trans hb) rfl
  have answered : answerAll is .unmapped (z b)
      = { z b with entries := unmappedEntries is v, answerQ := v.answerQ ++ is } := by
    rw [answerAll_of_loose (hpl.waiters k).1 loose, ze, za]
    rfl
  have stopped : stopAll f (waiterRequesters k v) (answerAll is .unmapped (z b))
      = { z b with
          entries := unmappedEntries is v
          answerQ := v.answerQ ++ is
          contexts := stoppedContexts f is v } := by
    rw [answered]
    exact stopAll_waiters f is (s := v) ((offerAll_contexts notes (y b)).trans yc)
  have ended : finishWalk k word v
      = serveBacklog k (stopAll f (waiterRequesters k v) (answerAll is .unmapped (z b))) := by
    rw [← freed]
    simp only [finishWalk, hj]
    rfl
  have gathered : offerAll notes (countMismatch b (unmappedWalk f k v))
      = { z b with
          entries := unmappedEntries is v
          answerQ := v.answerQ ++ is
          contexts := stoppedContexts f is v } := by
    have counted : countMismatch b (unmappedWalk f k v)
        = { y b with
            walks := v.walks.set k {}
            entries := unmappedEntries is v
            answerQ := v.answerQ ++ is
            contexts := stoppedContexts f is v } := by cases b <;> rfl
    rw [counted]
    exact offerAll_comm
      (g := fun u => { u with
        walks := v.walks.set k {}
        entries := unmappedEntries is v
        answerQ := v.answerQ ++ is
        contexts := stoppedContexts f is v })
      (fun _ _ _ _ => rfl) (fun _ => ⟨rfl, rfl, rfl, rfl⟩) notes (y b)
  rw [ended, stopped, gathered]
  exact serveBacklog_nil k (((offerAll_backlog notes (y b)).trans yb).trans hb)

/-- The happening at a word that is not usable (R34). -/
theorem matching_of_unusable {s : State} {p : CplPacket} {rest : List CplPacket} {k : WalkId} {word : Word}
    {f : FaultKind} (hpl : PlaceLaw s) (hm : MarkLaw s) (hown : OwnListLaw s)
    (hcpl : CompletionFor s p rest (64 + k.val)) (hok : headerStatus p.h0 = 0) (hbody : p.body = [word])
    (hiss : (s.walks[k]).state = .issued) (hb : s.backlog = []) (hstale : (s.walks[k]).stale = false)
    (hj : wordFault (judgeWord (s.windows[(s.walks[k]).window]).checkMode word) = some f) :
    exec .completionMatching s = .next
      (noteRecords (checkNotes k word s)
        (countMismatch (wordMismatches (s.windows[(s.walks[k]).window]).checkMode word)
          (unmappedWalk f k { s with uCplIn := rest }))) := by
  have hout := hown.not_listed (k := k) (by rw [hiss]; decide)
  have ended := finishWalk_unusable (v := { s with uCplIn := rest }) (f := f) hpl hm hout hb hj
  rw [matching_of_word hcpl hok hbody hiss, if_neg (by rw [hstale]; decide), ended]
  exact congrArg _ (conclude_counted (before := s) (u := unmappedWalk f k { s with uCplIn := rest }) _ _
    rfl rfl rfl rfl)

/-! ### What the close of a happening leaves -/

/-- The close of a happening leaves the Map Cache and the counters (R120, R141, R85). -/
theorem conclude_translation (before s : State) :
    (conclude before s).cache = s.cache ∧ (conclude before s).translationCtrs = s.translationCtrs := by
  have reply (a : Option MgmtId) (t : State) :
      (replyDone a t).cache = t.cache ∧ (replyDone a t).translationCtrs = t.translationCtrs := by
    cases a <;> exact ⟨rfl, rfl⟩
  have fence (k : FenceId) (t : State) :
      (endFence k t).cache = t.cache ∧ (endFence k t).translationCtrs = t.translationCtrs := by
    rw [endFence_eq, (reply _ _).1, (reply _ _).2]
    exact ⟨rfl, rfl⟩
  have fences (ks : List FenceId) : ∀ t : State,
      (ks.foldl (fun t k => if fenceEnds before t k then endFence k t else t) t).cache = t.cache
      ∧ (ks.foldl (fun t k => if fenceEnds before t k then endFence k t else t) t).translationCtrs
        = t.translationCtrs := by
    induction ks with
    | nil => exact fun t => ⟨rfl, rfl⟩
    | cons k ks ih =>
      intro t
      rw [List.foldl_cons, (ih _).1, (ih _).2]
      split
      · exact fence k t
      · exact ⟨rfl, rfl⟩
  have ended := fences (List.finRange 4) s
  have reset (t : State) : (resetRotation before t).cache = t.cache
      ∧ (resetRotation before t).translationCtrs = t.translationCtrs := by
    unfold resetRotation; split <;> exact ⟨rfl, rfl⟩
  have trigger (b : Bool) (t : State) : (if b = true then evalTrigger t else t).cache = t.cache
      ∧ (if b = true then evalTrigger t else t).translationCtrs = t.translationCtrs := by
    cases b
    · exact ⟨rfl, rfl⟩
    · exact ⟨evalTrigger_cache t, evalTrigger_translationCtrs t⟩
  rw [conclude, (reset _).1, (reset _).2, (trigger _ _).1, (trigger _ _).2]
  exact ended

end Sys2Proof.Machine
end

section
/-! SUPPORT. The stale walk: its waiters re-translate in order, to one outcome for each match (R35, R18). -/

namespace Sys2Proof.Machine

/-- A stale walk is brought one word while nothing is in the backlog (R31, R35). -/
structure StaleWord (s : State) (p : CplPacket) (rest : List CplPacket) (k : WalkId) (word : Word) : Prop where
  places : PlaceLaw s
  marks : MarkLaw s
  own : OwnListLaw s
  completion : CompletionFor s p rest (64 + k.val)
  ok : headerStatus p.h0 = 0
  body : p.body = [word]
  issued : (s.walks[k]).state = .issued
  stale : (s.walks[k]).stale = true
  backlog : s.backlog = []

/-- The completion is taken and the slot is FREE (R35). -/
def slotFreed (k : WalkId) (rest : List CplPacket) (s : State) : State :=
  { s with uCplIn := rest, walks := s.walks.set k {} }

/-- The freed slot leaves its waiters loose. -/
theorem StaleWord.loose {s : State} {p : CplPacket} {rest : List CplPacket} {k : WalkId} {word : Word}
    (h : StaleWord s p rest k word) : ∀ i ∈ (s.walks[k]).waiters, Loose (slotFreed k rest s) i :=
  fun _ hi => loose_waiter (t := slotFreed k rest s) h.places h.marks hi rfl rfl h.backlog rfl

/-- A word at a stale walk frees the slot and re-translates its waiters (R35). -/
theorem StaleWord.closes {s : State} {p : CplPacket} {rest : List CplPacket} {k : WalkId} {word : Word} {v : State}
    (h : StaleWord s p rest k word)
    (hv : (s.walks[k]).waiters.foldl (fun t i => retranslate i t) (slotFreed k rest s) = v) (hb : v.backlog = []) :
    exec .completionMatching s = .next (conclude s v) := by
  have hout := h.own.not_listed (k := k) (by rw [h.issued]; decide)
  have freed : freeWalk k { s with uCplIn := rest } = slotFreed k rest s :=
    freeWalk_of_notListed (t := { s with uCplIn := rest }) hout
  have ended : finishStaleWalk k { s with uCplIn := rest } = serveBacklog k v := by
    rw [← hv, ← freed]; rfl
  rw [matching_of_word h.completion h.ok h.body h.issued, if_pos h.stale, ended, serveBacklog_nil k hb]

/-! ### One match for every waiter -/

/-- Every entry is handed on in the same way. -/
theorem Handing.refuses_none {h : Handing} (is : List EntryId) (t : State) (hp : ∀ e, h.permits e = true) :
    h.refuses is t = [] ∧ is.filter (fun i => h.permits t.entries[i]) = is := by
  refine ⟨List.filter_eq_nil_iff.mpr fun i _ => ?_, List.filter_eq_self.mpr fun i _ => hp _⟩
  rw [hp]; decide

theorem Handing.refuses_all {h : Handing} (is : List EntryId) (t : State) (hp : ∀ e, h.permits e = false) :
    h.refuses is t = is ∧ is.filter (fun i => h.permits t.entries[i]) = [] := by
  refine ⟨List.filter_eq_self.mpr fun i _ => ?_, List.filter_eq_nil_iff.mpr fun i _ => ?_⟩
  · rw [hp]; rfl
  · rw [hp]; decide

/-- Every entry is denied (R18). -/
def denialIn (w : WinId) : Handing where
  window := w
  permits _ := false
  queued e := e
  denied e := e.answered { status := .denied } false

/-- Every entry is queued by its DIRECT address (R7). -/
def directIn (win : Window) (w : WinId) : Handing where
  window := w
  permits _ := true
  queued e := { e.placedIn win w with state := .queued, hostAddr := some (directAddr win e.dAddr) }
  denied e := e

/-- The entries of a list re-translate into a window that lacks their kinds (R18, R5). -/
theorem foldl_retranslate_denied {t : State} {is : List EntryId} {w : WinId} (hnd : is.Nodup)
    (hl : ∀ i ∈ is, Loose t i) (hv : (t.windows[w]).state = .valid)
    (hm : ∀ i ∈ is, Matches t (t.entries[i]).requester (t.entries[i]).dAddr w)
    (hp : ∀ i ∈ is, (t.windows[w]).rights.permits (t.entries[i]).kind = false) :
    is.foldl (fun u i => retranslate i u) t = handAll (denialIn w) is t := by
  have folded := foldl_eq_handAll (h := denialIn w) (step := fun u i => retranslate i u) (pre := id)
    (P := fun u => u.windows = t.windows) (fun _ _ => rfl) (fun _ _ h => h) (fun _ => rfl)
    (fun u i hu => (handAll_frame (denialIn w) [i] u).1.trans hu) hnd hl rfl
    fun i hi u hu hw he => by
      have hmu : Matches u (u.entries[i]).requester (u.entries[i]).dAddr w := by
        rw [he]; unfold Matches; rw [hw]; exact hm i hi
      rw [retranslate_denied hu.state hmu (by rw [hw]; exact hv) (by rw [hw, he]; exact hp i hi),
        denyEntry_of_loose hu w rfl]
      exact (handAll_denied (h := denialIn w) rfl).symm
  rw [Function.iterate_id] at folded
  exact folded

/-- The entries of a list re-translate into a DIRECT window that has their kinds (R18, R7). -/
theorem foldl_retranslate_direct {t : State} {is : List EntryId} {w : WinId} (hnd : is.Nodup)
    (hl : ∀ i ∈ is, Loose t i) (hv : (t.windows[w]).state = .valid)
    (hm : ∀ i ∈ is, Matches t (t.entries[i]).requester (t.entries[i]).dAddr w)
    (hp : ∀ i ∈ is, (t.windows[w]).rights.permits (t.entries[i]).kind = true)
    (hd : (t.windows[w]).mode = some .direct) :
    is.foldl (fun u i => retranslate i u) t = handAll (directIn t.windows[w] w) is t := by
  have folded := foldl_eq_handAll (h := directIn t.windows[w] w) (step := fun u i => retranslate i u) (pre := id)
    (P := fun u => u.windows = t.windows) (fun _ _ => rfl) (fun _ _ h => h) (fun _ => rfl)
    (fun u i hu => (handAll_frame (directIn t.windows[w] w) [i] u).1.trans hu) hnd hl rfl
    fun i hi u hu hw he => by
      have hmu : Matches u (u.entries[i]).requester (u.entries[i]).dAddr w := by
        rw [he]; unfold Matches; rw [hw]; exact hm i hi
      rw [retranslate_allowed hu.state hmu (by rw [hw]; exact hv) (by rw [hw, he]; exact hp i hi),
        translateIn_direct hu.state (by rw [hw]; exact hd), show u.windows[w] = t.windows[w] by rw [hw]]
      exact (handAll_permitted (h := directIn t.windows[w] w) (t := u) (i := i) rfl).symm
  rw [Function.iterate_id] at folded
  exact folded

/-- The entries of a list re-translate to no window, or to a RETIRING one (R18). -/
theorem foldl_retranslate_unmapped {t : State} {is : List EntryId} (hnd : is.Nodup)
    (hl : ∀ i ∈ is, Loose t i)
    (hm : ∀ i ∈ is, ∀ v : WinId, (t.windows[v]).matches (t.entries[i]).requester (t.entries[i]).dAddr = true →
      (t.windows[v]).state = .retiring) :
    is.foldl (fun u i => retranslate i u) t
      = { t with entries := unmappedEntries is t, answerQ := t.answerQ ++ is } :=
  foldl_eq_answered (st := .unmapped) (P := fun u => u.windows = t.windows) (fun _ _ _ h => h) hnd hl rfl
    fun i hi u hu hw he => retranslate_unmapped hu.state (by rw [hw, he]; exact hm i hi)

/-! ### One page of a MAPPED window: a hit (R21) -/

/-- A hit's aside: CACHE_HITS counts and the Map Cache is in its new order (R20, R21). -/
def hitAside (cache : List CacheEntry) (t : State) : State :=
  bump cacheHits { t with cache := cache }

/-- Every entry is placed on the page, and queued in the frame or denied by the effective rights. -/
def hitIn (win : Window) (w : WinId) (p : Nat) (c : CacheEntry) : Handing where
  window := w
  permits e := (win.rights.meet c.rights).permits e.kind
  queued e := { e with state := .queued, window := w, page := p, hostAddr := some (frameAddr c.frame e.dAddr) }
  denied e := { e with window := w, page := p }.answered { status := .denied } false

theorem handAll_hitAside (h : Handing) (l : List EntryId) (cache : List CacheEntry) (t : State) :
    handAll h l (hitAside cache t) = hitAside cache (handAll h l t) := by
  have pass (rs : List FaultRecord) (u : State) : offerAll rs (hitAside cache u) = hitAside cache (offerAll rs u) := by
    rw [hitAside, hitAside, offerAll_bump]
    exact congrArg _ (offerAll_comm (g := fun u => { u with cache := cache }) (fun _ _ _ _ => rfl)
      (fun _ => ⟨rfl, rfl, rfl, rfl⟩) rs u)
  rw [handAll_eq h l t, ← pass]
  rfl

theorem iterate_hitAside (cache : List CacheEntry) (n : Nat) (t : State) :
    (hitAside cache)^[n + 1] t =
      { t with
        cache := cache
        translationCtrs := t.translationCtrs.set 0 (t.translationCtrs[0] + BitVec.ofNat 32 (n + 1)) } := by
  induction n with
  | zero => rfl
  | succ n ih =>
    have counted : (t.translationCtrs.set 0 (t.translationCtrs[0] + BitVec.ofNat 32 (n + 1))).set 0
          ((t.translationCtrs.set 0 (t.translationCtrs[0] + BitVec.ofNat 32 (n + 1)))[0] + 1)
        = t.translationCtrs.set 0 (t.translationCtrs[0] + BitVec.ofNat 32 (n + 1 + 1)) := by
      rw [Vector.set_set, Vector.getElem_set_self, BitVec.add_assoc]
      congr 2
      rw [BitVec.ofNat_add (n + 1) 1]
      rfl
    rw [Function.iterate_succ_apply', ih, ← counted]
    rfl

/-- The Map Cache's order after a hit is kept by a second hit of the same page (R20). -/
theorem movedFront_movedFront (w : WinId) (p : Nat) (c : CacheEntry) (l : List CacheEntry)
    (hc : cacheKey w p c = true) : movedFront w p c (movedFront w p c l) = movedFront w p c l := by
  simp only [movedFront, List.filter_cons, hc, Bool.not_true, Bool.false_eq_true, if_false, List.filter_filter,
    Bool.and_self]

theorem find?_movedFront (w : WinId) (p : Nat) (c : CacheEntry) (l : List CacheEntry)
    (hc : cacheKey w p c = true) : (movedFront w p c l).find? (cacheKey w p) = some c := by
  rw [movedFront, List.find?_cons, hc]

/-- A loose entry that is placed stays loose. -/
theorem Loose.placed {t u : State} {i : EntryId} {win : Window} {w : WinId} (hl : Loose t i)
    (he : u.entries = t.entries.set i ((t.entries[i]).placedIn win w)) (hq : u.issueQ = t.issueQ)
    (hb : u.backlog = t.backlog) (hw : u.walks = t.walks) : Loose u i := by
  have hi : u.entries[i] = (t.entries[i]).placedIn win w := by rw [he, set_getElem, if_pos rfl]
  exact ⟨by rw [hi]; exact hl.state, by rw [hi]; exact hl.marks, by rw [hq]; exact hl.issueQ,
    by rw [hb]; exact hl.backlog, by rw [hw]; exact hl.waiters⟩

/-- A loose entry placed on a cached page takes the frame or is denied (R21, R5). -/
theorem takeFrame_hitAside {t : State} {i : EntryId} {w : WinId} {p : Nat} {c : CacheEntry} (hl : Loose t i)
    (hpage : pageOf t.windows[w] (t.entries[i]).dAddr = p) (cache : List CacheEntry) :
    takeFrame i w c.rights c.frame
        (hitAside cache (setEntry i ((t.entries[i]).placedIn t.windows[w] w) t))
      = handAll (hitIn t.windows[w] w p c) [i] (hitAside cache t) := by
  subst hpage
  let x := hitAside cache (setEntry i ((t.entries[i]).placedIn t.windows[w] w) t)
  have xi : x.entries[i] = (t.entries[i]).placedIn t.windows[w] w := by
    show (t.entries.set i ((t.entries[i]).placedIn t.windows[w] w))[i] = _
    rw [set_getElem, if_pos rfl]
  have set_twice (e : Entry) : x.entries.set i e = t.entries.set i e :=
    Vector.set_set (xs := t.entries) (b := e) ((t.entries[i]).placedIn t.windows[w] w) i.isLt
  cases hp : ((t.windows[w]).rights.meet c.rights).permits (t.entries[i]).kind with
  | true =>
    have taken := takeFrame_permitted (t := x) (i := i) (w := w) (r := c.rights) (f := c.frame)
      (by rw [xi]; exact hl.state) (by rw [xi]; exact hp)
    rw [set_twice, xi] at taken
    exact taken.trans (handAll_permitted (h := hitIn t.windows[w] w _ c) (t := hitAside cache t) hp).symm
  | false =>
    have taken := takeFrame_denied (t := x) (i := i) (w := w) (r := c.rights) (f := c.frame)
      (by rw [xi]; exact hp)
    have loose : Loose x i := hl.placed (u := x) rfl rfl rfl rfl
    rw [denyEntry_of_loose loose w xi, set_twice] at taken
    exact taken.trans (handAll_denied (h := hitIn t.windows[w] w _ c) (t := hitAside cache t) hp).symm

/-- What a list of entries that look up one page of a MAPPED window share (R18, R21). -/
structure OnePage (t : State) (w : WinId) (p : Nat) (is : List EntryId) : Prop where
  valid : (t.windows[w]).state = .valid
  mapped : (t.windows[w]).mode = some .mapped
  one : ∀ i ∈ is, Matches t (t.entries[i]).requester (t.entries[i]).dAddr w
  permits : ∀ i ∈ is, (t.windows[w]).rights.permits (t.entries[i]).kind = true
  page : ∀ i ∈ is, pageOf t.windows[w] (t.entries[i]).dAddr = p

/-- An entry of such a list looks the page up, also after others of the list did. -/
theorem OnePage.retranslate {t u : State} {w : WinId} {p : Nat} {is : List EntryId} (h : OnePage t w p is)
    {i : EntryId} (hi : i ∈ is) (hs : (u.entries[i]).state = .translating) (he : u.entries[i] = t.entries[i])
    (hw : u.windows = t.windows) :
    retranslate i u = lookup missEntry i w p (setEntry i ((u.entries[i]).placedIn u.windows[w] w) u) :=
  retranslate_mapped hs (by rw [he]; unfold Matches; rw [hw]; exact h.one i hi) (by rw [hw]; exact h.valid)
    (by rw [hw, he]; exact h.permits i hi) (by rw [hw]; exact h.mapped) (by rw [hw, he]; exact h.page i hi)

/-- The entries of a list re-translate to a page that is cached (R18, R21). -/
theorem foldl_retranslate_hit {t : State} {is : List EntryId} {w : WinId} {p : Nat} {c : CacheEntry}
    (hnd : is.Nodup) (hl : ∀ i ∈ is, Loose t i) (h : OnePage t w p is)
    (hc : t.cache.find? (cacheKey w p) = some c) (hu : c.upset = false) :
    is.foldl (fun u i => Machine.retranslate i u) t
      = handAll (hitIn t.windows[w] w p c) is ((hitAside (movedFront w p c t.cache))^[is.length] t) := by
  obtain ⟨-, hcw, hcp⟩ := find?_cacheKey hc
  have key : cacheKey w p c = true := by simp [cacheKey, hcw, hcp]
  let moved := movedFront w p c t.cache
  refine foldl_eq_handAll (pre := hitAside moved)
    (P := fun u => u.windows = t.windows ∧ (u.cache = t.cache ∨ u.cache = moved))
    (fun l u => handAll_hitAside _ l moved u)
    (fun u i hl => ⟨hl.state, hl.marks, hl.issueQ, hl.backlog, hl.waiters⟩) (fun _ => rfl)
    (fun u i hP => ?_) hnd hl ⟨rfl, .inl rfl⟩ fun i hi u hlu hP he => ?_
  · obtain ⟨windows, cache, -⟩ := handAll_frame (hitIn t.windows[w] w p c) [i] (hitAside moved u)
    exact ⟨windows.trans hP.1, .inr (cache.trans rfl)⟩
  · obtain ⟨hw, hcache⟩ := hP
    have found : u.cache.find? (cacheKey w p) = some c := by
      rcases hcache with hcache | hcache <;> rw [hcache]
      exacts [hc, find?_movedFront w p c t.cache key]
    have front : movedFront w p c u.cache = moved := by
      rcases hcache with hcache | hcache <;> rw [hcache]
      exact movedFront_movedFront w p c t.cache key
    have hit := lookup_hit (t := setEntry i ((u.entries[i]).placedIn u.windows[w] w) u) (i := i) found hu
    rw [h.retranslate hi hlu.state he hw, hit, ← hw, ← front]
    exact takeFrame_hitAside hlu (by rw [he, hw]; exact h.page i hi) _

end Sys2Proof.Machine
end

section
/-! SUPPORT. One page of a MAPPED window, missed: the list of entries joins one walk (R26, R27). -/

namespace Sys2Proof.Machine

/-- The entries of a list placed on one page, waiting on walk `j`, each miss counted (R26). -/
def joinedAll (is : List EntryId) (w : WinId) (p : Nat) (j : WalkId) (t : State) : State :=
  { t with
    translationCtrs := t.translationCtrs.set 1 (t.translationCtrs[1] + BitVec.ofNat 32 is.length)
    entries := Vector.ofFn fun i : Fin 64 =>
      if i ∈ is then { t.entries[i] with window := w, page := p, hostAddr := none } else t.entries[i]
    walks := t.walks.set j { t.walks[j] with waiters := (t.walks[j]).waiters ++ is } }

theorem joinedAll_nil (w : WinId) (p : Nat) (j : WalkId) (t : State) : joinedAll [] w p j t = t := by
  have counters : t.translationCtrs.set 1 (t.translationCtrs[1] + BitVec.ofNat 32 0) = t.translationCtrs := by
    rw [BitVec.add_zero]; exact set_getElem_self t.translationCtrs 1
  have walks : t.walks.set j { t.walks[j] with waiters := (t.walks[j]).waiters ++ [] } = t.walks := by
    rw [List.append_nil]; exact set_getElem_self t.walks j
  rw [joinedAll, ofFn_mem_nil t.entries fun e => { e with window := w, page := p, hostAddr := none }, walks,
    List.length_nil, counters]

/-- One entry joins, and then the others. -/
theorem joinedAll_cons {i : EntryId} {is : List EntryId} (hi : i ∉ is) (w : WinId) (p : Nat) (j : WalkId)
    (t : State) : joinedAll is w p j (joinedAll [i] w p j t) = joinedAll (i :: is) w p j t := by
  have counters : (joinedAll [i] w p j t).translationCtrs.set 1
        ((joinedAll [i] w p j t).translationCtrs[1] + BitVec.ofNat 32 is.length)
      = t.translationCtrs.set 1 (t.translationCtrs[1] + BitVec.ofNat 32 (i :: is).length) := by
    have length : [i].length + is.length = (i :: is).length := Nat.add_comm 1 is.length
    simp only [joinedAll]
    rw [Vector.set_set, Vector.getElem_set_self, BitVec.add_assoc, ← BitVec.ofNat_add, length]
  have walks : (joinedAll [i] w p j t).walks.set j
        { (joinedAll [i] w p j t).walks[j] with
          waiters := ((joinedAll [i] w p j t).walks[j]).waiters ++ is }
      = t.walks.set j { t.walks[j] with waiters := (t.walks[j]).waiters ++ i :: is } := by
    have hj : (joinedAll [i] w p j t).walks[j]
        = { t.walks[j] with waiters := (t.walks[j]).waiters ++ [i] } := by
      rw [joinedAll, set_getElem, if_pos rfl]
    rw [hj, joinedAll, Vector.set_set, List.append_assoc, List.singleton_append]
  have entries : (Vector.ofFn fun l : Fin 64 => if l ∈ is then
        { (joinedAll [i] w p j t).entries[l] with window := w, page := p, hostAddr := none }
        else (joinedAll [i] w p j t).entries[l])
      = Vector.ofFn fun l : Fin 64 => if l ∈ i :: is then
          { t.entries[l] with window := w, page := p, hostAddr := none } else t.entries[l] := by
    refine congrArg Vector.ofFn (funext fun l => ?_)
    have hl : (joinedAll [i] w p j t).entries[l]
        = if l ∈ [i] then { t.entries[l] with window := w, page := p, hostAddr := none } else t.entries[l] := by
      simp only [joinedAll, Fin.getElem_fin, Vector.getElem_ofFn]
    rw [hl]
    by_cases hli : l = i
    · subst hli; rw [if_neg hi, if_pos List.mem_cons_self, if_pos List.mem_cons_self]
    · simp only [List.mem_cons, hli, List.not_mem_nil, or_false, false_or, if_false]
  rw [joinedAll, counters, entries, walks]
  rfl

/-- A walk slot with more waiters covers what it covered (R25). -/
theorem covers_joined {is : List EntryId} {w : WinId} {p : Nat} {j l : WalkId} {t : State} :
    (covers (joinedAll is w p j t) l ↔ covers t l)
      ∧ ((joinedAll is w p j t).walks[l]).window = (t.walks[l]).window
      ∧ ((joinedAll is w p j t).walks[l]).page = (t.walks[l]).page := by
  have hl : (joinedAll is w p j t).walks[l]
      = if l = j then { t.walks[j] with waiters := (t.walks[j]).waiters ++ is } else t.walks[l] := by
    rw [joinedAll, set_getElem]
  rw [covers, hl]
  by_cases h : l = j
  · subst h; rw [if_pos rfl]; exact ⟨Iff.rfl, rfl, rfl⟩
  · rw [if_neg h]; exact ⟨Iff.rfl, rfl, rfl⟩

/-- Walk `j`, and no other, covers the page. -/
structure CoversAlone (t : State) (j : WalkId) (w : WinId) (p : Nat) : Prop where
  cover : covers t j
  window : (t.walks[j]).window = w
  page : (t.walks[j]).page = p
  alone : ∀ l : WalkId, l ≠ j → covers t l → ¬((t.walks[l]).window = w ∧ (t.walks[l]).page = p)

theorem CoversAlone.found {t : State} {j : WalkId} {w : WinId} {p : Nat} (h : CoversAlone t j w p) :
    coveringWalk t w p = some j :=
  coveringWalk_of_alone h.cover h.window h.page h.alone

theorem CoversAlone.of_walks {t u : State} {j : WalkId} {w : WinId} {p : Nat} (h : CoversAlone t j w p)
    (hw : u.walks = t.walks) : CoversAlone u j w p := by
  obtain ⟨h1, h2, h3, h4⟩ := h
  unfold covers at h1 h4
  rw [← hw] at h1 h2 h3 h4
  exact ⟨h1, h2, h3, h4⟩

theorem CoversAlone.joined {t : State} {j : WalkId} {w : WinId} {p : Nat} (h : CoversAlone t j w p)
    (is : List EntryId) (w' : WinId) (p' : Nat) : CoversAlone (joinedAll is w' p' j t) j w p where
  cover := covers_joined.1.mpr h.cover
  window := covers_joined.2.1.trans h.window
  page := covers_joined.2.2.trans h.page
  alone l hl hc := by
    rw [covers_joined.2.1, covers_joined.2.2]
    exact h.alone l hl (covers_joined.1.mp hc)

/-- An entry of a list whose page is missed and covered joins the covering walk (R26, step 1). -/
theorem OnePage.retranslate_join {t u : State} {w : WinId} {p : Nat} {is : List EntryId} (h : OnePage t w p is)
    {i : EntryId} (hi : i ∈ is) (hs : (u.entries[i]).state = .translating) (he : u.entries[i] = t.entries[i])
    (hw : u.windows = t.windows) (hc : Uncached u w p) {j : WalkId} (hj : CoversAlone u j w p) :
    Machine.retranslate i u = joinedAll [i] w p j u := by
  have page : pageOf u.windows[w] (u.entries[i]).dAddr = p := by rw [hw, he]; exact h.page i hi
  have placed : (u.entries[i]).placedIn u.windows[w] w
      = { u.entries[i] with window := w, page := p, hostAddr := none } := by
    rw [Entry.placedIn, page]
  have missed := lookup_miss (i := i) (t := setEntry i ((u.entries[i]).placedIn u.windows[w] w) u) hc
  have joined := missEntry_join (i := i)
    (t := bump cacheMisses (setEntry i ((u.entries[i]).placedIn u.windows[w] w) u))
    (hj.of_walks (by rw [bump_walks, setEntry_walks])).found
  rw [h.retranslate hi hs he hw, missed, joined, placed, joinedAll,
    ofFn_mem_singleton u.entries i fun e => { e with window := w, page := p, hostAddr := none }]
  rfl

/-- The entries of a list re-translate to a page that is missed and covered (R18, R21, R26). -/
theorem foldl_retranslate_join {t : State} {is : List EntryId} {w : WinId} {p : Nat} {j : WalkId}
    (hnd : is.Nodup) (hs : ∀ i ∈ is, (t.entries[i]).state = .translating) (h : OnePage t w p is)
    (hc : Uncached t w p) (hj : CoversAlone t j w p) :
    is.foldl (fun u i => retranslate i u) t = joinedAll is w p j t := by
  suffices general : ∀ (l : List EntryId) (u : State), l.Nodup → l ⊆ is → (∀ i ∈ l, u.entries[i] = t.entries[i]) →
      u.windows = t.windows → u.cache = t.cache → CoversAlone u j w p →
      l.foldl (fun u i => retranslate i u) u = joinedAll l w p j u from
    general is t hnd (List.Subset.refl _) (fun _ _ => rfl) rfl rfl hj
  intro l
  induction l with
  | nil => exact fun u _ _ _ _ _ _ => (joinedAll_nil w p j u).symm
  | cons i l ih =>
    intro u hnd hsub he hw hcache hju
    obtain ⟨hi, hnd⟩ := List.nodup_cons.mp hnd
    have hie := he i List.mem_cons_self
    have him := hsub List.mem_cons_self
    have first : retranslate i u = joinedAll [i] w p j u :=
      h.retranslate_join him (by rw [hie]; exact hs i him) hie hw (by unfold Uncached; rw [hcache]; exact hc) hju
    rw [List.foldl_cons, first, ih (joinedAll [i] w p j u) hnd (fun x hx => hsub (List.mem_cons_of_mem i hx))
      (fun x hx => ?_) hw hcache (hju.joined [i] w p), joinedAll_cons hi]
    have hxi : x ∉ [i] := by rw [List.mem_singleton]; rintro rfl; exact hi hx
    rw [← he x (List.mem_cons_of_mem i hx)]
    simp only [joinedAll, Fin.getElem_fin, Vector.getElem_ofFn, hxi, if_false]

/-! ### A walk that starts for the first of a list (R26, step 2) -/

/-- A walk slot under way for a page, with no waiter yet. -/
def opened (j : WalkId) (w : WinId) (p : Nat) (t : State) : State :=
  { t with
    walks := t.walks.set j
      { state := .queued, window := w, page := p
        mapAddr := (t.windows[w]).mapRoot + BitVec.ofNat 50 (8 * p), startTick := t.now }
    ownList := t.ownList ++ [.walk j] }

theorem CoversAlone.opened {t : State} {j : WalkId} {w : WinId} {p : Nat} (h : Uncovered t w p) :
    CoversAlone (opened j w p t) j w p := by
  have self : (Machine.opened j w p t).walks[j]
      = { state := .queued, window := w, page := p
          mapAddr := (t.windows[w]).mapRoot + BitVec.ofNat 50 (8 * p), startTick := t.now } := by
    rw [Machine.opened, set_getElem, if_pos rfl]
  have other {l : WalkId} (hl : l ≠ j) : (Machine.opened j w p t).walks[l] = t.walks[l] := by
    rw [Machine.opened, set_getElem, if_neg hl]
  refine ⟨?_, by rw [self], by rw [self], fun l hl hc => ?_⟩
  · rw [covers, self]; exact ⟨rfl, rfl⟩
  · unfold covers at hc
    rw [other hl] at hc ⊢
    exact h l hc

/-- The entries of a list re-translate to a page that is missed and that no walk covers: the first starts the
walk and the others join it (R18, R21, R26). -/
theorem foldl_retranslate_start {t : State} {is : List EntryId} {w : WinId} {p : Nat} {j : WalkId}
    (hnd : is.Nodup) (hne : is ≠ []) (hs : ∀ i ∈ is, (t.entries[i]).state = .translating) (h : OnePage t w p is)
    (hc : Uncached t w p) (hu : Uncovered t w p) (hj : LowestFreeWalk t j) (hb : t.backlog = []) :
    is.foldl (fun u i => retranslate i u) t = joinedAll is w p j (opened j w p t) := by
  have page : OnePage (opened j w p t) w p is := ⟨h.valid, h.mapped, h.one, h.permits, h.page⟩
  rw [← foldl_retranslate_join (t := opened j w p t) hnd hs page hc (.opened hu)]
  obtain ⟨i, l, rfl⟩ := List.exists_cons_of_ne_nil hne
  refine congrArg (fun u => l.foldl (fun u i => retranslate i u) u) ?_
  have hi : i ∈ i :: l := List.mem_cons_self
  have hpage : pageOf t.windows[w] (t.entries[i]).dAddr = p := h.page i hi
  have placed : (t.entries[i]).placedIn t.windows[w] w
      = { t.entries[i] with window := w, page := p, hostAddr := none } := by
    rw [Entry.placedIn, hpage]
  have missed := lookup_miss (i := i) (t := setEntry i ((t.entries[i]).placedIn t.windows[w] w) t) hc
  have started := missEntry_start (i := i) (k := j)
    (t := bump cacheMisses (setEntry i ((t.entries[i]).placedIn t.windows[w] w) t)) hu hj
    (by rw [bump_backlog, setEntry_backlog, hb]; simp)
  have joined := page.retranslate_join (u := opened j w p t) (j := j) hi (hs i hi) rfl rfl hc (.opened hu)
  have walks : (opened j w p t).walks.set j
        { (opened j w p t).walks[j] with waiters := ((opened j w p t).walks[j]).waiters ++ [i] }
      = t.walks.set j
          { state := .queued, window := w, page := p
            mapAddr := (t.windows[w]).mapRoot + BitVec.ofNat 50 (8 * p), waiters := [i]
            startTick := t.now } := by
    rw [opened, set_getElem, if_pos rfl, Vector.set_set]
    rfl
  show retranslate i t = retranslate i (opened j w p t)
  rw [joined, h.retranslate hi (hs i hi) rfl rfl, missed, started, placed, joinedAll, walks,
    ofFn_mem_singleton (opened j w p t).entries i fun e => { e with window := w, page := p, hostAddr := none }]
  rfl

/-! ### The outcomes of a stale walk's waiters (R35) -/

section StaleWaiters

variable {s : State} {p : CplPacket} {rest : List CplPacket} {k : WalkId} {word : Word}

/-- No waiter has a VALID match. -/
theorem StaleWord.unmapped (h : StaleWord s p rest k word)
    (hm : ∀ i ∈ (s.walks[k]).waiters, ∀ v : WinId,
      (s.windows[v]).matches (s.entries[i]).requester (s.entries[i]).dAddr = true →
        (s.windows[v]).state = .retiring) :
    exec .completionMatching s = .next
      { slotFreed k rest s with
        entries := unmappedEntries (s.walks[k]).waiters s
        answerQ := s.answerQ ++ (s.walks[k]).waiters } := by
  let v : State := { slotFreed k rest s with
    entries := unmappedEntries (s.walks[k]).waiters s
    answerQ := s.answerQ ++ (s.walks[k]).waiters }
  rw [h.closes (v := v) (foldl_retranslate_unmapped (h.places.waiters k).1 h.loose hm) h.backlog]
  exact congrArg _ (conclude_same (before := s) (s := v) rfl rfl rfl id)

/-- A handing of the waiters closes with its records. -/
theorem StaleWord.handed (h : StaleWord s p rest k word) (g : Handing) (y : State)
    (hy : (s.walks[k]).waiters.foldl (fun t i => retranslate i t) (slotFreed k rest s)
      = handAll g (s.walks[k]).waiters y)
    (hb : y.backlog = s.backlog) (hf : y.fences = s.fences) (hr : y.faults = s.faults)
    (ha : y.alertSlot = s.alertSlot) (ho : y.ownList = s.ownList) :
    exec .completionMatching s = .next
      (noteRecords ((g.refuses (s.walks[k]).waiters y).map fun i => rightsNote g.window y.entries[i])
        { y with
          entries := Vector.ofFn fun i : Fin 64 =>
            if i ∈ (s.walks[k]).waiters then
              (if g.permits y.entries[i] = true then g.queued y.entries[i] else g.denied y.entries[i])
            else y.entries[i]
          issueQ := y.issueQ ++ (s.walks[k]).waiters.filter fun i => g.permits y.entries[i]
          answerQ := y.answerQ ++ g.refuses (s.walks[k]).waiters y
          contexts := stoppedContexts .rights (g.refuses (s.walks[k]).waiters y) y }) := by
  rw [h.closes hy ((handAll_frame g _ y).2.2.2.trans (hb.trans h.backlog)), handAll_eq]
  exact congrArg _ (conclude_offerAll (before := s) _ hf hr ha fun he => ho ▸ he)

/-- The waiters' one match is a VALID window that lacks their kinds. -/
theorem StaleWord.denied (h : StaleWord s p rest k word) {w : WinId} (hv : (s.windows[w]).state = .valid)
    (hm : ∀ i ∈ (s.walks[k]).waiters, Matches s (s.entries[i]).requester (s.entries[i]).dAddr w)
    (hp : ∀ i ∈ (s.walks[k]).waiters, (s.windows[w]).rights.permits (s.entries[i]).kind = false) :
    exec .completionMatching s = .next
      (noteRecords ((s.walks[k]).waiters.map fun i => rightsNote w s.entries[i])
        { slotFreed k rest s with
          entries := Vector.ofFn fun i : Fin 64 =>
            if i ∈ (s.walks[k]).waiters then (s.entries[i]).answered { status := .denied } false else s.entries[i]
          answerQ := s.answerQ ++ (s.walks[k]).waiters
          contexts := stoppedContexts .rights (s.walks[k]).waiters s }) := by
  obtain ⟨refuses, permitted⟩ := (denialIn w).refuses_all (s.walks[k]).waiters (slotFreed k rest s) fun _ => rfl
  have handed := h.handed (denialIn w) (slotFreed k rest s)
    (foldl_retranslate_denied (h.places.waiters k).1 h.loose hv hm hp) rfl rfl rfl rfl rfl
  rw [refuses, permitted, List.append_nil] at handed
  exact handed

/-- The waiters' one match is a VALID DIRECT window with their kinds. -/
theorem StaleWord.direct (h : StaleWord s p rest k word) {w : WinId} (hv : (s.windows[w]).state = .valid)
    (hm : ∀ i ∈ (s.walks[k]).waiters, Matches s (s.entries[i]).requester (s.entries[i]).dAddr w)
    (hp : ∀ i ∈ (s.walks[k]).waiters, (s.windows[w]).rights.permits (s.entries[i]).kind = true)
    (hd : (s.windows[w]).mode = some .direct) :
    exec .completionMatching s = .next
      { slotFreed k rest s with
        entries := Vector.ofFn fun i : Fin 64 =>
          if i ∈ (s.walks[k]).waiters then (directIn s.windows[w] w).queued s.entries[i] else s.entries[i]
        issueQ := s.issueQ ++ (s.walks[k]).waiters } := by
  obtain ⟨refuses, permitted⟩ :=
    (directIn s.windows[w] w).refuses_none (s.walks[k]).waiters (slotFreed k rest s) fun _ => rfl
  have handed := h.handed (directIn s.windows[w] w) (slotFreed k rest s)
    (foldl_retranslate_direct (h.places.waiters k).1 h.loose hv hm hp hd) rfl rfl rfl rfl rfl
  rw [refuses, permitted, List.append_nil, List.map_nil, stoppedContexts_nil] at handed
  exact handed

/-- The waiters look up one page, which a good entry caches. -/
theorem StaleWord.hit (h : StaleWord s p rest k word) {w : WinId} {page : Nat} {c : CacheEntry}
    (one : OnePage (slotFreed k rest s) w page (s.walks[k]).waiters) (hne : (s.walks[k]).waiters ≠ [])
    (hc : s.cache.find? (cacheKey w page) = some c) (hu : c.upset = false) :
    let g := hitIn s.windows[w] w page c
    exec .completionMatching s = .next
      (noteRecords ((g.refuses (s.walks[k]).waiters s).map fun i => rightsNote w s.entries[i])
        { slotFreed k rest s with
          cache := movedFront w page c s.cache
          translationCtrs :=
            s.translationCtrs.set 0 (s.translationCtrs[0] + BitVec.ofNat 32 (s.walks[k]).waiters.length)
          entries := Vector.ofFn fun i : Fin 64 =>
            if i ∈ (s.walks[k]).waiters then
              (if g.permits s.entries[i] = true then g.queued s.entries[i] else g.denied s.entries[i])
            else s.entries[i]
          issueQ := s.issueQ ++ (s.walks[k]).waiters.filter fun i => g.permits s.entries[i]
          answerQ := s.answerQ ++ g.refuses (s.walks[k]).waiters s
          contexts := stoppedContexts .rights (g.refuses (s.walks[k]).waiters s) s }) := by
  intro g
  obtain ⟨n, hn⟩ := Nat.exists_eq_succ_of_ne_zero fun he => hne (List.length_eq_zero_iff.mp he)
  let y : State := { slotFreed k rest s with
    cache := movedFront w page c s.cache
    translationCtrs :=
      s.translationCtrs.set 0 (s.translationCtrs[0] + BitVec.ofNat 32 (s.walks[k]).waiters.length) }
  have counted : (hitAside (movedFront w page c s.cache))^[(s.walks[k]).waiters.length] (slotFreed k rest s) = y := by
    show _ = { slotFreed k rest s with
      cache := movedFront w page c s.cache
      translationCtrs :=
        s.translationCtrs.set 0 (s.translationCtrs[0] + BitVec.ofNat 32 (s.walks[k]).waiters.length) }
    rw [hn]
    exact iterate_hitAside _ n (slotFreed k rest s)
  have folded := foldl_retranslate_hit (t := slotFreed k rest s) (h.places.waiters k).1 h.loose one hc hu
  exact h.handed g y (folded.trans (congrArg (handAll g (s.walks[k]).waiters) counted)) rfl rfl rfl rfl rfl

/-- The waiters look up one page, which is not cached and which walk `j` covers. -/
theorem StaleWord.join (h : StaleWord s p rest k word) {w : WinId} {page : Nat} {j : WalkId}
    (one : OnePage (slotFreed k rest s) w page (s.walks[k]).waiters) (hc : Uncached s w page)
    (hj : CoversAlone (slotFreed k rest s) j w page) :
    exec .completionMatching s = .next (joinedAll (s.walks[k]).waiters w page j (slotFreed k rest s)) := by
  have folded := foldl_retranslate_join (t := slotFreed k rest s) (h.places.waiters k).1
    (fun i hi => (h.loose i hi).state) one hc hj
  rw [h.closes folded h.backlog]
  exact congrArg _ (conclude_same (before := s)
    (s := joinedAll (s.walks[k]).waiters w page j (slotFreed k rest s)) rfl rfl rfl id)

/-- The waiters look up one page, which is neither cached nor covered. -/
theorem StaleWord.start (h : StaleWord s p rest k word) {w : WinId} {page : Nat} {j : WalkId}
    (one : OnePage (slotFreed k rest s) w page (s.walks[k]).waiters) (hne : (s.walks[k]).waiters ≠ [])
    (hc : Uncached s w page) (hu : Uncovered s w page) (hj : LowestFreeWalk (slotFreed k rest s) j) :
    exec .completionMatching s = .next
      (joinedAll (s.walks[k]).waiters w page j (opened j w page (slotFreed k rest s))) := by
  have folded := foldl_retranslate_start (t := slotFreed k rest s) (h.places.waiters k).1 hne
    (fun i hi => (h.loose i hi).state) one hc (hu.freed (s := s) (t := slotFreed k rest s) (k := k) rfl) hj h.backlog
  have listed : (joinedAll (s.walks[k]).waiters w page j (opened j w page (slotFreed k rest s))).ownList ≠ [] :=
    List.append_ne_nil_of_right_ne_nil _ (by simp)
  rw [h.closes folded h.backlog]
  exact congrArg _ (conclude_same (before := s)
    (s := joinedAll (s.walks[k]).waiters w page j (opened j w page (slotFreed k rest s))) rfl rfl rfl
    fun he => absurd he listed)

/-- A walk that covers a page alone does so when a stale slot is FREE, and is not that slot (R25). -/
theorem StaleWord.coversAlone (h : StaleWord s p rest k word) (hcl : CacheLaw s) {j : WalkId} {w : WinId} {page : Nat}
    (hcov : covers s j) (hw : (s.walks[j]).window = w) (hp : (s.walks[j]).page = page) :
    CoversAlone (slotFreed k rest s) j w page ∧ (slotFreed k rest s).walks[j] = s.walks[j] := by
  have kept {l : WalkId} (hl : l ≠ k) : (slotFreed k rest s).walks[l] = s.walks[l] := by
    rw [slotFreed, set_getElem, if_neg hl]
  have hjk : j ≠ k := by
    rintro rfl
    exact absurd (h.stale.symm.trans hcov.2) (by decide)
  refine ⟨⟨(covers_freed (s := s) rfl).mpr ⟨hjk, hcov⟩, by rw [kept hjk]; exact hw, by rw [kept hjk]; exact hp,
    fun l hl hlc => ?_⟩, kept hjk⟩
  obtain ⟨hlk, hlc⟩ := (covers_freed (s := s) rfl).mp hlc
  rw [kept hlk]
  exact hcl.alone hcov hw hp hl hlc

end StaleWaiters

/-- A stale walk's word is not looked at: nothing is installed and no mismatch counts (R35). -/
theorem stale_installs_nothing {s t : State} {p : CplPacket} {rest : List CplPacket} {k : WalkId} {word : Word}
    (hcpl : CompletionFor s p rest (64 + k.val)) (hok : headerStatus p.h0 = 0) (hbody : p.body = [word])
    (hiss : (s.walks[k]).state = .issued) (hstale : (s.walks[k]).stale = true)
    (ht : exec .completionMatching s = .next t) :
    (∀ d ∈ t.cache, d ∈ s.cache) ∧ t.counter mapCheckMismatches = s.counter mapCheckMismatches := by
  rw [matching_of_word hcpl hok hbody hiss, if_pos hstale, Host.Outcome.next.injEq] at ht
  obtain ⟨cache, counters⟩ := conclude_translation s (finishStaleWalk k { s with uCplIn := rest })
  have kept := NoInstall.finishStaleWalk k { s with uCplIn := rest }
  rw [ht] at cache counters
  have counter : t.counter mapCheckMismatches
      = (finishStaleWalk k { s with uCplIn := rest }).counter mapCheckMismatches := by
    simp only [State.counter, counters]
  exact ⟨fun d hd => kept.cache d (by rw [← cache]; exact hd), counter.trans kept.mismatches⟩

/-! ### The outcome of a word that is not used (R34, R35) -/

/-- Settles O25: the table of the check for a fresh word, and the re-translation of a stale walk's waiters. -/
theorem unusableOrStaleWord : Obligations.UnusableOrStaleWord := by
  intro s p rest k word w page c j hpl hm hown hcpl hok hbody hiss x mode bad freed u stopped win pageIn handed
    refusals match1 allowed looked missed
  have unusable {f : FaultKind} {o : WordOutcome} {b : Bool} (hb : s.backlog = []) (hstale : x.stale = false)
      (hw : wordMismatches mode word = b) (hj : judgeWord mode word = o) (hf : wordFault o = some f) {d : Nat}
      (hd : mapCheckDetail mode = d) :
      exec .completionMatching s = .next
        (noteRecords ((if b = true then [walkNote .mapCheck d k s] else []) ++ outcomeNotes o k s)
          (countMismatch b (stopped f))) := by
    subst hw hj hd
    exact matching_of_unusable hpl hm hown hcpl hok hbody hiss hb hstale hf
  have stale (hst : x.stale = true) (hb : s.backlog = []) : StaleWord s p rest k word :=
    ⟨hpl, hm, hown, hcpl, hok, hbody, hiss, hst, hb⟩
  have onePage (hlook : looked) : OnePage freed w page x.waiters := by
    obtain ⟨⟨⟨-, hv, hone⟩, hper⟩, -, hd, -, hpage⟩ := hlook
    exact ⟨hv, hd, hone, hper, hpage⟩
  refine ⟨fun hst t ht => stale_installs_nothing hcpl hok hbody hiss hst ht, fun hb => ⟨fun hst hres => ?_,
    fun hst hres hmode hbad => ?_, fun hst hres hmode hbad hpres => ?_, fun hst hres hmode hpres => ?_,
    fun hst hret => (stale hst hb).unmapped hret, fun ⟨hst, hv, hone⟩ hper => (stale hst hb).denied hv hone hper,
    fun ⟨⟨hst, hv, hone⟩, hper⟩ hd => (stale hst hb).direct hv hone hper hd,
    fun hlook hc hcw hcp hcu => ?_, fun hlook hmiss hcov hjw hjp => ?_, fun hlook hmiss hunc hlow => ?_⟩⟩
  · exact unusable hb hst (by rw [wordMismatches, hres]) (by rw [judgeWord, hres]) rfl rfl
  · exact unusable hb hst (by rw [wordMismatches, hres, hmode, hbad])
      (by rw [judgeWord, hres, if_neg (by decide), if_pos ⟨hmode, hbad⟩]) rfl (by rw [hmode])
  · exact unusable hb hst (by rw [wordMismatches, hres, hmode, hbad])
      (by rw [judgeWord, hres, hmode, hpres]) rfl (by rw [hmode])
  · have hno : ¬(mode = .enforce ∧ checkByteMatches word = false) := by
      rintro ⟨henf, hbad⟩
      rcases hmode with hoff | hgood
      · rw [hoff] at henf; cases henf
      · exact hgood hbad
    have matched : wordMismatches mode word = false := by
      rcases hmode with hoff | hgood
      · rw [wordMismatches, hres, hoff]; rfl
      · rw [wordMismatches, Bool.not_eq_false _ |>.mp hgood, Bool.not_true, Bool.and_false]
    exact unusable hb hst matched (by rw [judgeWord, hres, if_neg hno, hpres]) rfl rfl
  · have one := onePage hlook
    obtain ⟨⟨⟨hst, -⟩, -⟩, hcl, -, hne, -⟩ := hlook
    exact (stale hst hb).hit one hne (find?_cacheKey_of_mem hcl.1 hc hcw hcp) hcu
  · have one := onePage hlook
    obtain ⟨⟨⟨hst, -⟩, -⟩, hcl, -⟩ := hlook
    obtain ⟨alone, self⟩ := (stale hst hb).coversAlone hcl hcov hjw hjp
    have joined := (stale hst hb).join one hmiss alone
    rw [joinedAll, self] at joined
    exact joined
  · have one := onePage hlook
    obtain ⟨⟨⟨hst, -⟩, -⟩, -, -, hne, -⟩ := hlook
    have started := (stale hst hb).start one hne hmiss hunc hlow
    have slot : (opened j w page freed).walks.set j
          { (opened j w page freed).walks[j] with
            waiters := ((opened j w page freed).walks[j]).waiters ++ x.waiters }
        = freed.walks.set j
            { state := .queued, window := w, page := page, mapAddr := win.mapRoot + BitVec.ofNat 50 (8 * page)
              waiters := x.waiters, startTick := s.now } := by
      rw [opened, set_getElem, if_pos rfl, Vector.set_set]
      rfl
    exact started.trans (congrArg (fun ws => Host.Outcome.next { joinedAll x.waiters w page j
      (opened j w page freed) with walks := ws }) slot)

end Sys2Proof.Machine
end

section
/-! SUPPORT. Marks lost to their fences: the counts fall, and at the close of the happening the fences whose counts
reached 0 end (R119, R120). -/

namespace Sys2Proof.Machine

/-! ### The end of several fences (R120) -/

/-- The fences of a list end: their slots and their RETIRING windows become FREE, and their awaiting slots are
REPLYING with DONE in the order of the list. -/
def endAll (ks : List FenceId) (t : State) : State :=
  { t with
    fences := Vector.ofFn fun k : Fin 4 => if k ∈ ks then {} else t.fences[k]
    windows := Vector.ofFn fun w : Fin 24 =>
      if (t.windows[w]).state = .retiring
          ∧ ks.any (fun k => decide ((t.fences[k]).command = some .retireWindow)
              && decide ((t.fences[k]).scope = some (.window w))) = true then
        { t.windows[w] with state := .free }
      else t.windows[w]
    mgmt := Vector.ofFn fun m : Fin 8 =>
      if ks.any (fun k => decide ((t.fences[k]).awaiting = some m)) = true then
        { t.mgmt[m] with state := .replying, payload := [], reply := [resultWord .done] }
      else t.mgmt[m]
    replyOrder := t.replyOrder ++ ks.filterMap fun k => (t.fences[k]).awaiting }

theorem endAll_nil (t : State) : endAll [] t = t := by
  have fences : (Vector.ofFn fun k : Fin 4 => if k ∈ ([] : List FenceId) then ({} : Fence) else t.fences[k])
      = t.fences := vector_ext fun k => by simp
  have windows : (Vector.ofFn fun w : Fin 24 =>
      if (t.windows[w]).state = .retiring
          ∧ ([] : List FenceId).any (fun k => decide ((t.fences[k]).command = some .retireWindow)
              && decide ((t.fences[k]).scope = some (.window w))) = true then
        { t.windows[w] with state := .free }
      else t.windows[w]) = t.windows := vector_ext fun w => by simp
  have mgmt : (Vector.ofFn fun m : Fin 8 =>
      if ([] : List FenceId).any (fun k => decide ((t.fences[k]).awaiting = some m)) = true then
        { t.mgmt[m] with state := .replying, payload := [], reply := [resultWord .done] }
      else t.mgmt[m]) = t.mgmt := vector_ext fun m => by simp
  rw [endAll, fences, windows, mgmt, List.filterMap_nil, List.append_nil]

/-- The reply of a slot that may be awaited (R71, R120). -/
theorem replyDone_eq (a : Option MgmtId) (t : State) :
    replyDone a t =
      { t with
        mgmt := Vector.ofFn fun m : Fin 8 => if a = some m then
          { t.mgmt[m] with state := .replying, payload := [], reply := [resultWord .done] } else t.mgmt[m]
        replyOrder := t.replyOrder ++ a.toList } := by
  cases a with
  | none =>
    have : (Vector.ofFn fun m : Fin 8 => if (none : Option MgmtId) = some m then
        { t.mgmt[m] with state := .replying, payload := [], reply := [resultWord .done] } else t.mgmt[m])
        = t.mgmt := vector_ext fun m => by simp
    rw [this, Option.toList_none, List.append_nil]
    rfl
  | some k =>
    have : (Vector.ofFn fun m : Fin 8 => if some k = some m then
        { t.mgmt[m] with state := .replying, payload := [], reply := [resultWord .done] } else t.mgmt[m])
        = t.mgmt.set k { t.mgmt[k] with state := .replying, payload := [], reply := [resultWord .done] } := by
      refine vector_ext fun m => ?_
      rw [set_getElem]
      by_cases hm : m = k
      · subst hm; simp
      · have : ¬k = m := fun h => hm h.symm
        simp [hm, this]
    rw [this]
    rfl

/-- One fence ends, and then others. -/
theorem endAll_endFence {k : FenceId} {ks : List FenceId} (hk : k ∉ ks) (t : State) :
    endAll ks (endFence k t) = endAll (k :: ks) t := by
  have ended := (endFence_eq k t).trans (replyDone_eq _ _)
  generalize hu : endFence k t = u at ended
  have other {j : FenceId} (hj : j ∈ ks) : u.fences[j] = t.fences[j] := by
    rw [ended, set_getElem, if_neg]
    rintro rfl; exact hk hj
  have fences : (endAll ks u).fences = (endAll (k :: ks) t).fences := by
    refine congrArg Vector.ofFn (funext fun j => ?_)
    by_cases hj : j ∈ ks
    · rw [if_pos hj, if_pos (List.mem_cons_of_mem k hj)]
    · rw [if_neg hj, ended, set_getElem]
      by_cases hjk : j = k
      · rw [if_pos hjk, hjk, if_pos List.mem_cons_self]
      · rw [if_neg hjk, if_neg (by simp [hjk, hj])]
  have windows : (endAll ks u).windows = (endAll (k :: ks) t).windows := by
    refine congrArg Vector.ofFn (funext fun w => ?_)
    have any : ks.any (fun j => decide ((u.fences[j]).command = some .retireWindow)
          && decide ((u.fences[j]).scope = some (.window w)))
        = ks.any fun j => decide ((t.fences[j]).command = some .retireWindow)
          && decide ((t.fences[j]).scope = some (.window w)) := by
      rw [Bool.eq_iff_iff, List.any_eq_true, List.any_eq_true]
      exact exists_congr fun j => and_congr_right fun hj => by rw [other hj]
    have uw : u.windows[w] = (freedWindows t.fences[k] t.windows)[w] := by rw [ended]
    rw [any, uw, freedWindows_getElem, List.any_cons]
    by_cases hr : (t.windows[w]).state = .retiring
    · by_cases hf : (t.fences[k]).command = some .retireWindow ∧ (t.fences[k]).scope = some (.window w)
      · simp only [hr, hf, and_self, if_true, reduceCtorEq, false_and, if_false, decide_true, Bool.and_self,
          Bool.true_or]
      · have none : (decide ((t.fences[k]).command = some .retireWindow)
            && decide ((t.fences[k]).scope = some (.window w))) = false := by
          rw [← Bool.not_eq_true, Bool.and_eq_true, decide_eq_true_eq, decide_eq_true_eq]
          exact hf
        simp only [hr, hf, and_false, if_false, true_and, none, Bool.false_or]
    · simp only [hr, false_and, if_false]
  have mgmt : (endAll ks u).mgmt = (endAll (k :: ks) t).mgmt := by
    refine congrArg Vector.ofFn (funext fun m => ?_)
    have any : ks.any (fun j => decide ((u.fences[j]).awaiting = some m))
        = ks.any fun j => decide ((t.fences[j]).awaiting = some m) := by
      rw [Bool.eq_iff_iff, List.any_eq_true, List.any_eq_true]
      exact exists_congr fun j => and_congr_right fun hj => by rw [other hj]
    have um : u.mgmt[m] = if (t.fences[k]).awaiting = some m then
        { t.mgmt[m] with state := .replying, payload := [], reply := [resultWord .done] } else t.mgmt[m] := by
      rw [ended]; simp only [Fin.getElem_fin, Vector.getElem_ofFn]
    rw [any, um, List.any_cons]
    by_cases hm : (t.fences[k]).awaiting = some m
    · simp only [hm, if_true, decide_true, Bool.true_or, ite_self]
    · simp only [hm, if_false, decide_false, Bool.false_or]
  have replies : (endAll ks u).replyOrder = (endAll (k :: ks) t).replyOrder := by
    have rest : ks.filterMap (fun j => (u.fences[j]).awaiting) = ks.filterMap fun j => (t.fences[j]).awaiting :=
      List.filterMap_congr fun j hj => by rw [other hj]
    have first : u.replyOrder = t.replyOrder ++ ((t.fences[k]).awaiting).toList := by rw [ended]
    simp only [endAll]
    rw [rest, first, List.append_assoc, List.filterMap_cons]
    cases (t.fences[k]).awaiting <;> rfl
  have frame : endAll ks u = { t with
      fences := (endAll ks u).fences, windows := (endAll ks u).windows, mgmt := (endAll ks u).mgmt
      replyOrder := (endAll ks u).replyOrder } := by
    have : u = { t with fences := u.fences, windows := u.windows, mgmt := u.mgmt, replyOrder := u.replyOrder } := by
      rw [ended]
    generalize u.fences = a, u.windows = b, u.mgmt = c, u.replyOrder = d at this
    rw [this]
    rfl
  rw [frame, fences, windows, mgmt, replies]
  rfl

/-- The fences of a list that are to end, end in the order of the list (R120). -/
theorem foldl_endFence (before : State) (ks : List FenceId) (hnd : ks.Nodup) (t : State) :
    ks.foldl (fun t k => if fenceEnds before t k then endFence k t else t) t
      = endAll (ks.filter (fenceEnds before t)) t := by
  induction ks generalizing t with
  | nil => exact (endAll_nil t).symm
  | cons k ks ih =>
    obtain ⟨hk, hnd⟩ := List.nodup_cons.mp hnd
    rw [List.foldl_cons, ih hnd]
    by_cases hend : fenceEnds before t k = true
    · have same : ks.filter (fenceEnds before (endFence k t)) = ks.filter (fenceEnds before t) := by
        refine List.filter_congr fun j hj => ?_
        have : (endFence k t).fences[j] = t.fences[j] := by
          rw [endFence_eq, replyDone_eq, set_getElem, if_neg]
          rintro rfl; exact hk hj
        simp only [fenceEnds, this]
      rw [if_pos hend, same, List.filter_cons_of_pos hend,
        endAll_endFence fun h => hk (List.mem_of_mem_filter h)]
    · rw [if_neg hend, List.filter_cons_of_neg hend]

/-! ### Marks lost in a happening (R119) -/

/-- The counts of the fences fall, and nothing else changes (R119). -/
def lowerAll (lost : FenceId → Nat) (t : State) : State :=
  { t with fences := Vector.ofFn fun k : Fin 4 =>
      { t.fences[k] with remaining := (t.fences[k]).remaining - lost k } }

theorem lowerAll_getElem (lost : FenceId → Nat) (t : State) (k : FenceId) :
    (lowerAll lost t).fences[k] = { t.fences[k] with remaining := (t.fences[k]).remaining - lost k } := by
  simp only [lowerAll, Fin.getElem_fin, Vector.getElem_ofFn]

/-- What the marks of an entry lower when it loses them (R119). -/
theorem dropMarks_eq (i : EntryId) (t : State) :
    dropMarks i t = lowerAll (marksOf t.entries[i]) (setEntry i { t.entries[i] with marks := noMarks } t) := by
  have fences : (Vector.ofFn fun k : Fin 4 => if (t.entries[i]).marks[k] then
        { t.fences[k] with remaining := (t.fences[k]).remaining - 1 } else t.fences[k])
      = Vector.ofFn fun k : Fin 4 =>
        { t.fences[k] with remaining := (t.fences[k]).remaining - marksOf t.entries[i] k } := by
    refine congrArg Vector.ofFn (funext fun k => ?_)
    rw [marksOf]
    split <;> rfl
  rw [dropMarks, fences]
  rfl

theorem endAll_lowerAll (lost : FenceId → Nat) (t : State) :
    endAll (endedFences lost t) (lowerAll lost t) = shed lost t := by
  simp only [endAll, shed, lowerAll_getElem]
  rfl

/-- The fences that end at the close are those whose counts the lost marks bring to 0 (R120). -/
theorem endFences_lowerAll {before t : State} (lost : FenceId → Nat) (hf : t.fences = before.fences) :
    endFences before (lowerAll lost t) = shed lost t := by
  have ended : (List.finRange 4).filter (fenceEnds before (lowerAll lost t)) = endedFences lost t := by
    refine List.filter_congr fun k _ => ?_
    rw [fenceEnds, lowerAll_getElem, hf]
    by_cases hs : (before.fences[k]).state = .waiting
    · rw [Bool.eq_iff_iff]
      simp only [hs, decide_true, Bool.true_and, Bool.and_eq_true, decide_eq_true_eq, ne_eq]
      omega
    · simp only [hs, decide_false, Bool.false_and]
  rw [endFences, foldl_endFence before _ (List.nodup_finRange 4), ended, endAll_lowerAll]

/-- The trigger and the records' growth do not read what the end of fences writes. -/
theorem triggerHolds_ended (t : State) (f : Vector Fence 4) (w : Vector Window 24) (m : Vector MgmtSlot 8)
    (r : List MgmtId) :
    triggerHolds { t with fences := f, windows := w, mgmt := m, replyOrder := r } = triggerHolds t := rfl

theorem triggerPoint_ended (before t : State) (f : Vector Fence 4) (w : Vector Window 24) (m : Vector MgmtSlot 8)
    (r : List MgmtId) :
    triggerPoint before { t with fences := f, windows := w, mgmt := m, replyOrder := r } = triggerPoint before t :=
  rfl

/-- What the end of fences writes, it takes from the tables that it writes. -/
theorem shed_of_same {t u : State} (lost : FenceId → Nat) (hf : u.fences = t.fences) (hw : u.windows = t.windows)
    (hm : u.mgmt = t.mgmt) (hr : u.replyOrder = t.replyOrder) :
    shed lost u =
      { u with
        fences := (shed lost t).fences
        windows := (shed lost t).windows
        mgmt := (shed lost t).mgmt
        replyOrder := (shed lost t).replyOrder } := by
  have ended : endedFences lost u = endedFences lost t := by simp only [endedFences, hf]
  have fences : (shed lost u).fences = (shed lost t).fences := by simp only [shed, ended, hf]
  have windows : (shed lost u).windows = (shed lost t).windows := by simp only [shed, ended, hf, hw]
  have mgmt : (shed lost u).mgmt = (shed lost t).mgmt := by simp only [shed, ended, hf, hm]
  have replies : (shed lost u).replyOrder = (shed lost t).replyOrder := by simp only [shed, ended, hf, hr]
  rw [← fences, ← windows, ← mgmt, ← replies]
  rfl

/-- The end of fences passes by a change that neither reads nor writes those tables. -/
theorem shed_comm {g : State → State} (lost : FenceId → Nat)
    (hg : ∀ (t : State) (f : Vector Fence 4) (w : Vector Window 24) (m : Vector MgmtSlot 8) (r : List MgmtId),
      g { t with fences := f, windows := w, mgmt := m, replyOrder := r }
        = { g t with fences := f, windows := w, mgmt := m, replyOrder := r })
    (hs : ∀ t : State, (g t).fences = t.fences ∧ (g t).windows = t.windows ∧ (g t).mgmt = t.mgmt
      ∧ (g t).replyOrder = t.replyOrder) (t : State) : shed lost (g t) = g (shed lost t) := by
  obtain ⟨hf, hw, hm, hr⟩ := hs t
  exact (shed_of_same lost hf hw hm hr).trans
    ((hg t _ _ _ _).symm.trans (congrArg g (shed_of_same (t := t) lost rfl rfl rfl rfl).symm))

theorem evalTrigger_shed (lost : FenceId → Nat) (t : State) :
    evalTrigger (shed lost t) = shed lost (evalTrigger t) := by
  have fired := shed_comm (g := fireAlert) lost (fun _ _ _ _ _ => rfl) (fun _ => ⟨rfl, rfl, rfl, rfl⟩) t
  have holds : triggerHolds (shed lost t) = triggerHolds t := triggerHolds_ended t _ _ _ _
  rw [evalTrigger, evalTrigger, holds]
  split
  · exact fired.symm
  · rfl

/-- The rotation counter becomes 0 (R85). -/
def clearRotation (t : State) : State :=
  { t with rotation := 0 }

theorem resetRotation_eq (before t : State) :
    resetRotation before t = if t.ownList = [] ∧ before.ownList ≠ [] then clearRotation t else t := rfl

theorem resetRotation_shed (before : State) (lost : FenceId → Nat) (t : State) :
    resetRotation before (shed lost t) = shed lost (resetRotation before t) := by
  have reset := shed_comm (g := clearRotation) lost (fun _ _ _ _ _ => rfl)
    (fun _ => ⟨rfl, rfl, rfl, rfl⟩) t
  have own : (shed lost t).ownList = t.ownList := by rw [shed]
  rw [resetRotation_eq, resetRotation_eq, own]
  split
  · exact reset.symm
  · rfl

/-- A happening in which marks are lost and records are made: the fences end, and the trigger is evaluated
(R120, R141). -/
theorem conclude_lowerAll {before v : State} (lost : FenceId → Nat) (rs : List FaultRecord)
    (hf : v.fences = before.fences) (hr : v.faults = before.faults) (ha : v.alertSlot = before.alertSlot)
    (ho : v.ownList = [] → before.ownList = []) :
    conclude before (offerAll rs (lowerAll lost v)) = shed lost (noteRecords rs v) := by
  have passed : offerAll rs (lowerAll lost v) = lowerAll lost (offerAll rs v) :=
    offerAll_comm (g := lowerAll lost) (fun _ _ _ _ => rfl) (fun _ => ⟨rfl, rfl, rfl, rfl⟩) rs v
  have hrec := offerAll_eq rs v
  have fences : (offerAll rs v).fences = before.fences := by rw [hrec]; exact hf
  have closed := conclude_offerAll rs hf hr ha ho
  have point : triggerPoint before (shed lost (offerAll rs v)) = triggerPoint before (offerAll rs v) :=
    triggerPoint_ended before (offerAll rs v) _ _ _ _
  rw [← closed, passed]
  simp only [conclude, endFences_lowerAll lost fences, endFences_of_same before _ fences, point]
  rw [← resetRotation_shed]
  refine congrArg (resetRotation before) ?_
  split
  · exact evalTrigger_shed lost _
  · rfl

end Sys2Proof.Machine
end

section
/-! SUPPORT. The release of a marked entry, at its tick or at once by a RETRY: its marks go to their fences, and it
re-translates (R89, R90, R119, R18). -/

namespace Sys2Proof.Machine

/-! ### The entry as its release leaves it to the window match (R90) -/

/-- A marked entry without its marks, its host address and its backoff (R90, R119). -/
def Entry.unmarked (e : Entry) : Entry :=
  { e with state := .translating, marks := noMarks, hostAddr := none, releaseTick := none }

/-- The state in which a released entry `i` re-translates (R90). -/
def releasing (i : EntryId) (e : Entry) (u : State) : State :=
  lowerAll (marksOf e) (setEntry i e.unmarked u)

theorem releasing_entry (i : EntryId) (e : Entry) (u : State) : (releasing i e u).entries[i] = e.unmarked := by
  show (u.entries.set i e.unmarked)[i] = _
  rw [set_getElem, if_pos rfl]

theorem releasing_set (i : EntryId) (e : Entry) (u : State) (x : Entry) :
    (releasing i e u).entries.set i x = u.entries.set i x :=
  Vector.set_set (xs := u.entries) (b := x) e.unmarked i.isLt

theorem ageReached_of {t : State} {i : EntryId} {e : Entry} (he : t.entries[i] = e) :
    ageReached t i = decide ((t.contexts[e.requester]).timeout ≤ tickAge t.now e.acceptTick) := by
  subst he; rfl

/-- A marked entry whose age has not reached the timeout re-translates at its release (R89, R90). -/
theorem releaseEntry_marked {i : EntryId} {t : State} (hage : ageReached t i = false)
    (hm : (t.entries[i]).marks ≠ noMarks) :
    releaseEntry i t = retranslate i (releasing i t.entries[i] t) := by
  have set_twice : (t.entries.set i { t.entries[i] with marks := noMarks }).set i (t.entries[i]).unmarked
      = t.entries.set i (t.entries[i]).unmarked := Vector.set_set _ i.isLt
  have dropped : setEntry i (t.entries[i]).unmarked (dropMarks i t) = releasing i t.entries[i] t := by
    rw [dropMarks_eq]
    show lowerAll (marksOf t.entries[i])
      (setEntry i (t.entries[i]).unmarked (setEntry i { t.entries[i] with marks := noMarks } t)) = _
    rw [setEntry, setEntry, set_twice]
    rfl
  rw [← dropped]
  simp only [releaseEntry, hage, hm, Bool.false_eq_true, if_false]
  rfl

/-! ### The tick at which one timer has run out (R102) -/

/-- What the timers of the Transaction Table read at other entries than `i` is the same. -/
structure SameTimers (i : EntryId) (s t : State) : Prop where
  entries : ∀ j : EntryId, j ≠ i → t.entries[j] = s.entries[j]
  timeouts : ∀ r : ReqId, (t.contexts[r]).timeout = (s.contexts[r]).timeout
  now : t.now = s.now
  timing : t.tickTiming = s.tickTiming

theorem SameTimers.quiet {i : EntryId} {s t : State} (h : SameTimers i s t) {j : EntryId} (hj : j ≠ i)
    (hq : EntryQuiet s j) : EntryQuiet t j := by
  obtain ⟨he, hc, hn, ht⟩ := h
  simpa only [EntryQuiet, entryExpires, entryReleases, entryReclaims, ageReached, reclaimReached, he j hj, hc, hn,
    ht] using hq

theorem tickEntry_of_quiet {t : State} {j : EntryId} (h : EntryQuiet t j) : tickEntry j t = t := by
  obtain ⟨he, hr, hc⟩ := h
  simp only [tickEntry, he, hr, hc, Bool.false_eq_true, if_false]

/-- In a list of entries that are quiet but for one, only that one acts. -/
theorem foldl_tickEntry {i : EntryId} {x : State} (l : List EntryId) (hi : i ∈ l) (hnd : l.Nodup) (s : State)
    (hx : tickEntry i s = x) (hs : ∀ j : EntryId, j ≠ i → EntryQuiet s j)
    (hq : ∀ j : EntryId, j ≠ i → EntryQuiet x j) : l.foldl (fun t j => tickEntry j t) s = x := by
  have still (l : List EntryId) (hl : i ∉ l) : l.foldl (fun t j => tickEntry j t) x = x := by
    induction l with
    | nil => rfl
    | cons j l ih =>
      rw [List.mem_cons, not_or] at hl
      rw [List.foldl_cons, tickEntry_of_quiet (hq j (Ne.symm hl.1)), ih hl.2]
  induction l with
  | nil => cases hi
  | cons j l ih =>
    obtain ⟨hj, hnd⟩ := List.nodup_cons.mp hnd
    rw [List.foldl_cons]
    by_cases hji : j = i
    · subst hji
      rw [hx, still l hj]
    · rw [tickEntry_of_quiet (hs j hji)]
      exact ih (List.mem_of_ne_of_mem (Ne.symm hji) hi) hnd

/-- The Transaction Table's tick at which entry `i` alone is released (R89, R102). -/
theorem release_at_tick {i : EntryId} {s x : State} (hdue : s.tableDue = true) (hrel : entryReleases s i = true)
    (hexp : entryExpires s i = false) (hq : ∀ j : EntryId, j ≠ i → EntryQuiet s j)
    (hm : (s.entries[i]).marks ≠ noMarks)
    (hx : retranslate i (releasing i s.entries[i] { s with tableDue := false }) = x) (ht : SameTimers i s x) :
    exec (.entryRelease i) s = .next (conclude s x) := by
  have young : ageReached s i = false := by
    simp only [entryReleases, Bool.and_eq_true, decide_eq_true_eq] at hrel
    rw [entryExpires, hrel.1] at hexp
    exact hexp
  have acted : tickEntry i { s with tableDue := false } = x := by
    have hexp' : entryExpires { s with tableDue := false } i = false := hexp
    have hrel' : entryReleases { s with tableDue := false } i = true := hrel
    rw [tickEntry, hexp', hrel', ← hx]
    exact releaseEntry_marked (t := { s with tableDue := false }) young hm
  show execEntryRelease i s = _
  rw [execEntryRelease, if_pos hrel, takeTableTick, if_pos hdue,
    foldl_tickEntry (List.finRange 64) (List.mem_finRange i) (List.nodup_finRange 64) { s with tableDue := false }
      acted hq fun j hj => ht.quiet hj (hq j hj)]

/-! ### The RETRY that releases at once (R88) -/

/-- A RETRY below the limit with a backoff of 0 releases its entry at once (R88). -/
theorem release_at_retry {i : EntryId} {s x : State} {p : CplPacket} {rest : List CplPacket}
    (hcpl : CompletionFor s p rest i.val) (hiss : (s.entries[i]).state = .issued) (hretry : headerStatus p.h0 = 1)
    (hlimit : (s.entries[i]).retryCount < (s.contexts[(s.entries[i]).requester]).retryLimit)
    (hback : min ((s.contexts[(s.entries[i]).requester]).backoffBase * 2 ^ (s.entries[i]).retryCount) 255 = 0)
    (hage : (s.now - (s.entries[i]).acceptTick).toNat < (s.contexts[(s.entries[i]).requester]).timeout)
    (hm : (s.entries[i]).marks ≠ noMarks)
    (hx : retranslate i (releasing i { s.entries[i] with retryCount := (s.entries[i]).retryCount + 1 }
      (bump retriesReceived { s with uCplIn := rest })) = x) :
    exec .completionMatching s = .next (conclude s x) := by
  let u := bump retriesReceived { s with uCplIn := rest }
  let e := { s.entries[i] with retryCount := (s.entries[i]).retryCount + 1 }
  -- the entry while its backoff of 0 runs
  let w : Entry := { e with
    state := .retryWait
    releaseTick := some (s.now
      + BitVec.ofNat 32 (backoff (s.contexts[(s.entries[i]).requester]).backoffBase e.retryCount)) }
  have zero : backoff (s.contexts[(s.entries[i]).requester]).backoffBase e.retryCount = 0 := hback
  have at_i : (setEntry i w u).entries[i] = w := by rw [setEntry_entries, set_getElem, if_pos rfl]
  have young : ageReached (setEntry i w u) i = false := by
    rw [ageReached_of at_i]
    exact decide_eq_false (Nat.not_le.mpr hage)
  have same : releasing i w (setEntry i w u) = releasing i e u := by
    have : (u.entries.set i w).set i w.unmarked = u.entries.set i e.unmarked := Vector.set_set _ i.isLt
    rw [releasing, releasing, setEntry, setEntry, setEntry]
    simp only [this]
    rfl
  have released : releaseEntry i (setEntry i w u) = x := by
    rw [releaseEntry_marked young (by rw [at_i]; exact hm), at_i, same]
    exact hx
  have status : hostStatus (headerStatus p.h0) = .retry := by rw [hretry]; rfl
  have matched : matchEntry i p { s with uCplIn := rest } = x := by
    have hst : (({ s with uCplIn := rest } : State).entries[i]).state = .issued := hiss
    simp only [matchEntry, hst, status]
    rw [← released]
    simp only [retryEntry]
    rw [if_pos hlimit, if_pos zero]
  rw [matching_of_entry hcpl, matched]

/-! ### Both releases -/

/-- The state `v` differs from `s` in what a release writes: the timers, the records and the fences are as in
`s`. -/
structure Released (i : EntryId) (s v : State) : Prop extends SameTimers i s v where
  fences : v.fences = s.fences
  faults : v.faults = s.faults
  alertSlot : v.alertSlot = s.alertSlot
  ownList : v.ownList = [] → s.ownList = []

/-- The close of a marked release: the re-translation's outcome, and the end of the fences that lost their last
mark (R120). -/
theorem Releases.closes {cmd : Instr} {p : CplPacket} {rest : List CplPacket} {i : EntryId} {s u : State} {e : Entry}
    (h : Releases cmd p rest i s u e) (hm : e.marks ≠ noMarks) (rs : List FaultRecord) (v : State)
    (hx : retranslate i (releasing i e u) = offerAll rs (lowerAll (marksOf e) v)) (hv : Released i s v) :
    exec cmd s = .next (shed (marksOf e) (noteRecords rs v)) := by
  have closed : conclude s (offerAll rs (lowerAll (marksOf e) v)) = shed (marksOf e) (noteRecords rs v) :=
    conclude_lowerAll (marksOf e) rs hv.fences hv.faults hv.alertSlot hv.ownList
  rw [← closed]
  rcases h with ⟨rfl, hdue, hrel, hexp, hq, rfl, rfl⟩ | ⟨rfl, hcpl, hiss, hretry, hlimit, hback, hage, rfl, rfl⟩
  · refine release_at_tick hdue hrel hexp hq hm hx ?_
    obtain ⟨he, hc, hn, ht⟩ := hv.toSameTimers
    rw [offerAll_eq]
    exact ⟨he, hc, hn, ht⟩
  · exact release_at_retry hcpl hiss hretry hlimit hback hage hm hx

/-- The state that a release has made by then differs in the tick to take, or in the ingress and the count of
RETRYs. -/
theorem Releases.origin {cmd : Instr} {p : CplPacket} {rest : List CplPacket} {i : EntryId} {s u : State} {e : Entry}
    (h : Releases cmd p rest i s u e) : ∃ (due : Bool) (ingress : List CplPacket) (counters : Vector Count 8),
      s = { u with tableDue := due, uCplIn := ingress, transactionCtrs := counters } := by
  rcases h with ⟨-, -, -, -, -, rfl, -⟩ | ⟨-, -, -, -, -, -, -, rfl, -⟩
  · exact ⟨s.tableDue, s.uCplIn, s.transactionCtrs, rfl⟩
  · exact ⟨s.tableDue, s.uCplIn, s.transactionCtrs, rfl⟩

/-- A released entry was waiting for its tick or issued, so it stands nowhere while it re-translates. -/
theorem Releases.loose {cmd : Instr} {p : CplPacket} {rest : List CplPacket} {i : EntryId} {s u : State} {e : Entry}
    (h : Releases cmd p rest i s u e) (hpl : PlaceLaw s) (hq : u.issueQ = s.issueQ) (hb : u.backlog = s.backlog)
    (hw : u.walks = s.walks) : Loose (releasing i e u) i := by
  have state : (s.entries[i]).state = .retryWait ∨ (s.entries[i]).state = .issued := by
    rcases h with ⟨-, -, hrel, -⟩ | ⟨-, -, hiss, -⟩
    · simp only [entryReleases, Bool.and_eq_true, decide_eq_true_eq] at hrel
      exact .inl hrel.1
    · exact .inr hiss
  obtain ⟨nb, nw⟩ := hpl.not_waiting (i := i) (by rcases state with h | h <;> rw [h] <;> decide)
  obtain ⟨-, queued, -⟩ := hpl
  refine ⟨by rw [releasing_entry]; rfl, by rw [releasing_entry]; rfl, ?_, ?_, ?_⟩
  · show i ∉ u.issueQ
    rw [hq, queued]
    rcases state with h | h <;> rw [h] <;> decide
  · show i ∉ u.backlog
    rw [hb]; exact nb
  · show ∀ k : WalkId, i ∉ (u.walks[k]).waiters
    rw [hw]; exact nw

end Sys2Proof.Machine
end

section
/-! SUPPORT. The outcomes of a marked entry's re-translation, one for each match (R18, R21, R26). -/

namespace Sys2Proof.Machine

section Outcomes

variable {i : EntryId} {e : Entry} {u : State} {w : WinId}

/-- No window, or a RETIRING one (R18). -/
theorem releasing_unmapped (hl : Loose (releasing i e u) i)
    (h : ∀ v : WinId, (u.windows[v]).matches e.requester e.dAddr = true → (u.windows[v]).state = .retiring) :
    retranslate i (releasing i e u) = offerAll [] (lowerAll (marksOf e)
      { u with
        entries := u.entries.set i (e.answered { status := .unmapped } false)
        answerQ := u.answerQ ++ [i] }) := by
  rw [retranslate_unmapped hl.state (by rw [releasing_entry]; exact h), answerEntry_of_loose hl, releasing_set,
    releasing_entry]
  rfl

/-- A VALID window without the kind (R18, R5). -/
theorem releasing_denied (hl : Loose (releasing i e u) i) (hm : Matches u e.requester e.dAddr w)
    (hv : (u.windows[w]).state = .valid) (hp : (u.windows[w]).rights.permits e.kind = false) :
    retranslate i (releasing i e u) = offerAll [rightsNote w e] (lowerAll (marksOf e)
      { u with
        entries := u.entries.set i (e.answered { status := .denied } false)
        answerQ := u.answerQ ++ [i]
        contexts := u.contexts.set e.requester ((u.contexts[e.requester]).stoppedBy .rights) }) := by
  rw [retranslate_denied hl.state (by rw [releasing_entry]; exact hm) hv (by rw [releasing_entry]; exact hp),
    denyEntry_of_loose hl w (releasing_entry i e u), releasing_set]
  rfl

/-- A VALID DIRECT window with the kind (R18, R7). -/
theorem releasing_direct (hl : Loose (releasing i e u) i) (hm : Matches u e.requester e.dAddr w)
    (hv : (u.windows[w]).state = .valid) (hp : (u.windows[w]).rights.permits e.kind = true)
    (hd : (u.windows[w]).mode = some .direct) :
    retranslate i (releasing i e u) = offerAll [] (lowerAll (marksOf e)
      { u with
        entries := u.entries.set i
          { e.unmarked.placedIn u.windows[w] w with
            state := .queued, hostAddr := some (directAddr u.windows[w] e.dAddr) }
        issueQ := u.issueQ ++ [i] }) := by
  rw [retranslate_allowed hl.state (by rw [releasing_entry]; exact hm) hv (by rw [releasing_entry]; exact hp),
    translateIn_direct hl.state hd, releasing_set, releasing_entry]
  rfl

/-- A VALID MAPPED window with the kind looks the page up (R18, R21). -/
theorem releasing_mapped (hl : Loose (releasing i e u) i) (hm : Matches u e.requester e.dAddr w)
    (hv : (u.windows[w]).state = .valid) (hp : (u.windows[w]).rights.permits e.kind = true)
    (hd : (u.windows[w]).mode = some .mapped) :
    retranslate i (releasing i e u) = lookup missEntry i w (pageOf u.windows[w] e.dAddr)
      (setEntry i (((releasing i e u).entries[i]).placedIn u.windows[w] w) (releasing i e u)) :=
  retranslate_mapped hl.state (by rw [releasing_entry]; exact hm) hv (by rw [releasing_entry]; exact hp) hd
    (by rw [releasing_entry]; rfl)

section Mapped

variable (hl : Loose (releasing i e u) i) (hm : Matches u e.requester e.dAddr w)
  (hv : (u.windows[w]).state = .valid) (hp : (u.windows[w]).rights.permits e.kind = true)
  (hd : (u.windows[w]).mode = some .mapped)

include hl hm hv hp hd

/-- The page is cached by a good entry (R21). -/
theorem releasing_hit {c : CacheEntry} (hc : u.cache.find? (cacheKey w (pageOf u.windows[w] e.dAddr)) = some c)
    (hu : c.upset = false) :
    retranslate i (releasing i e u) = handAll (hitIn u.windows[w] w (pageOf u.windows[w] e.dAddr) c) [i]
      (hitAside (movedFront w (pageOf u.windows[w] e.dAddr) c u.cache) (releasing i e u)) := by
  have hit := lookup_hit (i := i)
    (t := setEntry i (((releasing i e u).entries[i]).placedIn u.windows[w] w) (releasing i e u)) hc hu
  rw [releasing_mapped hl hm hv hp hd, hit]
  exact takeFrame_hitAside hl (by rw [releasing_entry]; rfl) _

/-- A hit with the kind in the effective rights (R21, R5). -/
theorem releasing_hit_permitted {c : CacheEntry}
    (hc : u.cache.find? (cacheKey w (pageOf u.windows[w] e.dAddr)) = some c) (hu : c.upset = false)
    (hpc : ((u.windows[w]).rights.meet c.rights).permits e.kind = true) :
    retranslate i (releasing i e u) = offerAll [] (lowerAll (marksOf e)
      { hitAside (movedFront w (pageOf u.windows[w] e.dAddr) c u.cache) u with
        entries := u.entries.set i
          { e.unmarked.placedIn u.windows[w] w with
            state := .queued, hostAddr := some (frameAddr c.frame e.dAddr) }
        issueQ := u.issueQ ++ [i] }) := by
  let y := hitAside (movedFront w (pageOf u.windows[w] e.dAddr) c u.cache) (releasing i e u)
  have at_i : y.entries[i] = e.unmarked := releasing_entry i e u
  have set_i (x : Entry) : y.entries.set i x = u.entries.set i x := releasing_set i e u x
  have handed := handAll_permitted (h := hitIn u.windows[w] w (pageOf u.windows[w] e.dAddr) c) (i := i) (t := y)
    (by rw [at_i]; exact hpc)
  rw [at_i, set_i] at handed
  exact (releasing_hit hl hm hv hp hd hc hu).trans handed

/-- A hit without the kind in the effective rights (R21, R5, R72). -/
theorem releasing_hit_denied {c : CacheEntry}
    (hc : u.cache.find? (cacheKey w (pageOf u.windows[w] e.dAddr)) = some c) (hu : c.upset = false)
    (hpc : ((u.windows[w]).rights.meet c.rights).permits e.kind = false) :
    retranslate i (releasing i e u) = offerAll [rightsNote w e] (lowerAll (marksOf e)
      { hitAside (movedFront w (pageOf u.windows[w] e.dAddr) c u.cache) u with
        entries := u.entries.set i ((e.unmarked.placedIn u.windows[w] w).answered { status := .denied } false)
        answerQ := u.answerQ ++ [i]
        contexts := u.contexts.set e.requester ((u.contexts[e.requester]).stoppedBy .rights) }) := by
  let y := hitAside (movedFront w (pageOf u.windows[w] e.dAddr) c u.cache) (releasing i e u)
  have at_i : y.entries[i] = e.unmarked := releasing_entry i e u
  have set_i (x : Entry) : y.entries.set i x = u.entries.set i x := releasing_set i e u x
  have handed := handAll_denied (h := hitIn u.windows[w] w (pageOf u.windows[w] e.dAddr) c) (i := i) (t := y)
    (by rw [at_i]; exact hpc)
  simp only [at_i, set_i] at handed
  exact (releasing_hit hl hm hv hp hd hc hu).trans handed

/-- The page is not cached: the entry, placed on it, goes to the Walk Unit, and CACHE_MISSES counts
(R21, R26). -/
theorem releasing_miss (hc : Uncached u w (pageOf u.windows[w] e.dAddr)) :
    retranslate i (releasing i e u) = missEntry i w (pageOf u.windows[w] e.dAddr)
      (lowerAll (marksOf e) (bump cacheMisses
        { u with entries := u.entries.set i (e.unmarked.placedIn u.windows[w] w) })) := by
  have missed := lookup_miss (i := i)
    (t := setEntry i (((releasing i e u).entries[i]).placedIn u.windows[w] w) (releasing i e u)) hc
  rw [releasing_mapped hl hm hv hp hd, missed, releasing_entry, setEntry, releasing_set]
  rfl

end Mapped

end Outcomes

/-! ### What a marked release leaves -/

/-- A stop leaves the timeouts. -/
theorem set_stoppedBy_timeout (cs : Vector Context 16) (q : ReqId) (kind : FaultKind) (r : ReqId) :
    ((cs.set q ((cs[q]).stoppedBy kind))[r]).timeout = (cs[r]).timeout := by
  rw [set_getElem]
  split
  next h =>
    subst h
    unfold Context.stoppedBy
    split <;> rfl
  next => rfl

theorem Released.of_set {i : EntryId} {s v : State} {x : Entry} (he : v.entries = s.entries.set i x)
    (hc : ∀ r : ReqId, (v.contexts[r]).timeout = (s.contexts[r]).timeout) (hn : v.now = s.now)
    (ht : v.tickTiming = s.tickTiming) (hf : v.fences = s.fences) (hr : v.faults = s.faults)
    (ha : v.alertSlot = s.alertSlot) (ho : v.ownList = [] → s.ownList = []) : Released i s v where
  entries j hj := by rw [he, set_getElem, if_neg hj]
  timeouts := hc
  now := hn
  timing := ht
  fences := hf
  faults := hr
  alertSlot := ha
  ownList := ho

/-- Settles O31: the marks go to their fences, and the entry ends as its match and its page give. -/
theorem markedReleaseRetranslates : Obligations.MarkedReleaseRetranslates := by
  intro s cmd p rest i u e w c k hpl hcl h hm
  have closes := h.closes hm
  have loose := h.loose hpl
  obtain ⟨due, ingress, counters, rfl⟩ := h.origin
  intro win page fresh waits one denied
  have hl : Loose (releasing i e u) i := loose rfl rfl rfl
  have stopped (x : Entry) (v : State) (hv : v.entries = u.entries) (ha : v.answerQ = u.answerQ) :
      denied x v = noteRecords [rightsNote w e]
        { v with
          entries := u.entries.set i (x.answered { status := .denied } false)
          answerQ := u.answerQ ++ [i]
          contexts := v.contexts.set e.requester ((v.contexts[e.requester]).stoppedBy .rights) } :=
    noteRecords_stop [rightsNote w e] .rights e.requester
      { v with
        entries := u.entries.set i (x.answered { status := .denied } false)
        answerQ := u.answerQ ++ [i] }
  refine ⟨fun hno => ?_, fun hone hv hp => ?_, fun ⟨hone, hv, hp⟩ hd => ?_, ?_, ?_⟩
  · let v : State := { u with
      entries := u.entries.set i (e.answered { status := .unmapped } false), answerQ := u.answerQ ++ [i] }
    exact closes [] v (releasing_unmapped hl hno) (.of_set (v := v) rfl (fun _ => rfl) rfl rfl rfl rfl rfl id)
  · let v : State := { u with
      entries := u.entries.set i (e.answered { status := .denied } false)
      answerQ := u.answerQ ++ [i]
      contexts := u.contexts.set e.requester ((u.contexts[e.requester]).stoppedBy .rights) }
    rw [stopped e u rfl rfl]
    exact closes [rightsNote w e] v (releasing_denied hl hone hv hp)
      (.of_set (v := v) rfl (set_stoppedBy_timeout u.contexts e.requester .rights) rfl rfl rfl rfl rfl id)
  · let v : State := { u with
      entries := u.entries.set i
        { fresh with state := .queued, hostAddr := some (win.hostBase + (e.dAddr - win.base).setWidth 50) }
      issueQ := u.issueQ ++ [i] }
    exact closes [] v (releasing_direct hl hone hv hp hd)
      (.of_set (v := v) rfl (fun _ => rfl) rfl rfl rfl rfl rfl id)
  · intro ⟨hone, hv, hp⟩ hd hc hcw hcp hcu hit
    have found : u.cache.find? (cacheKey w page) = some c := find?_cacheKey_of_mem hcl.1 hc hcw hcp
    refine ⟨fun hpc => ?_, fun hpc => ?_⟩
    · let v : State := { hit with
        entries := u.entries.set i
          { fresh with state := .queued, hostAddr := some (c.frame ++ e.dAddr.extractLsb' 0 14) }
        issueQ := u.issueQ ++ [i] }
      exact closes [] v (releasing_hit_permitted hl hone hv hp hd found hcu hpc)
        (.of_set (v := v) rfl (fun _ => rfl) rfl rfl rfl rfl rfl id)
    · let v : State := { hit with
        entries := u.entries.set i (fresh.answered { status := .denied } false)
        answerQ := u.answerQ ++ [i]
        contexts := u.contexts.set e.requester ((u.contexts[e.requester]).stoppedBy .rights) }
      rw [stopped fresh hit rfl rfl]
      exact closes [rightsNote w e] v (releasing_hit_denied hl hone hv hp hd found hcu hpc)
        (.of_set (v := v) rfl (set_stoppedBy_timeout u.contexts e.requester .rights) rfl rfl rfl rfl rfl id)
  · intro ⟨hone, hv, hp⟩ hd hmiss miss
    have missed := releasing_miss hl hone hv hp hd hmiss
    refine ⟨fun hk hkw hkp => ?_, fun hunc => ⟨fun hk hbl => ?_, fun hbusy => ?_⟩⟩
    · let v : State := { miss with
        walks := u.walks.set k { u.walks[k] with waiters := (u.walks[k]).waiters ++ [i] } }
      have joined := missEntry_join (i := i) (t := lowerAll (marksOf e) miss)
        (coveringWalk_of (t := lowerAll (marksOf e) miss) hcl hk hkw hkp)
      exact closes [] v (missed.trans joined) (.of_set (v := v) rfl (fun _ => rfl) rfl rfl rfl rfl rfl id)
    · let v : State := { miss with
        walks := u.walks.set k (startedWalk u i w page), ownList := u.ownList ++ [.walk k] }
      have others (j : EntryId) (hj : j ∈ u.backlog) : (lowerAll (marksOf e) miss).entries[j] = u.entries[j] := by
        show (u.entries.set i _)[j] = _
        rw [set_getElem, if_neg]
        rintro rfl
        exact hl.backlog hj
      have started := missEntry_start (i := i) (t := lowerAll (marksOf e) miss) hunc hk fun j hj => by
        rw [others j hj]; exact hbl j hj
      have listed : v.ownList ≠ [] := List.append_ne_nil_of_right_ne_nil _ (by simp)
      exact closes [] v (missed.trans started)
        (.of_set (v := v) rfl (fun _ => rfl) rfl rfl rfl rfl rfl fun h => absurd h listed)
    · let v : State := { miss with backlog := u.backlog ++ [i] }
      have waiting := missEntry_backlog (i := i) (t := lowerAll (marksOf e) miss) hunc hbusy
      exact closes [] v (missed.trans waiting) (.of_set (v := v) rfl (fun _ => rfl) rfl rfl rfl rfl rfl id)

end Sys2Proof.Machine
end

section
/-! SUPPORT. The moves that a happening is made of: each changes a few fields of the state, under the conditions that
the laws need, and hands the entries that stand in no place from one move to the next. -/

namespace Sys2Proof.Machine

/-! ### Moves -/

/-- A point inside a happening: the state, and the TRANSLATING entries that have left one place of R25 and R28 and
not reached the next. -/
abbrev Point := State × List EntryId

/-- One move inside a happening. -/
inductive Move : Point → Point → Prop
  | count {s L} (c : Counter) : Move (s, L) (bump c s, L)
  | record {s L} (r : FaultRecord) : Move (s, L) (offerRecord r s, L)
  | stop {s L} (kind : FaultKind) (r : ReqId) : Move (s, L) (applyStop kind r s, L)
  | answer {s L} (i : EntryId) (a : Answer) (o : Bool) (ha : a.data.length = (s.entries[i]).answerLength a)
      (ho : o = true → (s.entries[i]).state = .issued) : Move (s, L) (answerEntry i a o s, L.erase i)
  | queue {s L} (i : EntryId) (addr : HAddr) : Move (s, i :: L) (queueEntry i addr s, L)
  | place {s L} (i : EntryId) (w : WinId) (p : Nat) (h : (s.entries[i]).state = .translating) :
      Move (s, L) (setEntry i { s.entries[i] with window := w, page := p, hostAddr := none } s, L)
  | settled {s L} (i : EntryId) (h : (s.entries[i]).state ≠ .translating) : Move (s, i :: L) (s, L)
  | cache {s L} (l : List CacheEntry) (h : l.length ≤ max s.cache.length 48) : Move (s, L) ({ s with cache := l }, L)
  | join {s L} (k : WalkId) (i : EntryId) (h : (s.walks[k]).state.underWay = true) :
      Move (s, i :: L) (joinWalk k i s, L)
  | start {s L} (k : WalkId) (i : EntryId) (w : WinId) (p : Nat) (h : (s.walks[k]).state = .free) :
      Move (s, i :: L) (startWalk k i w p s, L)
  | push {s L} (i : EntryId) (h : ∀ k : WalkId, (s.walks[k]).state ≠ .free) :
      Move (s, i :: L) ({ s with backlog := s.backlog ++ [i] }, L)
  | pull {s L} (m l : List EntryId) (hp : (m ++ l).Perm s.backlog) (hs : l.Sublist s.backlog) :
      Move (s, L) ({ s with backlog := l }, m ++ L)
  | abandonWalk {s L} (k : WalkId) (h : (s.walks[k]).state = .issued) :
      Move (s, L) (abandonWalk k s, (s.walks[k]).waiters ++ L)
  | waitWalk {s L} (k : WalkId) (c : Nat) (r : Tick) (h : (s.walks[k]).state = .issued)
      (hc : c ≤ s.timing.walkRetryLimit) :
      Move (s, L) (setWalk k { s.walks[k] with state := .retryWait, retryCount := c, releaseTick := some r } s, L)
  | queueWalk {s L} (k : WalkId) (c : Nat) (r : Option Tick)
      (h : (s.walks[k]).state = .issued ∨ (s.walks[k]).state = .retryWait)
      (hc : c ≤ max (s.walks[k]).retryCount s.timing.walkRetryLimit) :
      Move (s, L)
        ({ setWalk k { s.walks[k] with state := .queued, retryCount := c, releaseTick := r } s with
            ownList := s.ownList ++ [.walk k] }, L)
  | waitEntry {s L} (i : EntryId) (c : Nat) (r : Tick) (h : (s.entries[i]).state = .issued)
      (hc : c ≤ (s.contexts[(s.entries[i]).requester]).retryLimit) :
      Move (s, L) (setEntry i { s.entries[i] with state := .retryWait, retryCount := c, releaseTick := some r } s, L)
  | requeueEntry {s L} (i : EntryId) (h : (s.entries[i]).state = .retryWait) :
      Move (s, L)
        ({ s with
            entries := s.entries.set i { s.entries[i] with state := .queued, releaseTick := none }
            issueQ := s.issueQ ++ [i] }, L)
  | unmark {s L} (i : EntryId) (h : (s.entries[i]).state = .retryWait) :
      Move (s, L)
        (s |> dropMarks i
          |> setEntry i
              { s.entries[i] with
                state := .translating, marks := noMarks, hostAddr := none, releaseTick := none }, i :: L)
  | freeEntry {s L} (i : EntryId) (h : (s.entries[i]).state = .abandoned) : Move (s, L) (freeEntry i s, L)
  | freeAlert {s L} : Move (s, L) (freeAlert s, L)
  | abandonAlert {s L} (a : Tick) (h : s.alertSlot.state = .issued) :
      Move (s, L)
        ({ s with
            alertSlot := { s.alertSlot with state := .abandoned, releaseTick := none, abandonTick := some a } }, L)
  | waitAlert {s L} (c : Nat) (r : Tick) (h : s.alertSlot.state = .issued) (hc : c ≤ s.timing.walkRetryLimit) :
      Move (s, L)
        ({ s with alertSlot := { s.alertSlot with state := .retryWait, retryCount := c, releaseTick := some r } }, L)
  | queueAlert {s L} (c : Nat) (r : Option Tick) (h : s.alertSlot.state = .issued ∨ s.alertSlot.state = .retryWait)
      (hc : c ≤ max s.alertSlot.retryCount s.timing.walkRetryLimit) :
      Move (s, L)
        ({ s with
            alertSlot := { s.alertSlot with state := .queued, retryCount := c, releaseTick := r }
            ownList := s.ownList ++ [.alert] }, L)
  | endFence {s L} (k : FenceId) (h : (s.fences[k]).state = .waiting) : Move (s, L) (endFence k s, L)
  | fireAlert {s L} (h : s.alertSlot.state = .free) : Move (s, L) (fireAlert s, L)

/-- Some moves, one after the other. -/
def Moves (c d : Point) : Prop := Relation.ReflTransGen Move c d

theorem Moves.refl (c : Point) : Moves c c := Relation.ReflTransGen.refl

theorem Moves.trans {c d e : Point} (h : Moves c d) (h' : Moves d e) : Moves c e := Relation.ReflTransGen.trans h h'

theorem Move.moves {c d : Point} (h : Move c d) : Moves c d := Relation.ReflTransGen.single h

/-- What every move keeps, some moves keep. -/
theorem Moves.keeps {P : Point → Prop} (hP : ∀ c d, Move c d → P c → P d) {c d : Point} (h : Moves c d) (hc : P c) :
    P d := by
  induction h with
  | refl => exact hc
  | tail _ hm ih => exact hP _ _ hm ih

/-- A list of steps, each of which settles one entry of the list that stands in no place. -/
theorem Moves.foldl {f : State → EntryId → State} (hf : ∀ i t L, Moves (t, i :: L) (f t i, L)) (is L : List EntryId)
    (s : State) : Moves (s, is ++ L) (is.foldl f s, L) := by
  induction is generalizing s with
  | nil => exact .refl _
  | cons i is ih => exact (hf i s _).trans (ih _)

/-- A list of steps that settle no entry. -/
theorem Moves.foldl_same {α : Type} {f : State → α → State} {L : List EntryId} (hf : ∀ x t, Moves (t, L) (f t x, L))
    (xs : List α) (s : State) : Moves (s, L) (xs.foldl f s, L) := by
  induction xs generalizing s with
  | nil => exact .refl _
  | cons x xs ih => exact (hf x s).trans (ih _)

/-! ### Walk slots fill up -/

/-- No walk slot becomes FREE, and the backlog grows only while none is. -/
structure Fills (s t : State) : Prop where
  busy : ∀ k : WalkId, (t.walks[k]).state = .free → (s.walks[k]).state = .free
  backlog : ∀ k : WalkId, (t.walks[k]).state = .free → t.backlog.Sublist s.backlog

theorem Fills.refl (s : State) : Fills s s := ⟨fun _ => id, fun _ _ => List.Sublist.refl _⟩

theorem Fills.trans {s t u : State} (h : Fills s t) (h' : Fills t u) : Fills s u where
  busy k hk := h.busy k (h'.busy k hk)
  backlog k hk := (h'.backlog k hk).trans (h.backlog k (h'.busy k hk))

theorem Fills.of_same {s t : State} (hw : t.walks = s.walks) (hb : t.backlog = s.backlog) : Fills s t where
  busy k hk := by rwa [hw] at hk
  backlog _ _ := by rw [hb]

/-- A write to one walk slot that leaves it busy. -/
theorem Fills.of_set {s t : State} {k : WalkId} {x : WalkSlot} (hw : t.walks = s.walks.set k x)
    (hx : x.state = .free → (s.walks[k]).state = .free) (hb : t.backlog = s.backlog) : Fills s t where
  busy j hj := by
    rw [hw, set_getElem] at hj
    split at hj
    next h => subst h; exact hx hj
    next => exact hj
  backlog _ _ := by rw [hb]

theorem SlotState.ne_free_of_underWay {x : SlotState} (h : x.underWay = true) : x ≠ .free := by
  rintro rfl; cases h

theorem Fills.leavePlaces (i : EntryId) (s : State) : Fills s (leavePlaces i s) where
  busy k hk := by rwa [leavePlaces_walk] at hk
  backlog _ _ := List.filter_sublist

theorem answerEntry_walks (i : EntryId) (a : Answer) (o : Bool) (s : State) :
    (answerEntry i a o s).walks = if (s.entries[i]).state.inFlight = true then (leavePlaces i s).walks else s.walks := by
  simp only [answerEntry]
  split <;> rfl

theorem answerEntry_backlog (i : EntryId) (a : Answer) (o : Bool) (s : State) :
    (answerEntry i a o s).backlog
      = if (s.entries[i]).state.inFlight = true then s.backlog.filter (· ≠ i) else s.backlog := by
  simp only [answerEntry]
  split <;> rfl

theorem Fills.answerEntry (i : EntryId) (a : Answer) (o : Bool) (s : State) : Fills s (answerEntry i a o s) := by
  by_cases h : (s.entries[i]).state.inFlight = true
  · have left := Fills.leavePlaces i s
    exact ⟨fun k => by rw [answerEntry_walks, if_pos h]; exact left.busy k,
      fun k => by rw [answerEntry_walks, if_pos h, answerEntry_backlog, if_pos h]; exact left.backlog k⟩
  · rw [answerEntry_of_not i a o s (by simpa using h)]; exact .refl s

theorem replyDone_walks (m : Option MgmtId) (s : State) : (replyDone m s).walks = s.walks := by cases m <;> rfl
theorem replyDone_backlog (m : Option MgmtId) (s : State) : (replyDone m s).backlog = s.backlog := by cases m <;> rfl

theorem Move.fills {c d : Point} (h : Move c d) : Fills c.1 d.1 := by
  cases h with
  | answer i a o => exact .answerEntry i a o _
  | join k i h => exact .of_set rfl id rfl
  | start k i w p h => exact .of_set rfl (fun _ => h) rfl
  | push i h => exact ⟨fun _ => id, fun k hk => absurd hk (h k)⟩
  | pull m l hp hs => exact ⟨fun _ => id, fun _ _ => hs⟩
  | abandonWalk k h => exact .of_set rfl (fun h => by cases h) rfl
  | waitWalk k c r h hc => exact .of_set rfl (fun h => by cases h) rfl
  | queueWalk k c r h hc => exact .of_set rfl (fun h => by cases h) rfl
  | endFence k h => exact .of_same (by rw [endFence_eq, replyDone_walks]) (by rw [endFence_eq, replyDone_backlog])
  | count c => exact .of_same (bump_walks ..) (bump_backlog ..)
  | record r => exact .of_same (offerRecord_walks ..) (offerRecord_backlog ..)
  | stop kind r => exact .of_same (applyStop_walks ..) (applyStop_backlog ..)
  | queue i addr => exact .of_same (queueEntry_walks ..) (queueEntry_backlog ..)
  | _ => exact .of_same rfl rfl

theorem Moves.fills {c d : Point} (h : Moves c d) : Fills c.1 d.1 := by
  induction h with
  | refl => exact .refl _
  | tail _ hm ih => exact ih.trans hm.fills

/-- How many walk slots are FREE. -/
def freeWalks (s : State) : Nat :=
  (Finset.univ.filter fun k : WalkId => (s.walks[k]).state = .free).card

theorem freeWalks_le_four (s : State) : freeWalks s ≤ 4 := Finset.card_le_univ _

theorem Fills.freeWalks_le {s t : State} (h : Fills s t) : freeWalks t ≤ freeWalks s :=
  Finset.card_le_card (Finset.monotone_filter_right _ fun k _ hk => h.busy k hk)

theorem freeWalks_eq_zero {s : State} (h : freeWalks s = 0) (k : WalkId) : (s.walks[k]).state ≠ .free :=
  Finset.filter_eq_empty_iff.mp (Finset.card_eq_zero.mp h) (Finset.mem_univ k)

/-- A walk that starts takes a FREE slot. -/
theorem freeWalks_startWalk {k : WalkId} {s : State} (h : (s.walks[k]).state = .free) (i : EntryId) (w : WinId)
    (p : Nat) : freeWalks (startWalk k i w p s) < freeWalks s := by
  have slot : ((startWalk k i w p s).walks[k]).state = .queued := by
    simp only [startWalk, setWalk_walks, set_getElem, if_true]
  have filled : Fills s (startWalk k i w p s) := (Move.start (L := []) k i w p h).fills
  refine Finset.card_lt_card (Finset.ssubset_iff_of_subset
    (Finset.monotone_filter_right _ fun k _ hk => filled.busy k hk) |>.mpr ⟨k, ?_, ?_⟩)
  · simpa using h
  · simp [slot, -Fin.getElem_fin]

/-! ### Translation (R18, R21, R26) -/

theorem Moves.answerWith {st : Status} (hst : st ≠ .ok) (i : EntryId) (s : State) (L : List EntryId) :
    Moves (s, L) (answerWith i st s, L.erase i) :=
  (Move.answer i _ false (by simp [Entry.answerLength, hst]) (by simp)).moves

/-- An entry that stands in no place is answered. -/
theorem Moves.answerLoose {st : Status} (hst : st ≠ .ok) (i : EntryId) (s : State) (L : List EntryId) :
    Moves (s, i :: L) (Machine.answerWith i st s, L) := by
  simpa using Moves.answerWith hst i s (i :: L)

theorem Moves.denyEntry (i : EntryId) (w : WinId) (s : State) (L : List EntryId) :
    Moves (s, i :: L) (denyEntry i w s, L) :=
  ((Move.record _).moves.trans (Moves.answerLoose (by decide) i _ L)).trans (Move.stop _ _).moves

theorem Moves.takeFrame (i : EntryId) (w : WinId) (r : Rights) (f : BitVec 36) (s : State) (L : List EntryId) :
    Moves (s, i :: L) (takeFrame i w r f s, L) := by
  unfold Machine.takeFrame
  simp only
  split
  · exact (Move.queue i _).moves
  · exact .denyEntry i w s L

theorem length_movedFront {w : WinId} {p : Nat} {c : CacheEntry} {l : List CacheEntry}
    (h : l.find? (cacheKey w p) = some c) : (movedFront w p c l).length ≤ l.length := by
  have kept : (l.filter fun x => !cacheKey w p x).length < l.length :=
    List.length_filter_lt_length_iff_exists.mpr
      ⟨c, List.mem_of_find?_eq_some h, by simp [List.find?_some h]⟩
  simpa [movedFront] using kept

theorem Moves.cacheHit {i : EntryId} {w : WinId} {p : Nat} {c : CacheEntry} {s : State}
    (h : s.cache.find? (cacheKey w p) = some c) (L : List EntryId) : Moves (s, i :: L) (cacheHit i w p c s, L) :=
  ((Move.cache _ ((length_movedFront h).trans (le_max_left _ _))).moves.trans (Move.count _).moves).trans
    (.takeFrame i w _ _ _ L)

theorem Moves.storageUpsetFound (i : EntryId) (w : WinId) (p : Nat) (s : State) (L : List EntryId) :
    Moves (s, L) (storageUpsetFound i w p s, L) :=
  ((Move.cache _ ((List.length_filter_le _ _).trans (le_max_left _ _))).moves.trans (Move.count _).moves).trans
    (Move.record _).moves

/-- What a meaning of a miss does while at most `n` walk slots are FREE: it settles its entry. -/
def MissMoves (n : Nat) (miss : EntryId → WinId → Nat → State → State) : Prop :=
  ∀ (i : EntryId) (w : WinId) (p : Nat) (t : State) (L : List EntryId), freeWalks t ≤ n →
    Moves (t, i :: L) (miss i w p t, L)

section Miss

variable {n : Nat} {miss : EntryId → WinId → Nat → State → State} (hm : MissMoves n miss)

include hm

theorem Moves.lookup (i : EntryId) (w : WinId) (p : Nat) {s : State} (hn : freeWalks s ≤ n) (L : List EntryId) :
    Moves (s, i :: L) (lookup miss i w p s, L) := by
  have missed {t : State} (ht : Moves (s, i :: L) (t, i :: L)) :
      Moves (s, i :: L) (miss i w p (bump cacheMisses t), L) := by
    have counted := ht.trans (Move.count cacheMisses).moves
    exact counted.trans (hm i w p _ L (counted.fills.freeWalks_le.trans hn))
  unfold Machine.lookup
  split
  · exact missed (.refl _)
  next c hc =>
    split
    · exact missed (.storageUpsetFound i w p s _)
    · exact .cacheHit hc L

theorem Moves.translateIn {i : EntryId} (w : WinId) {s : State} (hn : freeWalks s ≤ n)
    (hs : (s.entries[i]).state = .translating) (L : List EntryId) :
    Moves (s, i :: L) (translateIn miss i w s, L) := by
  have placed := (Move.place (L := i :: L) i w (pageOf s.windows[w] (s.entries[i]).dAddr) hs).moves
  unfold Machine.translateIn
  simp only
  split
  · exact placed.trans (Move.queue i _).moves
  · exact placed.trans (.lookup hm i w _ (placed.fills.freeWalks_le.trans hn) L)

theorem Moves.retranslateWith (i : EntryId) {s : State} (hn : freeWalks s ≤ n) (L : List EntryId) :
    Moves (s, i :: L) (retranslateWith miss i s, L) := by
  unfold Machine.retranslateWith
  simp only
  split
  next hs =>
    split
    · exact .answerLoose (by decide) i s L
    next w _ =>
      split
      · exact .answerLoose (by decide) i s L
      · split
        · exact .translateIn hm w hn hs L
        · exact .denyEntry i w s L
  next hs => exact (Move.settled i hs).moves

/-- A list of entries re-translates in order. -/
theorem Moves.retranslateAll (is : List EntryId) {s : State} (hn : freeWalks s ≤ n) (L : List EntryId) :
    Moves (s, is ++ L) (is.foldl (fun t j => Machine.retranslateWith miss j t) s, L) := by
  induction is generalizing s with
  | nil => exact .refl _
  | cons i is ih =>
    have first := Moves.retranslateWith hm i hn (is ++ L)
    exact first.trans (ih (first.fills.freeWalks_le.trans hn))

end Miss

theorem lowestFreeWalk_free {s : State} {k : WalkId} (h : lowestFreeWalk s = some k) : (s.walks[k]).state = .free := by
  simpa using List.find?_some h

theorem lowestFreeWalk_none {s : State} (h : lowestFreeWalk s = none) (k : WalkId) : (s.walks[k]).state ≠ .free := by
  simpa using List.find?_eq_none.mp h k (List.mem_finRange k)

theorem coveringWalk_underWay {s : State} {w : WinId} {p : Nat} {k : WalkId} (h : coveringWalk s w p = some k) :
    (s.walks[k]).state.underWay = true := by
  have := List.find?_some h
  simp only [Bool.and_eq_true] at this
  exact this.1.1.1

/-- A miss settles its entry on a walk or in the backlog (R26). -/
theorem MissMoves.goToWalk (n : Nat) : MissMoves n (goToWalk n) := by
  induction n with
  | zero =>
    intro i w p t L hn
    unfold Machine.goToWalk
    split
    next k hk => exact (Move.join k i (coveringWalk_underWay hk)).moves
    · exact (Move.push i (freeWalks_eq_zero (Nat.le_zero.mp hn))).moves
  | succ n ih =>
    intro i w p t L hn
    unfold Machine.goToWalk
    split
    next k hk => exact (Move.join k i (coveringWalk_underWay hk)).moves
    · split
      next hnone => exact (Move.push i (lowestFreeWalk_none hnone)).moves
      next k hk =>
        have free := lowestFreeWalk_free hk
        have fewer := freeWalks_startWalk free i w p
        simp only
        refine ((Move.start (L := L) k i w p free).moves.trans (Move.pull _ _ ?_ List.filter_sublist).moves).trans
          (.retranslateAll ih _ (by show freeWalks (startWalk k i w p t) ≤ n; omega) L)
        exact List.filter_append_perm _ _

theorem Moves.retranslate (i : EntryId) (s : State) (L : List EntryId) : Moves (s, i :: L) (retranslate i s, L) :=
  .retranslateWith (MissMoves.goToWalk 4) i (freeWalks_le_four s) L

/-- The head of the backlog is served (R29). -/
theorem Moves.serveHead {i : EntryId} {rest : List EntryId} {s : State} (h : s.backlog = i :: rest)
    (L : List EntryId) : Moves (s, L) (Machine.retranslate i { s with backlog := rest }, L) := by
  have pulled : Move (s, L) ({ s with backlog := rest }, [i] ++ L) :=
    .pull [i] rest (by rw [h]; exact List.Perm.refl _) (by rw [h]; exact List.sublist_cons_self i rest)
  exact pulled.moves.trans (.retranslate i _ L)

theorem Moves.serveSteps (n : Nat) (k : WalkId) (s : State) (L : List EntryId) :
    Moves (s, L) (serveSteps n k s, L) := by
  induction n generalizing s with
  | zero => exact .refl _
  | succ n ih =>
    unfold Machine.serveSteps
    split
    · split
      · exact .refl _
      next i rest hb => exact (Moves.serveHead hb L).trans (ih _)
    · exact .refl _

theorem Moves.serveBacklog (k : WalkId) (s : State) (L : List EntryId) : Moves (s, L) (serveBacklog k s, L) :=
  .serveSteps _ k s L

end Sys2Proof.Machine
end

section
/-! SUPPORT. The work of a happening as moves: the walks (R29 to R39), the entries (R88 to R108), the alert slot
(R143 to R145), the takings of a tick (R102), completion matching (R93), and the close (R120, R141). -/

namespace Sys2Proof.Machine

/-! ### Walks that end -/

/-- The entries that a walk slot leaves in no place when it becomes FREE: its waiters, of which a slot that is not
under way has none (R25). -/
def Leaves (s : State) (k : WalkId) (m : List EntryId) : Prop :=
  m = (s.walks[k]).waiters ∨ m = [] ∧ (s.walks[k]).state.underWay = false

/-- The part of a happening between two ends of walks: some moves, or the end of a walk, whose slot becomes FREE and
is served (R29, R32). -/
inductive Turn : Point → Point → Prop
  | moves {c d} (h : Moves c d) : Turn c d
  | freed {c a b L M} (k : WalkId) (m : List EntryId) (h : Moves c (a, L)) (hm : Leaves a k m)
      (h' : Moves (freeWalk k a, m ++ L) (b, M)) : Turn c (serveBacklog k b, M)

/-- The work of a happening. -/
def Turns (c d : Point) : Prop := Relation.ReflTransGen Turn c d

theorem Turns.refl (c : Point) : Turns c c := Relation.ReflTransGen.refl

theorem Turns.trans {c d e : Point} (h : Turns c d) (h' : Turns d e) : Turns c e := Relation.ReflTransGen.trans h h'

theorem Turn.turns {c d : Point} (h : Turn c d) : Turns c d := Relation.ReflTransGen.single h

theorem Moves.turns {c d : Point} (h : Moves c d) : Turns c d := (Turn.moves h).turns

/-- What every move and every freed walk slot keep, the work of a happening keeps. -/
theorem Turns.keeps {P : Point → Prop} (hP : ∀ c d, Move c d → P c → P d)
    (hf : ∀ (k : WalkId) (s : State) (L m : List EntryId), Leaves s k m → P (s, L) → P (freeWalk k s, m ++ L))
    {c d : Point} (h : Turns c d) (hc : P c) : P d := by
  induction h with
  | refl => exact hc
  | tail _ ht ih =>
    cases ht with
    | moves h => exact h.keeps hP ih
    | freed k m h hm h' => exact (Moves.serveBacklog k _ _).keeps hP (h'.keeps hP (hf k _ _ m hm (h.keeps hP ih)))

theorem Turns.foldl_same {α : Type} {f : State → α → State} {L : List EntryId} (hf : ∀ x t, Turns (t, L) (f t x, L))
    (xs : List α) (s : State) : Turns (s, L) (xs.foldl f s, L) := by
  induction xs generalizing s with
  | nil => exact .refl _
  | cons x xs ih => exact (hf x s).trans (ih _)

/-! ### Answers of a list (R34, R37) -/

theorem Moves.answerAll {st : Status} (hst : st ≠ .ok) (is : List EntryId) (s : State) :
    Moves (s, []) (answerAll is st s, []) :=
  .foldl_same (fun i t => by simpa using Moves.answerWith hst i t []) is s

theorem Moves.answerAllLoose {st : Status} (hst : st ≠ .ok) (is : List EntryId) (s : State) (L : List EntryId) :
    Moves (s, is ++ L) (Machine.answerAll is st s, L) :=
  .foldl (fun i t M => .answerLoose hst i t M) is L s

theorem Moves.stopAll (kind : FaultKind) (rs : List ReqId) (s : State) (L : List EntryId) :
    Moves (s, L) (stopAll kind rs s, L) :=
  .foldl_same (fun r _ => (Move.stop kind r).moves) _ s

/-- Entries that are not TRANSLATING need no place. -/
theorem Moves.settledAll (is : List EntryId) {s : State} (h : ∀ i ∈ is, (s.entries[i]).state ≠ .translating)
    (L : List EntryId) : Moves (s, is ++ L) (s, L) := by
  induction is with
  | nil => exact .refl _
  | cons i is ih =>
    exact (Move.settled i (h i List.mem_cons_self)).moves.trans (ih fun j hj => h j (List.mem_cons_of_mem i hj))

/-- An answered entry is not in flight, and one that is not stays so (R52, R54). -/
theorem answerEntry_notInFlight {i j : EntryId} {a : Answer} {o : Bool} {s : State}
    (h : j = i ∨ (s.entries[j]).state.inFlight = false) :
    ((answerEntry i a o s).entries[j]).state.inFlight = false := by
  by_cases hj : j = i
  · subst hj
    by_cases hf : (s.entries[j]).state.inFlight = true
    · rw [(answerEntry_entry j a o s hf).1]; rfl
    · rw [answerEntry_of_not j a o s (by simpa using hf)]; simpa using hf
  · rw [answerEntry_other i j a o s hj]
    exact h.resolve_left hj

theorem answerAll_notInFlight {is : List EntryId} {st : Status} {j : EntryId} {s : State}
    (h : j ∈ is ∨ (s.entries[j]).state.inFlight = false) :
    ((answerAll is st s).entries[j]).state.inFlight = false := by
  induction is generalizing s with
  | nil => exact h.resolve_left List.not_mem_nil
  | cons i is ih =>
    refine ih (s := answerWith i st s) ?_
    rcases h with h | h
    · rcases List.mem_cons.mp h with rfl | h
      · exact .inr (answerEntry_notInFlight (.inl rfl))
      · exact .inl h
    · exact .inr (answerEntry_notInFlight (.inr h))

/-- An answer adds no waiter (R54). -/
theorem answerEntry_waiters (i : EntryId) (a : Answer) (o : Bool) (s : State) (k : WalkId) :
    ((answerEntry i a o s).walks[k]).waiters ⊆ (s.walks[k]).waiters := by
  rw [answerEntry_walks]
  split
  · rw [leavePlaces_walk]; exact fun j hj => List.mem_of_mem_filter hj
  · exact List.Subset.refl _

theorem answerAll_waiters (is : List EntryId) (st : Status) (s : State) (k : WalkId) :
    ((answerAll is st s).walks[k]).waiters ⊆ (s.walks[k]).waiters := by
  induction is generalizing s with
  | nil => exact List.Subset.refl _
  | cons i is ih => exact List.Subset.trans (ih (answerWith i st s)) (answerEntry_waiters i _ _ s k)

theorem stopAll_frame (kind : FaultKind) (rs : List ReqId) (s : State) :
    (stopAll kind rs s).walks = s.walks ∧ (stopAll kind rs s).entries = s.entries := by
  rw [stopAll, foldl_applyStop]
  exact ⟨rfl, rfl⟩

/-! ### Walks (R32 to R39) -/

theorem Moves.checkRecords (k : WalkId) (word : Word) (s : State) (L : List EntryId) :
    Moves (s, L) (checkRecords k word s, L) := by
  rw [checkRecords_eq]
  have records (rs : List FaultRecord) (t : State) : Moves (t, L) (offerAll rs t, L) :=
    .foldl_same (fun r _ => (Move.record r).moves) rs t
  refine Moves.trans ?_ (records _ _)
  unfold countMismatch
  split
  · exact (Move.count _).moves
  · exact .refl _

/-- The end of a walk with a word (R32 to R34). -/
theorem Turns.finishWalk (k : WalkId) (word : Word) (s : State) : Turns (s, []) (finishWalk k word s, []) := by
  have checked := Moves.checkRecords k word s []
  have waiters : (s.walks[k]).waiters = ((Machine.checkRecords k word s).walks[k]).waiters := by
    rw [checkRecords_walks]
  have installed : Moves (s, []) (install (s.walks[k]).window (s.walks[k]).page word (Machine.checkRecords k word s), []) :=
    checked.trans (Move.cache _ (by rw [List.length_take]; exact (min_le_left _ _).trans (le_max_right _ _))).moves
  unfold Machine.finishWalk
  simp only
  split
  · exact (Turn.freed k _ installed (.inl waiters) (.foldl (fun i t L => .takeFrame i _ _ _ t L) _ [] _)).turns
  · exact (Turn.freed k _ checked (.inl waiters)
      ((Moves.answerAllLoose (by decide) _ _ []).trans (.stopAll _ _ _ _))).turns

/-- The end of a stale walk (R35). -/
theorem Turns.finishStaleWalk (k : WalkId) (s : State) : Turns (s, []) (finishStaleWalk k s, []) :=
  (Turn.freed k _ (.refl _) (.inl rfl) (.foldl (fun i t L => .retranslate i t L) _ [] _)).turns

theorem answerEntry_walkState (i : EntryId) (a : Answer) (o : Bool) (s : State) (k : WalkId) :
    ((answerEntry i a o s).walks[k]).state = (s.walks[k]).state := by
  rw [answerEntry_walks]
  split
  · rw [leavePlaces_walk]
  · rfl

theorem answerAll_walkState (is : List EntryId) (st : Status) (s : State) (k : WalkId) :
    ((answerAll is st s).walks[k]).state = (s.walks[k]).state := by
  induction is generalizing s with
  | nil => rfl
  | cons i is ih => exact (ih (answerWith i st s)).trans (answerEntry_walkState i _ _ s k)

/-- A failed walk's effects before its slot ends: the count, the record, the answers and the stops (R37). -/
def walkFailed (d : Nat) (k : WalkId) (s : State) : State :=
  s |> bump walkFailures |> offerRecord (walkRecord .walkFailed d k s)
    |> answerAll (s.walks[k]).waiters .unmapped |> stopAll .walkFailed (waiterRequesters k s)

theorem failWalk_eq (d : Nat) (b : Bool) (k : WalkId) (s : State) :
    failWalk d b k s = if b = true then abandonWalk k (walkFailed d k s)
      else serveBacklog k (freeWalk k (walkFailed d k s)) := rfl

theorem Moves.walkFailed (d : Nat) (k : WalkId) (s : State) : Moves (s, []) (walkFailed d k s, []) :=
  (((Move.count _).moves.trans (Move.record _).moves).trans (.answerAll (by decide) _ _)).trans (.stopAll _ _ _ _)

theorem walkFailed_state (d : Nat) (k : WalkId) (s : State) :
    ((walkFailed d k s).walks[k]).state = (s.walks[k]).state := by
  rw [Machine.walkFailed, (stopAll_frame _ _ _).1, answerAll_walkState, offerRecord_walks, bump_walks]

/-- A failed walk's waiters are answered, so its slot leaves none of them TRANSLATING (R37). -/
theorem walkFailed_settled (d : Nat) (k : WalkId) (s : State) :
    ∀ i ∈ ((walkFailed d k s).walks[k]).waiters, ((walkFailed d k s).entries[i]).state ≠ .translating := by
  intro i hi htr
  rw [walkFailed, (stopAll_frame _ _ _).1] at hi
  rw [walkFailed, (stopAll_frame _ _ _).2] at htr
  have member := answerAll_waiters _ _ _ _ hi
  rw [offerRecord_walks, bump_walks] at member
  have answered := answerAll_notInFlight (st := .unmapped)
    (s := offerRecord (walkRecord .walkFailed d k s) (bump walkFailures s)) (.inl member)
  rw [htr] at answered
  cases answered

theorem Turns.failWalk (d : Nat) {b : Bool} {k : WalkId} {s : State} (h : b = true → (s.walks[k]).state = .issued) :
    Turns (s, []) (failWalk d b k s, []) := by
  have failed := Moves.walkFailed d k s
  have settled := walkFailed_settled d k s
  rw [failWalk_eq]
  split
  next hb =>
    have issued := (walkFailed_state d k s).trans (h hb)
    exact (failed.trans ((Move.abandonWalk k issued).moves.trans (.settledAll (s := abandonWalk k (Machine.walkFailed d k s)) _ settled []))).turns
  · exact (Turn.freed k _ failed (.inl rfl)
      (.settledAll (s := freeWalk k (Machine.walkFailed d k s)) _ settled [])).turns

/-- A RETRY at an ISSUED walk (R36). -/
theorem Turns.retryWalk {k : WalkId} {s : State} (h : (s.walks[k]).state = .issued) :
    Turns (s, []) (retryWalk k s, []) := by
  unfold Machine.retryWalk
  simp only
  split
  next hc =>
    split
    · exact (Move.queueWalk k _ _ (.inl h) (le_max_of_le_right hc)).moves.turns
    · exact (Move.waitWalk k _ _ h hc).moves.turns
  · exact .failWalk 3 (fun h => by cases h)

theorem Moves.releaseWalk {k : WalkId} {s : State} (h : (s.walks[k]).state = .retryWait) (L : List EntryId) :
    Moves (s, L) (releaseWalk k s, L) :=
  (Move.queueWalk k (s.walks[k]).retryCount none (.inr h) (le_max_left _ _)).moves

/-- The late completion or the reclaim of a walk slot (R39). -/
theorem Turns.endAbandonedWalk (c : Counter) (r : FaultRecord) {k : WalkId} {s : State}
    (h : (s.walks[k]).state = .abandoned) :
    Turns (s, []) (s |> bump c |> offerRecord r |> freeWalk k |> Machine.serveBacklog k, []) := by
  refine (Turn.freed k [] ((Move.count c).moves.trans (Move.record r).moves) (.inr ⟨rfl, ?_⟩) (.refl _)).turns
  rw [offerRecord_walks, bump_walks, h]
  rfl

/-! ### Entries (R88 to R108) -/

theorem Moves.expireEntry (i : EntryId) (s : State) : Moves (s, []) (expireEntry i s, []) := by
  refine ((Move.count _).moves.trans (Move.record _).moves).trans
    (Move.answer (L := []) i { status := .timeout } (decide ((s.entries[i]).state = .issued)) ?_ fun h => ?_).moves
  · simp [Entry.answerLength]
  · rw [offerRecord_entries, bump_entries]; simpa using h

theorem Moves.releaseEntry {i : EntryId} {s : State} (h : (s.entries[i]).state = .retryWait) :
    Moves (s, []) (releaseEntry i s, []) := by
  unfold Machine.releaseEntry
  simp only
  split
  · exact .expireEntry i s
  · split
    · exact (Move.requeueEntry i h).moves
    · exact (Move.unmark i h).moves.trans (.retranslate i _ [])

/-- The late completion or the reclaim of an entry (R96, R108). -/
theorem Moves.endAbandonedEntry (c : Counter) (r : FaultRecord) {i : EntryId} {s : State}
    (h : (s.entries[i]).state = .abandoned) (L : List EntryId) :
    Moves (s, L) (s |> bump c |> offerRecord r |> freeEntry i, L) :=
  ((Move.count c).moves.trans (Move.record r).moves).trans
    (Move.freeEntry i (by rw [offerRecord_entries, bump_entries]; exact h)).moves

theorem Moves.tickEntry (i : EntryId) (s : State) : Moves (s, []) (tickEntry i s, []) := by
  unfold Machine.tickEntry
  split
  · exact .expireEntry i s
  · split
    next h =>
      simp only [entryReleases, Bool.and_eq_true, decide_eq_true_eq] at h
      exact .releaseEntry h.1
    · split
      next h =>
        simp only [entryReclaims, Bool.and_eq_true, decide_eq_true_eq] at h
        exact .endAbandonedEntry reclaims _ h.1 []
      · exact .refl _

theorem Turns.tickWalk (k : WalkId) (s : State) : Turns (s, []) (tickWalk k s, []) := by
  unfold Machine.tickWalk
  split
  · exact .failWalk 2 (by simp)
  · split
    next h =>
      simp only [walkReleases, Bool.and_eq_true, decide_eq_true_eq] at h
      exact (Moves.releaseWalk h.1 []).turns
    · split
      next h =>
        simp only [walkReclaims, Bool.and_eq_true, decide_eq_true_eq] at h
        exact .endAbandonedWalk reclaims _ h.1
      · exact .refl _

theorem Moves.errorEntry (d : Nat) (i : EntryId) (s : State) : Moves (s, []) (errorEntry d i s, []) :=
  ((Move.count _).moves.trans (Move.record _).moves).trans (.answerWith (by decide) i _ [])

theorem Moves.okEntry (i : EntryId) (data : List Word) (s : State) : Moves (s, []) (okEntry i data s, []) := by
  unfold Machine.okEntry
  split
  next h =>
    refine (Move.answer (L := []) i { status := .ok, data := data } false ?_ (by simp)).moves
    rw [h, okLength, Entry.answerLength]
    cases (s.entries[i]).kind <;> simp
  · exact .errorEntry 2 i s

/-- The answer to exhausted retries carries as many words as its length says (R92, R55). -/
theorem exhaustAnswer_length (p : ExhaustPolicy) (e : Entry) :
    (exhaustAnswer p e).data.length = e.answerLength (exhaustAnswer p e) := by
  unfold exhaustAnswer Entry.answerLength
  split <;> simp_all [allOnes]

theorem Moves.retryEntry {i : EntryId} {s : State} (h : (s.entries[i]).state = .issued) :
    Moves (s, []) (retryEntry i s, []) := by
  have counted : Moves (s, []) (bump retriesReceived s, []) := (Move.count _).moves
  have issued : ((bump retriesReceived s).entries[i]).state = .issued := by rw [bump_entries]; exact h
  unfold Machine.retryEntry
  simp only
  split
  next hc =>
    have waiting (r : Tick) : Moves (bump retriesReceived s, []) (setEntry i
        { s.entries[i] with state := .retryWait, retryCount := (s.entries[i]).retryCount + 1, releaseTick := some r }
        (bump retriesReceived s), []) := by
      have := Move.waitEntry (L := []) i ((s.entries[i]).retryCount + 1) r issued
        (by simp only [bump_entries, bump_contexts]; exact hc)
      simp only [bump_entries] at this
      exact this.moves
    split
    · refine (counted.trans (waiting _)).trans (.releaseEntry ?_)
      rw [setEntry_entries, set_getElem, if_pos rfl]
    · exact counted.trans (waiting _)
  · refine (counted.trans (Move.record _).moves).trans (Move.answer (L := []) i _ false ?_ (by simp)).moves
    rw [offerRecord_entries, bump_entries]
    exact exhaustAnswer_length _ _

theorem Moves.strayCompletion (o : Owner) (s : State) (L : List EntryId) : Moves (s, L) (strayCompletion o s, L) :=
  (Move.count _).moves.trans (Move.record _).moves

theorem Moves.matchEntry (i : EntryId) (p : CplPacket) (s : State) : Moves (s, []) (matchEntry i p s, []) := by
  unfold Machine.matchEntry
  split
  next h =>
    split
    · exact .okEntry i _ s
    · exact .retryEntry h
    · exact .errorEntry 1 i s
  next h => exact .endAbandonedEntry lateCompletions _ h []
  all_goals exact .strayCompletion _ s []

theorem Turns.matchWalk (k : WalkId) (p : CplPacket) (s : State) : Turns (s, []) (matchWalk k p s, []) := by
  unfold Machine.matchWalk
  split
  next h =>
    split
    · split
      · exact .finishStaleWalk k s
      · exact .finishWalk k _ s
    · exact .retryWalk h
    · exact .failWalk 1 (fun h => by cases h)
  next h => exact .endAbandonedWalk lateCompletions _ h
  all_goals exact (Moves.strayCompletion _ s []).turns

/-! ### The alert slot (R143 to R145) -/

theorem Moves.failAlert {b : Bool} {s : State} (h : b = true → s.alertSlot.state = .issued) (L : List EntryId) :
    Moves (s, L) (failAlert b s, L) := by
  have noted : Moves (s, L) (offerRecord (alertRecord .alertFailed s) s, L) := (Move.record _).moves
  unfold Machine.failAlert
  simp only
  split
  next hb =>
    exact noted.trans (Move.abandonAlert s.now (by rw [offerRecord_alertSlot]; exact h hb)).moves
  · exact noted.trans Move.freeAlert.moves

theorem Moves.endAbandonedAlert (c : Counter) (r : FaultRecord) (s : State) (L : List EntryId) :
    Moves (s, L) (s |> bump c |> offerRecord r |> Machine.freeAlert, L) :=
  ((Move.count c).moves.trans (Move.record r).moves).trans Move.freeAlert.moves

theorem Moves.tickAlert (s : State) (L : List EntryId) : Moves (s, L) (tickAlert s, L) := by
  unfold Machine.tickAlert
  split
  · exact .failAlert (by simp) L
  · split
    next h =>
      simp only [alertReleases, Bool.and_eq_true, decide_eq_true_eq] at h
      exact (Move.queueAlert s.alertSlot.retryCount none (.inr h.1) (le_max_left _ _)).moves
    · split
      · exact .endAbandonedAlert reclaims _ s L
      · exact .refl _

theorem Moves.retryAlert {s : State} (h : s.alertSlot.state = .issued) (L : List EntryId) :
    Moves (s, L) (retryAlert s, L) := by
  unfold Machine.retryAlert
  simp only
  split
  next hc =>
    split
    · exact (Move.queueAlert _ _ (.inl h) (le_max_of_le_right hc)).moves
    · exact (Move.waitAlert _ _ h hc).moves
  · exact .failAlert (fun h => by cases h) L

theorem Moves.matchAlert (p : CplPacket) (s : State) (L : List EntryId) : Moves (s, L) (matchAlert p s, L) := by
  unfold Machine.matchAlert
  split
  next h =>
    split
    · split
      · exact Move.freeAlert.moves
      · exact .failAlert (fun h => by cases h) L
    · exact .retryAlert h L
    · exact .failAlert (fun h => by cases h) L
  · exact .endAbandonedAlert lateCompletions _ s L
  all_goals exact .strayCompletion _ s L

theorem Turns.takeCompletion (p : CplPacket) (s : State) : Turns (s, []) (takeCompletion p s, []) := by
  unfold Machine.takeCompletion
  split
  · exact (Moves.matchEntry _ p s).turns
  · exact .matchWalk _ p s
  · exact (Moves.matchAlert p s []).turns
  · exact (Moves.strayCompletion _ s []).turns

/-! ### The close of a happening (R120, R141) -/

theorem Moves.evalTrigger (s : State) (L : List EntryId) : Moves (s, L) (evalTrigger s, L) := by
  unfold Machine.evalTrigger
  split
  next h =>
    simp only [triggerHolds, Bool.and_eq_true, decide_eq_true_eq] at h
    exact (Move.fireAlert h.1.2).moves
  · exact .refl _

theorem Moves.endFences (before s : State) (L : List EntryId) : Moves (s, L) (endFences before s, L) :=
  .foldl_same (fun k t => by
    split
    next h =>
      simp only [fenceEnds, Bool.and_eq_true, decide_eq_true_eq] at h
      exact (Move.endFence k h.1.1).moves
    · exact .refl _) _ s

/-- The close of a happening, but for the rotation counter (R120, R141). -/
def closeEvents (before s : State) : State :=
  let t := endFences before s
  if triggerPoint before t then evalTrigger t else t

theorem conclude_eq (before s : State) : conclude before s = resetRotation before (closeEvents before s) := rfl

theorem Moves.closeEvents (before s : State) (L : List EntryId) : Moves (s, L) (closeEvents before s, L) := by
  unfold Machine.closeEvents
  simp only
  split
  · exact (Moves.endFences before s L).trans (.evalTrigger _ L)
  · exact .endFences before s L

end Sys2Proof.Machine
end

section
/-! SUPPORT. What every command does, as acts: the work of a happening with its opening and its close, and the plain
changes of the state by links, arrivals, arbiters, and the management commands. -/

namespace Sys2Proof.Machine

/-! ### Acts -/

/-- How a happening opens: what it takes from a queue, and what it writes before the work begins (R43, R49, R93,
R102). -/
inductive Opens : State → Point → Prop
  | same {s} : Opens s (s, [])
  | completion {s p rest} (h : s.uCplIn = p :: rest) : Opens s ({ s with uCplIn := rest }, [])
  | due {s} (a b c : Bool) : Opens s ({ s with tableDue := a, walkDue := b, alertDue := c }, [])
  | refused {s p rest} (x : Refused) (h : s.dReqIn = p :: rest) (hr : s.refusalQ.length < 16) :
      Opens s ({ s with dReqIn := rest, refusalQ := s.refusalQ ++ [x] }, [])
  | accepted {s p rest} (i : EntryId) (r : ReqId) (w : WinId) (h : s.dReqIn = p :: rest)
      (hi : (s.entries[i]).state = .free) (hm : malformedDetail p = none) :
      Opens s
        ({ s with
            dReqIn := rest
            entries := s.entries.set i (acceptedEntry r p w s)
            contexts :=
              s.contexts.set r { s.contexts[r] with outstanding := (s.contexts[r]).outstanding + 1 } }, [i])

/-- The rotation counter after a grant that the counter chose (R84). -/
def rotates (s : State) (n : Nat) : Prop :=
  n = 0 ∨ s.ownList ≠ [] ∧ s.rotation < s.guarantee ∧ n = s.rotation + 1

/-- One act of a command. -/
inductive Act : State → State → Prop
  | still {s} {pending : List Instr} {uHoldReq uHoldCpl : Bool} {uTx : Option Packet} {answerTurn : AnswerTurn}
      {windows : Vector Window 24} {cplTurn : CplTurn} {now : Tick} {tableDue walkDue alertDue : Bool}
      {overflowPending : Bool} {translationCtrs transactionCtrs requesterCtrs} {alertEnabled alertArmed : Bool}
      {mgmtOrder : List MgmtId} {headWaiting : Bool} {replyOrder : List MgmtId} :
      Act s
        { s with
          pending := pending, uHoldReq := uHoldReq, uHoldCpl := uHoldCpl, uTx := uTx, answerTurn := answerTurn
          windows := windows, cplTurn := cplTurn, now := now, tableDue := tableDue, walkDue := walkDue
          alertDue := alertDue, overflowPending := overflowPending, translationCtrs := translationCtrs
          transactionCtrs := transactionCtrs, requesterCtrs := requesterCtrs, alertEnabled := alertEnabled
          alertArmed := alertArmed, mgmtOrder := mgmtOrder, headWaiting := headWaiting, replyOrder := replyOrder }
  | upLink {s} : Act s { s with uUp := true }
  | downLink {s} : Act s { s with dUp := true }
  | work {s c u} (ho : Opens s c) (h : Turns c (u, [])) : Act s (resetRotation s u)
  | loseUp {s} (h : s.uUp = true) : Act s (loseUpstream s)
  | loseDown {s} : Act s (endDrains (Machine.endFences s (loseDownstream s)))
  | context {s} (r : ReqId) (c : Context) (hl : (s.contexts[r]).legal → c.legal)
      (hd : s.dUp = false → c.outstanding = (s.contexts[r]).outstanding
        ∧ (c.state = .draining → (s.contexts[r]).state = .draining ∨ (s.contexts[r]).outstanding ≠ 0)) :
      Act s (setContext r c s)
  | mgmt {s} {v : Vector MgmtSlot 8} {q : List Refused}
      (hv : ∀ m : MgmtId, (v[m]).state = .free → v[m] = {} ∨ v[m] = s.mgmt[m])
      (hq : q.length ≤ max s.replyRefusals.length 4) : Act s { s with mgmt := v, replyRefusals := q }
  | downstream {s} {dHoldReq dHoldCpl : Bool} {dReqIn : List ReqPacket} {dTx : Option Packet}
      {refusalQ : List Refused} (h : s.dUp = true) (hi : dReqIn.length ≤ max s.dReqIn.length 16)
      (hq : refusalQ.length ≤ s.refusalQ.length) :
      Act s
        { s with
          dHoldReq := dHoldReq, dHoldCpl := dHoldCpl, dReqIn := dReqIn, dTx := dTx, refusalQ := refusalQ }
  | ingress {s} {uReqIn : List ReqPacket} {uCplIn dCplIn : List CplPacket}
      (hr : uReqIn.length ≤ max s.uReqIn.length 16) (hc : uCplIn.length ≤ max s.uCplIn.length 16)
      (hp : dCplIn.length ≤ max s.dCplIn.length 16) :
      Act s { s with uReqIn := uReqIn, uCplIn := uCplIn, dCplIn := dCplIn }
  | issue {s} {i : EntryId} {rest n} (hi : s.issueQ = i :: rest) (h : (s.entries[i]).state = .queued) (hn : rotates s n) :
      Act s
        { s with
          issueQ := rest, entries := s.entries.set i { s.entries[i] with state := .issued }, rotation := n }
  | skipIssue {s} {i : EntryId} {rest n} (hi : s.issueQ = i :: rest) (h : (s.entries[i]).state ≠ .queued) (hn : rotates s n) :
      Act s { s with issueQ := rest, rotation := n }
  | grantWalk {s} {k : WalkId} {rest} (hl : s.ownList = .walk k :: rest) (h : (s.walks[k]).state = .queued) :
      Act s
        { s with ownList := rest, walks := s.walks.set k { s.walks[k] with state := .issued }, rotation := 0 }
  | grantAlert {s rest} (hl : s.ownList = .alert :: rest) (h : s.alertSlot.state = .queued) :
      Act s { s with ownList := rest, alertSlot := { s.alertSlot with state := .issued }, rotation := 0 }
  | skipWalk {s} {k : WalkId} {rest} (hl : s.ownList = .walk k :: rest) (h : (s.walks[k]).state ≠ .queued) :
      Act s { s with ownList := rest, rotation := 0 }
  | skipAlert {s rest} (hl : s.ownList = .alert :: rest) (h : s.alertSlot.state ≠ .queued) :
      Act s { s with ownList := rest, rotation := 0 }
  | answered {s} {i : EntryId} {rest} (hu : s.dUp = true) (hq : s.answerQ = i :: rest) (h : (s.entries[i]).state = .answering) :
      Act s { s with answerQ := rest, entries := s.entries.set i (sentEntry s.now s.entries[i]) }
  | skipAnswer {s} {i : EntryId} {rest} (hu : s.dUp = true) (hq : s.answerQ = i :: rest)
      (h : (s.entries[i]).state = .answering → (s.entries[i]).answer = none) : Act s { s with answerQ := rest }
  | run {s n} (hu : s.dUp = true) (hn : n ≤ 8) (hr : 0 < requestsToSend s) : Act s { s with runCount := n }
  | sendDown {s p rest} (hu : s.dUp = true) (hq : s.downQ = p :: rest) (hr : s.refusalCount = 0) :
      Act s { s with downQ := rest, runCount := 0 }
  | refuseDown {s p rest} (hq : s.downQ = p :: rest) (hr : 0 < s.refusalCount) :
      Act s { s with downQ := rest, refusalCount := s.refusalCount - 1 }
  | takeDown {s} (p : ReqPacket) (hu : s.dUp = true) (hq : s.downQ.length < 16) :
      Act s { s with downQ := s.downQ ++ [p] }
  | setting {s} {timing tickTiming : Timing} {guarantee : Nat} {alertAddress apertureBase : HAddr}
      (h : SettingsLaw s → SettingsLaw
        { s with
          timing := timing, tickTiming := tickTiming, guarantee := guarantee, alertAddress := alertAddress
          apertureBase := apertureBase }) :
      Act s
        { s with
          timing := timing, tickTiming := tickTiming, guarantee := guarantee, alertAddress := alertAddress
          apertureBase := apertureBase }
  | faults {s} {l : List FaultRecord} {n : Nat} (hl : l.length ≤ s.faults.length) (hn : n ≤ s.lost) :
      Act s { s with faults := l, lost := n }
  | cache {s} {l : List CacheEntry} (h : l.length ≤ s.cache.length) : Act s { s with cache := l }
  | withdraw {s} (k : FenceId) (cmd : FenceCommand) (scope : Scope) : Act s (withdrawScope k cmd scope s)
  | fence {s} (k : FenceId) (f : Fence) (h : f.state ≠ .free) : Act s (setFence k f s)

/-- Some acts, one after the other. -/
def Acts (s t : State) : Prop := Relation.ReflTransGen Act s t

theorem Acts.refl (s : State) : Acts s s := Relation.ReflTransGen.refl

theorem Acts.trans {s t u : State} (h : Acts s t) (h' : Acts t u) : Acts s u := Relation.ReflTransGen.trans h h'

theorem Act.acts {s t : State} (h : Act s t) : Acts s t := Relation.ReflTransGen.single h

/-- What every act keeps, some acts keep. -/
theorem Acts.keeps {P : State → Prop} (hP : ∀ s t, Act s t → P s → P t) {s t : State} (h : Acts s t) (hs : P s) :
    P t := by
  induction h with
  | refl => exact hs
  | tail _ ha ih => exact hP _ _ ha ih

theorem Acts.ite {b : Prop} [Decidable b] {s t u : State} (ht : b → Acts s t) (hu : ¬b → Acts s u) :
    Acts s (if b then t else u) := by
  split
  next h => exact ht h
  next h => exact hu h

/-! ### The close -/

theorem Acts.conclude {s u : State} {c : Point} (ho : Opens s c) (h : Turns c (u, [])) : Acts s (conclude s u) := by
  rw [conclude_eq]
  exact (Act.work ho (h.trans (Moves.closeEvents s u []).turns)).acts

/-- Moves that leave the own list waiting are an act of their own. -/
theorem Acts.of_moves {s t : State} (h : Moves (s, []) (t, [])) (ho : t.ownList = [] → s.ownList = []) :
    Acts s t := by
  have act := Act.work .same h.turns
  rw [resetRotation_of s t ho] at act
  exact act.acts

theorem Acts.count (c : Counter) (s : State) : Acts s (bump c s) :=
  .of_moves (Move.count c).moves fun h => by rwa [bump_ownList] at h

theorem Acts.evalTrigger (s : State) : Acts s (evalTrigger s) :=
  .of_moves (Moves.evalTrigger s []) (evalTrigger_ownList s)

/-! ### Links, hold lines and arrivals (R167 to R178) -/

theorem Acts.joinIngress_length {α : Type} (q : List α) (p : α) : (joinIngress q p).length ≤ max q.length 16 := by
  unfold joinIngress Config.ingressCapacity
  split
  · rw [List.length_append]; exact le_max_of_le_right (by simpa using ‹_›)
  · exact le_max_left _ _

theorem Acts.holdLine (port : Port) (cls : PktClass) (on : Bool) {s t : State}
    (h : execHoldLineChange port cls on s = .next t) : Acts s t := by
  unfold execHoldLineChange at h
  cases h
  split
  · exact .ite (fun _ => Act.still.acts) fun _ => .refl s
  · exact .ite (fun _ => Act.still.acts) fun _ => .refl s
  · exact .ite (fun hu => (Act.downstream hu (le_max_left _ _) le_rfl).acts) fun _ => .refl s
  · exact .ite (fun hu => (Act.downstream hu (le_max_left _ _) le_rfl).acts) fun _ => .refl s

/-! ### Intake (R43 to R50) -/

theorem Moves.bumpRefused (src : Source) (s : State) (L : List EntryId) : Moves (s, L) (bumpRefused src s, L) := by
  unfold Machine.bumpRefused
  split
  · exact .refl _
  · exact (Move.count _).moves

/-- A refusal, and the work that follows it (R44, R47). -/
theorem Acts.refused {p : ReqPacket} {rest : List ReqPacket} {s u : State} {st : Status} (h : s.dReqIn = p :: rest)
    (hr : s.refusalQ.length < 16) (hu : Moves (refuseRequest p st { s with dReqIn := rest }, []) (u, [])) :
    Acts s (Machine.conclude s u) :=
  .conclude (.refused _ h hr) (((Move.count intakeRefusals).moves.trans (.bumpRefused _ _ _)).trans hu).turns

theorem Acts.admitted {i : EntryId} {r : ReqId} {p : ReqPacket} {rest : List ReqPacket} {s : State}
    (h : s.dReqIn = p :: rest) (hi : (s.entries[i]).state = .free) (hm : malformedDetail p = none)
    (hr : s.refusalQ.length < 16) :
    Acts s (Machine.conclude s (admitRequest i r p { s with dReqIn := rest })) := by
  unfold admitRequest
  simp only
  split
  · exact .refused h hr (.refl _)
  split
  · exact .refused h hr (.refl _)
  split
  · exact .refused h hr (Move.record _).moves
  split
  · exact .refused h hr (.refl _)
  split
  · exact .refused h hr ((Move.record _).moves.trans (Move.stop _ _).moves)
  next w _ =>
    split
    · exact .refused h hr (.refl _)
    split
    · refine .conclude (.accepted i r w h hi hm)
        ((Move.count (accepted r)).moves.trans (.translateIn (MissMoves.goToWalk 4) w (freeWalks_le_four _) ?_ [])).turns
      rw [bump_entries, set_getElem, if_pos rfl]
      rfl
    · exact .refused h hr ((Move.record _).moves.trans (Move.stop _ _).moves)

theorem Acts.intake {s t : State} (h : execIntakeTakeRequest s = .next t) : Acts s t := by
  unfold execIntakeTakeRequest at h
  cases h
  split
  next p rest i hq hi =>
    refine .ite (fun hr => ?_) fun _ => .refl s
    have free : (s.entries[i]).state = .free := by simpa using List.find?_some hi
    unfold checkRequest
    split
    · exact .refused hq hr (.refl _)
    split
    next hm _ => exact Acts.admitted hq free hm hr
    · exact .refused hq hr (Move.record _).moves
    · exact .refused hq hr (Move.record _).moves
  all_goals exact .refl s

/-! ### Management slots (R151 to R157) -/

theorem Acts.setMgmt (m : MgmtId) (x : MgmtSlot) (s : State) (hx : x.state = .free → x = {}) :
    Acts s (setMgmt m x s) := by
  refine (Act.mgmt (v := s.mgmt.set m x) (q := s.replyRefusals) (fun j hj => ?_) (le_max_left _ _)).acts
  rw [set_getElem] at hj ⊢
  split at hj
  next h => rw [if_pos h]; exact .inl (hx hj)
  next h => rw [if_neg h]; exact .inr rfl

theorem Acts.popOrder (s : State) : Acts s (popOrder s) := Act.still.acts

theorem Acts.replySlot (m : MgmtId) (ws : List Word) (s : State) : Acts s (replySlot m ws s) :=
  (Acts.setMgmt m { s.mgmt[m] with state := .replying, payload := [], reply := ws } s (by simp)).trans Act.still.acts

theorem Acts.replyDone (m : Option MgmtId) (s : State) : Acts s (replyDone m s) := by
  cases m with
  | none => exact .refl s
  | some m => exact .replySlot m _ s

theorem Acts.completeHead (m : MgmtId) (ws : List Word) (s : State) : Acts s (completeHead m ws s) :=
  (Acts.popOrder s).trans (.replySlot m ws _)

theorem Acts.resultHead (m : MgmtId) (r : Result) (s : State) : Acts s (resultHead m r s) := .completeHead m _ s

theorem Acts.whenHead {op : MgmtOp} {body : MgmtId → List Word → State → State} {s : State}
    (h : ∀ m ws, Acts s (body m ws s)) : Acts s (whenHead op body s) := by
  rcases whenHead_cases op body s with he | ⟨m, _, _, he⟩
  · rw [he]; exact .refl s
  · rw [he]; exact h m _

theorem Acts.answerQuery (words : MgmtOp → Option (List Word)) (s : State) : Acts s (answerQuery words s) := by
  unfold Machine.answerQuery
  split
  · exact .refl s
  split
  · exact .refl s
  · exact .completeHead _ _ s

/-! ### Arbiters (R79 to R87, R171 to R173) -/

theorem Acts.sendManagement (s : State) : Acts s (sendManagement s) := by
  unfold Machine.sendManagement
  split
  next m rest _ => exact (Acts.setMgmt m {} s fun _ => rfl).trans Act.still.acts
  · split
    next r rest hq =>
      have fewer : rest.length ≤ max s.replyRefusals.length 4 := by rw [hq, List.length_cons]; omega
      exact (Act.mgmt (fun m _ => .inr rfl) fewer).acts.trans Act.still.acts
    · exact .refl s

theorem Acts.sendPassThrough (s : State) : Acts s (sendPassThrough s) := by
  unfold Machine.sendPassThrough
  split
  next p rest hq =>
    have fewer : rest.length ≤ max s.dCplIn.length 16 := by rw [hq, List.length_cons]; omega
    exact (Act.ingress (le_max_left _ _) (le_max_left _ _) fewer).acts.trans Act.still.acts
  · exact .refl s

theorem Acts.grantCompletion (s : State) : Acts s (grantCompletion s) :=
  .ite (fun _ => (Acts.sendManagement s).trans Act.still.acts)
    fun _ => (Acts.sendPassThrough s).trans Act.still.acts

theorem Acts.grantForward {i : EntryId} {rest : List EntryId} {n : Nat} {s : State} (hi : s.issueQ = i :: rest)
    (hn : rotates s n) : Acts s { Machine.grantForward i rest s with rotation := n } := by
  unfold Machine.grantForward
  simp only
  split
  next h =>
    have issued (t : State) (ht : t = s ∨ t = bump forwarded s) :
        Acts s { t with
          issueQ := rest, entries := t.entries.set i { s.entries[i] with state := .issued }, rotation := n } := by
      rcases ht with rfl | rfl
      · exact (Act.issue hi h hn).acts
      · have := Act.issue (s := bump forwarded s) (i := i) (rest := rest) (n := n)
          (by rw [bump_issueQ]; exact hi) (by rw [bump_entries]; exact h)
          (by unfold rotates; rw [bump_ownList, bump_rotation, bump_guarantee]; exact hn)
        simp only [bump_entries] at this ⊢
        exact (Acts.count _ s).trans this.acts
    split
    · exact (issued (bump forwarded s) (.inr rfl)).trans Act.still.acts
    · exact (issued s (.inl rfl)).trans Act.still.acts
  next h => exact (Act.skipIssue hi h hn).acts

theorem Acts.grantOwn {o : OwnRequest} {rest : List OwnRequest} {s : State} (hl : s.ownList = o :: rest) :
    Acts s { Machine.grantOwn o rest s with rotation := 0 } := by
  unfold Machine.grantOwn
  cases o with
  | walk k =>
    simp only [Machine.grantWalk]
    split
    next h =>
      have granted := (Act.grantWalk hl h).acts
      split
      · exact granted.trans Act.still.acts
      · exact granted.trans Act.still.acts
    next h => exact (Act.skipWalk hl h).acts
  | alert =>
    simp only [Machine.grantAlert]
    split
    next h => exact (Act.grantAlert hl h).acts.trans Act.still.acts
    next h => exact (Act.skipAlert hl h).acts

theorem Acts.grantRequest (s : State) : Acts s (grantRequest s) := by
  unfold Machine.grantRequest
  split
  · exact .refl s
  next i rest hl hi => exact .grantForward hi (.inl rfl)
  next o rest hl hi => exact .grantOwn hl
  next o orest i irest hl hi =>
    exact .ite (fun h => .grantForward hi (.inr ⟨by simp [hl], h, rfl⟩)) fun _ => .grantOwn hl

/-- A context whose draining, if it is, was there or counts requests (R70, R71). -/
theorem Acts.setContext (r : ReqId) (c : Context) {s : State} (hl : (s.contexts[r]).legal → c.legal)
    (ho : c.outstanding = (s.contexts[r]).outstanding)
    (hd : c.state = .draining → (s.contexts[r]).state = .draining ∨ (s.contexts[r]).outstanding ≠ 0) :
    Acts s (setContext r c s) := (Act.context r c hl fun _ => ⟨ho, hd⟩).acts

theorem Acts.endDrain (r : ReqId) (s : State) : Acts s (endDrain r s) :=
  (Acts.setContext r { s.contexts[r] with state := .off, quiesce := none } id rfl (by simp)).trans
    (.replyDone _ _)

theorem Acts.lowerOutstanding (r : ReqId) {s : State} (hu : s.dUp = true) : Acts s (lowerOutstanding r s) := by
  have lowered : Acts s (Machine.setContext r
      { s.contexts[r] with outstanding := (s.contexts[r]).outstanding - 1 } s) :=
    (Act.context r { s.contexts[r] with outstanding := (s.contexts[r]).outstanding - 1 } id fun h => absurd (hu.symm.trans h) (by decide)).acts
  unfold Machine.lowerOutstanding
  exact .ite (fun _ => lowered.trans (.endDrain r _)) fun _ => lowered

/-- Two counters of one requester count without a move (R136). -/
theorem Acts.sendAnswer {i : EntryId} {rest : List EntryId} {s : State} (hu : s.dUp = true)
    (hq : s.answerQ = i :: rest) : Acts s (sendAnswer i rest s) := by
  unfold Machine.sendAnswer
  simp only
  split
  next a h ha =>
    have answered := (Act.answered hu hq h).acts
    have sent : Acts { s with answerQ := rest, entries := s.entries.set i (sentEntry s.now s.entries[i]) }
        { s with
          answerQ := rest, entries := s.entries.set i (sentEntry s.now s.entries[i])
          dTx := some (.completion (answerPacket s.entries[i] a)) } :=
      (Act.downstream (by exact hu) (le_max_left _ _) le_rfl).acts
    have counted := (answered.trans sent).trans (.count (answerCounter (s.entries[i]).requester a) _)
    have same : setEntry i (sentEntry s.now s.entries[i]) (bump (answerCounter (s.entries[i]).requester a)
          { s with answerQ := rest, dTx := some (.completion (answerPacket s.entries[i] a)) })
        = bump (answerCounter (s.entries[i]).requester a)
          { s with
            answerQ := rest, entries := s.entries.set i (sentEntry s.now s.entries[i])
            dTx := some (.completion (answerPacket s.entries[i] a)) } := by
      unfold answerCounter
      split <;> rfl
    rw [same]
    exact counted.trans (.lowerOutstanding _ (by rw [bump_dUp]; exact hu))
  next h => exact (Act.skipAnswer hu hq fun he => Option.eq_none_iff_forall_ne_some.mpr fun a ha => h a he ha).acts

theorem Acts.sendRefusal {r : Refused} {rest : List Refused} {s : State} (hu : s.dUp = true)
    (hq : s.refusalQ = r :: rest) : Acts s (sendRefusal r rest s) :=
  (Act.downstream hu (le_max_left _ _) (by simp [hq])).acts

theorem Acts.grantDeviceCompletion {s : State} (hu : s.dUp = true) : Acts s (grantDeviceCompletion s) := by
  unfold Machine.grantDeviceCompletion
  split
  · exact .refl s
  next hq _ => exact (Acts.sendAnswer hu hq).trans Act.still.acts
  next hq => exact (Acts.sendRefusal hu hq).trans Act.still.acts
  next ha hr =>
    split
    · exact (Acts.sendAnswer hu ha).trans Act.still.acts
    · exact (Acts.sendRefusal hu hr).trans Act.still.acts

theorem Acts.raiseRun {s : State} (hu : s.dUp = true) : Acts s (raiseRun s) :=
  .ite (fun h => (Act.run hu (min_le_right _ _) h).acts) fun _ => .refl s

theorem Acts.grantDeviceRequest {s : State} (hu : s.dUp = true) (hw : deviceRequestWaits s = true) :
    Acts s (grantDeviceRequest s) := by
  simp only [deviceRequestWaits, Bool.and_eq_true, decide_eq_true_eq] at hw
  unfold Machine.grantDeviceRequest
  split
  next hq =>
    exact (Act.sendDown hu hq hw.2).acts.trans (Act.downstream (by exact hu) (le_max_left _ _) le_rfl).acts
  · exact .refl s

theorem raiseRun_dUp (s : State) : (raiseRun s).dUp = s.dUp := by
  unfold raiseRun
  split <;> rfl

theorem Acts.answerArbiterGrant {s t : State} (h : execAnswerArbiterGrant s = .next t) : Acts s t := by
  cases h
  refine .ite (fun _ => .refl s) fun hd => ?_
  have hu : s.dUp = true := by simpa using hd
  have waits {b c : Bool} (h : (b && deviceRequestWaits s && c) = true) : deviceRequestWaits s = true := by
    simp only [Bool.and_eq_true] at h
    exact h.1.2
  refine .ite (fun hw => .grantDeviceRequest hu (waits hw)) fun _ => ?_
  refine .ite (fun _ => (Acts.raiseRun hu).trans (.grantDeviceCompletion (by rw [raiseRun_dUp]; exact hu))) fun _ => ?_
  exact .ite (fun hw => .grantDeviceRequest hu (waits (b := true) (by rw [Bool.true_and]; exact hw))) fun _ => .refl s

theorem Acts.issueArbiterGrant {s t : State} (h : execIssueArbiterGrant s = .next t) : Acts s t := by
  cases h
  exact .ite (fun _ => .refl s) fun _ => .ite (fun _ => .grantCompletion s) fun _ =>
    .ite (fun _ => .refl s) fun _ => .grantRequest s

/-- A reply refusal that finds room (R153, R154). -/
theorem Acts.refuseHost (r : Refused) {s : State} (h : s.replyRefusals.length < 4) :
    Acts s { s with replyRefusals := s.replyRefusals ++ [r] } :=
  (Act.mgmt (fun _ _ => .inr rfl) (by simp; omega)).acts

theorem Acts.passThroughRefusal {s t : State} (h : execPassThroughRefusal s = .next t) : Acts s t := by
  cases h
  split
  · exact .refl s
  next p rest hq =>
    exact .ite (fun h => (Act.refuseDown hq h.1).acts.trans (.refuseHost _ (by exact h.2))) fun _ => .refl s

theorem Acts.decodeHost {p : ReqPacket} {s t : State} (h : decodeHost p s = some t) : Acts s t := by
  have refused {st : Status} {b : Bool} (hb : b = decide (s.replyRefusals.length < 4))
      (h : (if b = true then some (Machine.refuseHost p st s) else none) = some t) : Acts s t := by
    split at h
    next hr => cases h; exact .refuseHost _ (by simpa [hb] using hr)
    · cases h
  unfold Machine.decodeHost at h
  simp only at h
  split at h
  next off _ =>
    split at h
    next op _ =>
      split at h
      next m _ => cases h; exact (Acts.setMgmt m _ s (by simp)).trans Act.still.acts
      · exact refused rfl h
    · exact refused rfl h
  · split at h
    next hu =>
      split at h
      next hq => cases h; exact (Act.takeDown p hu hq).acts
      · cases h
    · exact refused rfl h

theorem Acts.managementDecode {s t : State} (h : execManagementDecode s = .next t) : Acts s t := by
  cases h
  split
  · exact .refl s
  next p rest hq =>
    have taken : Acts s { s with uReqIn := rest } :=
      (Act.ingress (by simp [hq]) (le_max_left _ _) (le_max_left _ _)).acts
    cases hd : Machine.decodeHost p { s with uReqIn := rest } with
    | none => exact .refl s
    | some u => exact taken.trans (.decodeHost hd)

/-! ### Takings and ticks (R93, R100 to R108) -/

theorem Acts.completionMatching {s t : State} (h : execCompletionMatching s = .next t) : Acts s t := by
  cases h
  split
  · exact .refl s
  next p rest hq => exact .conclude (.completion hq) (.takeCompletion p _)

theorem Acts.takeTableTick (s : State) : Acts s (takeTableTick s) :=
  .ite (fun _ => .conclude (.due false s.walkDue s.alertDue)
    (Moves.foldl_same (fun i t => .tickEntry i t) _ _).turns) fun _ => .refl s

theorem Acts.takeWalkTick (s : State) : Acts s (takeWalkTick s) :=
  .ite (fun _ => .conclude (.due s.tableDue false s.alertDue)
    (Turns.foldl_same (fun k t => .tickWalk k t) _ _)) fun _ => .refl s

theorem Acts.takeAlertTick (s : State) : Acts s (takeAlertTick s) :=
  .ite (fun _ => .conclude (.due s.tableDue s.walkDue false) (Moves.tickAlert _ []).turns) fun _ => .refl s

/-- The settings written before a tick are in force from it on (R101, R103). -/
theorem Acts.advanceTick (s : State) : Acts s (advanceTick s) := by
  have inForce : Acts s { s with tickTiming := s.timing } := by
    refine (Act.setting fun h => ?_).acts
    obtain ⟨hc, ht, _, h⟩ := h
    exact ⟨hc, ht, ht, h⟩
  exact inForce.trans Act.still.acts

theorem Acts.tick {s t : State} (h : execTick s = .next t) : Acts s t := by
  cases h
  exact (((Acts.takeTableTick s).trans (.takeWalkTick _)).trans (.takeAlertTick _)).trans (.advanceTick _)

/-! ### Management commands (R15 to R16, R67 to R71, R103, R112 to R120, R134 to R140, R150, R158) -/

theorem Acts.runLoadWindow (m : MgmtId) (ws : List Word) (s : State) : Acts s (runLoadWindow m ws s) := by
  unfold Machine.runLoadWindow
  simp only
  split
  · exact .resultHead m _ s
  refine .ite (fun _ => .resultHead m _ s) fun _ => .ite (fun _ => .resultHead m _ s) fun _ => ?_
  split
  · exact .resultHead m _ s
  · exact (Act.still.acts : Acts s (Machine.setWindow _ _ s)).trans (.resultHead m _ _)

theorem Acts.freeRetired (f : Fence) (s : State) : Acts s (freeRetired f s) := by
  rw [freeRetired_eq]
  exact Act.still.acts

theorem Acts.startFence (k : FenceId) (cmd : FenceCommand) (scope : Scope) (m : MgmtId) (s : State) :
    Acts s (startFence k cmd scope m s) := by
  have withdrawn := (Act.withdraw (s := s) k cmd scope).acts.trans (.popOrder _)
  unfold Machine.startFence
  refine .ite (fun _ => (withdrawn.trans (.freeRetired _ _)).trans (.replySlot m _ _)) fun _ => ?_
  exact (withdrawn.trans (Act.fence k _ (by simp)).acts).trans (.setMgmt m _ _ (by simp))

theorem Acts.runFenceCommand (cmd : FenceCommand) (m : MgmtId) (c : Except Result Scope) (s : State) :
    Acts s (runFenceCommand cmd m c s) := by
  unfold Machine.runFenceCommand
  split
  · exact .resultHead m _ s
  split
  · exact Act.still.acts
  · exact .startFence _ cmd _ m s

theorem Acts.fenceCommandResumption {s t : State} (h : execFenceCommandResumption s = .next t) : Acts s t := by
  cases h
  refine .ite (fun _ => ?_) fun _ => .refl s
  split
  · exact .refl s
  · unfold resumeFence
    simp only
    split
    · exact .runFenceCommand _ _ _ s
    · exact .runFenceCommand _ _ _ s
    · exact .refl s

/-- CONFIGURE_REQUESTER writes legal settings and keeps the state and the count (R67). -/
theorem configuredContext_keeps {f : ConfigureFields} {c d : Context} (ht : f.timeout ≤ 65535)
    (h : configuredContext f c = some d) :
    d.legal ∧ d.outstanding = c.outstanding ∧ d.state = c.state := by
  unfold configuredContext at h
  split at h
  · split at h
    · cases h
    next hf =>
      cases h
      simp only [not_or] at hf
      obtain ⟨hl, hl', ht', hr, hb⟩ := hf
      exact ⟨⟨by simp only; omega, by simp only; omega, by simp only; omega, ht, by simp only; omega,
        by simp only; omega⟩, rfl, rfl⟩
  · cases h

theorem Acts.runConfigureRequester (m : MgmtId) (ws : List Word) (s : State) :
    Acts s (runConfigureRequester m ws s) := by
  unfold Machine.runConfigureRequester
  simp only
  split
  · exact .resultHead m _ s
  next r _ =>
    refine .ite (fun _ => .resultHead m _ s) fun _ => ?_
    split
    · exact .resultHead m _ s
    next c hc =>
      have timeout : (configureFields ws).timeout ≤ 65535 := Nat.le_of_lt_succ (field_lt _ 0 16)
      obtain ⟨hl, ho, hs⟩ := configuredContext_keeps timeout hc
      exact (Acts.setContext r c (fun _ => hl) ho (fun h => .inl (hs ▸ h))).trans (.resultHead m _ _)

theorem Acts.runActivate (source : CtxState) (m : MgmtId) (ws : List Word) (s : State) :
    Acts s (runActivate source m ws s) := by
  unfold Machine.runActivate
  split
  · exact .resultHead m _ s
  next r _ =>
    exact .ite (fun _ => (Acts.setContext r { s.contexts[r] with state := .active, stopCause := none } id rfl
      (by simp)).trans (.resultHead m _ _)) fun _ => .resultHead m _ s

theorem Acts.runQuiesce (m : MgmtId) (ws : List Word) (s : State) : Acts s (runQuiesce m ws s) := by
  unfold Machine.runQuiesce
  simp only
  split
  · exact .resultHead m _ s
  next r _ =>
    have stopped : Acts s (if (s.contexts[r]).outstanding = 0 then
          s |> Machine.setContext r { s.contexts[r] with state := .off } |> Machine.resultHead m .done
        else s |> Machine.popOrder
          |> Machine.setContext r { s.contexts[r] with state := .draining, quiesce := some m }
          |> Machine.setMgmt m { s.mgmt[m] with state := .running, payload := [] }) := by
      refine .ite (fun _ => ?_) fun h => ?_
      · exact (Acts.setContext r { s.contexts[r] with state := .off } id rfl (by simp)).trans (.resultHead m _ _)
      · exact ((Acts.popOrder s).trans (.setContext r { s.contexts[r] with state := .draining, quiesce := some m }
          id rfl fun _ => .inr h)).trans (.setMgmt m _ _ (by simp))
    split
    · exact .resultHead m _ s
    · exact .resultHead m _ s
    · exact stopped
    · exact stopped

theorem timingGood_legal {ws : List Word} (h : timingGood (timingFields ws) = true) : (timingFields ws).legal := by
  have ht : (timingFields ws).walkTimeout ≤ 65535 := Nat.le_of_lt_succ (field_lt _ 32 16)
  have hr : (timingFields ws).reclaimTime ≤ 65535 := Nat.le_of_lt_succ (field_lt _ 0 16)
  simp only [timingGood, Bool.and_eq_true, decide_eq_true_eq] at h
  obtain ⟨⟨⟨⟨hp, ht'⟩, hr'⟩, hl⟩, hb⟩ := h
  exact ⟨hp, by omega, ht, by omega, hr, hl, hb⟩

theorem Acts.setTiming (m : MgmtId) (ws : List Word) (s : State) :
    Acts s (if timingGood (timingFields ws) then { s with timing := timingFields ws } |> Machine.resultHead m .done
      else Machine.resultHead m .badArgument s) := by
  refine .ite (fun hg => ?_) fun _ => .resultHead m _ s
  have written : Acts s { s with timing := timingFields ws } := by
    refine (Act.setting fun h => ?_).acts
    obtain ⟨hc, _, h⟩ := h
    exact ⟨hc, timingGood_legal hg, h⟩
  exact written.trans (.resultHead m _ _)

theorem Acts.setArbiter (m : MgmtId) (n : Nat) (s : State) :
    Acts s (if n = 0 ∨ n > 8 then Machine.resultHead m .badArgument s
      else { s with guarantee := n } |> Machine.resultHead m .done) := by
  refine .ite (fun _ => .resultHead m _ s) fun hn => ?_
  have written : Acts s { s with guarantee := n } := by
    refine (Act.setting fun h => ?_).acts
    obtain ⟨hc, ht, hk, _, _, h⟩ := h
    exact ⟨hc, ht, hk, by show 1 ≤ n; omega, by show n ≤ 8; omega, h⟩
  exact written.trans (.resultHead m _ _)

/-- A word below 2^50 as a host address (R181). -/
theorem toNat_setWidth_hAddr {w : Word} (h : w.toNat < 2 ^ 50) : (w.setWidth 50).toNat = w.toNat := by
  rw [BitVec.toNat_setWidth, Nat.mod_eq_of_lt h]

theorem Acts.runSetAlert (m : MgmtId) (ws : List Word) (s : State) : Acts s (runSetAlert m ws s) := by
  unfold Machine.runSetAlert
  simp only
  split
  · exact .resultHead m _ s
  next en _ =>
    refine .ite (fun _ => .resultHead m _ s) fun ha => ?_
    have same := toNat_setWidth_hAddr (w := payloadWord ws 0) (by omega)
    have written : Acts s { s with alertAddress := (payloadWord ws 0).setWidth 50 } := by
      refine (Act.setting fun h => ?_).acts
      obtain ⟨hc, ht, hk, hg, hg', hb, _, _, h⟩ := h
      exact ⟨hc, ht, hk, hg, hg', hb, by rw [same]; omega, by rw [same]; omega, h⟩
    have enabled : Acts { s with alertAddress := (payloadWord ws 0).setWidth 50 }
        { s with alertAddress := (payloadWord ws 0).setWidth 50, alertEnabled := en } := Act.still.acts
    exact ((written.trans enabled).trans (.resultHead m _ _)).trans (.evalTrigger _)

theorem Acts.clearGroup (g : Fin 18) (s : State) : Acts s (clearGroup g s) := by
  unfold Machine.clearGroup
  exact .ite (fun _ => Act.still.acts) fun _ => .ite (fun _ => Act.still.acts) fun _ => Act.still.acts

theorem Acts.moveAperture (m : MgmtId) (w : Word) (s : State) :
    Acts s (if w.toNat % Config.apertureBytes ≠ 0 ∨ w.toNat ≥ 2 ^ 50 then Machine.resultHead m .badArgument s
      else { s with apertureBase := w.setWidth 50 } |> Machine.resultHead m .done) := by
  refine .ite (fun _ => .resultHead m _ s) fun hw => ?_
  simp only [not_or, not_not, not_le] at hw
  have written : Acts s { s with apertureBase := w.setWidth 50 } := by
    refine (Act.setting fun h => ?_).acts
    obtain ⟨hc, ht, hk, hg, hg', _, h⟩ := h
    exact ⟨hc, ht, hk, hg, hg', by rw [toNat_setWidth_hAddr hw.2]; exact hw.1, h⟩
  exact written.trans (.resultHead m _ _)

/-! ### Every command -/

theorem Acts.of_ite {b : Prop} [Decidable b] {s t u : State} (ht : Acts s t)
    (h : (.next (if b then t else s) : Host.Outcome State Fault Refusal) = .next u) : Acts s u := by
  cases h
  exact .ite (fun _ => ht) fun _ => .refl s

theorem Acts.of_head {op : MgmtOp} {body : MgmtId → List Word → State → State} {s t : State}
    (hb : ∀ m ws, Acts s (body m ws s))
    (h : (.next (Machine.whenHead op body s) : Host.Outcome State Fault Refusal) = .next t) : Acts s t := by
  cases h
  exact .whenHead hb

/-- What the loss of the U-port and the power-on leave aside, a command is made of acts. -/
theorem exec_acts {c : Instr} {s t : State} (h : exec c s = .next t) :
    Acts s t ∨ (∃ aps, t = { State.powerOn aps with pending := s.pending })
      ∨ s.uUp = true ∧ t = { loseUpstream s with uUp := false } := by
  cases c with
  | powerOn aps => cases h; exact .inr (.inl ⟨aps, rfl⟩)
  | uPortDown =>
    cases h
    split
    next hu => exact .inr (.inr ⟨hu, rfl⟩)
    · exact .inl (.refl s)
  | uPortUp =>
    cases h
    exact .inl (.ite (fun _ => .refl s) fun _ => Act.upLink.acts.trans (.evalTrigger _))
  | resetMessage =>
    cases h
    exact .inl (.ite (fun hu => (Act.loseUp hu).acts.trans (.evalTrigger _)) fun _ => .refl s)
  | dPortDown => exact .inl (.of_ite Act.loseDown.acts h)
  | dPortUp => cases h; exact .inl Act.downLink.acts
  | holdLineChange port cls on => exact .inl (.holdLine port cls on h)
  | deviceRequestArrival p =>
    cases h
    exact .inl (.ite (fun hu => (Act.downstream hu (Acts.joinIngress_length _ p) le_rfl).acts) fun _ => .refl s)
  | deviceCompletionArrival p =>
    exact .inl (.of_ite (Act.ingress (le_max_left _ _) (le_max_left _ _) (Acts.joinIngress_length _ p)).acts h)
  | hostRequestArrival p =>
    exact .inl (.of_ite (Act.ingress (Acts.joinIngress_length _ p) (le_max_left _ _) (le_max_left _ _)).acts h)
  | hostCompletionArrival p =>
    exact .inl (.of_ite (Act.ingress (le_max_left _ _) (Acts.joinIngress_length _ p) (le_max_left _ _)).acts h)
  | intakeTakeRequest => exact .inl (.intake h)
  | issueArbiterGrant => exact .inl (.issueArbiterGrant h)
  | answerArbiterGrant => exact .inl (.answerArbiterGrant h)
  | passThroughRefusal => exact .inl (.passThroughRefusal h)
  | managementDecode => exact .inl (.managementDecode h)
  | completionMatching => exact .inl (.completionMatching h)
  | tick => exact .inl (.tick h)
  | requestAgeExpiry e => exact .inl (.of_ite (.takeTableTick s) h)
  | entryRelease e => exact .inl (.of_ite (.takeTableTick s) h)
  | entryReclaim e => exact .inl (.of_ite (.takeTableTick s) h)
  | walkTimeout k => exact .inl (.of_ite (.takeWalkTick s) h)
  | walkRelease k => exact .inl (.of_ite (.takeWalkTick s) h)
  | walkReclaim k => exact .inl (.of_ite (.takeWalkTick s) h)
  | alertTimeout => exact .inl (.of_ite (.takeAlertTick s) h)
  | alertRelease => exact .inl (.of_ite (.takeAlertTick s) h)
  | alertReclaim => exact .inl (.of_ite (.takeAlertTick s) h)
  | loadWindow => exact .inl (.of_head (fun m ws => .runLoadWindow m ws s) h)
  | retireWindow => exact .inl (.of_head (fun m ws => .runFenceCommand _ m _ s) h)
  | invalidate => exact .inl (.of_head (fun m ws => .runFenceCommand _ m _ s) h)
  | fenceCommandResumption => exact .inl (.fenceCommandResumption h)
  | configureRequester => exact .inl (.of_head (fun m ws => .runConfigureRequester m ws s) h)
  | enableRequester => exact .inl (.of_head (fun m ws => .runActivate .off m ws s) h)
  | resumeRequester => exact .inl (.of_head (fun m ws => .runActivate .stopped m ws s) h)
  | quiesceRequester => exact .inl (.of_head (fun m ws => .runQuiesce m ws s) h)
  | setTiming => exact .inl (.of_head (fun m ws => .setTiming m ws s) h)
  | setArbiter => exact .inl (.of_head (fun m ws => .setArbiter m _ s) h)
  | setAlert => exact .inl (.of_head (fun m ws => .runSetAlert m ws s) h)
  | ackAlert =>
    refine .inl (.of_head (fun m ws => ?_) h)
    have armed : Acts s { s with alertArmed := true } := Act.still.acts
    exact (armed.trans (.resultHead m _ _)).trans (.evalTrigger _)
  | clearCounters =>
    refine .inl (.of_head (fun m ws => ?_) h)
    refine .ite (fun _ => ?_) fun _ => ?_
    · have cleared : Acts s (clearAllGroups s) := Act.still.acts
      exact cleared.trans (.resultHead m _ _)
    · split
      · exact .resultHead m _ s
      · exact (Acts.clearGroup _ s).trans (.resultHead m _ _)
  | clearFaults =>
    refine .inl (.of_head (fun m ws => ?_) h)
    have emptied : Acts s { s with faults := [], lost := 0 } := (Act.faults (Nat.zero_le _) (Nat.zero_le _)).acts
    have noted : Acts { s with faults := [], lost := 0 } { s with faults := [], lost := 0, overflowPending := false } :=
      Act.still.acts
    exact (emptied.trans noted).trans (.resultHead m _ _)
  | moveAperture => exact .inl (.of_head (fun m ws => .moveAperture m _ s) h)
  | status => exact .inl (.of_head (fun m ws => .completeHead m _ s) h)
  | window => cases h; exact .inl (.answerQuery _ s)
  | requester => cases h; exact .inl (.answerQuery _ s)
  | counters => cases h; exact .inl (.answerQuery _ s)
  | fault =>
    refine .inl (.of_head (fun m ws => ?_) h)
    split
    · exact .completeHead m _ s
    next r rest hf =>
      have removed : Acts s { s with faults := rest } := (Act.faults (by simp [hf]) le_rfl).acts
      exact removed.trans (.completeHead m _ _)
  | time => exact .inl (.of_head (fun m ws => .completeHead m _ s) h)
  | fences => exact .inl (.of_head (fun m ws => .completeHead m _ s) h)
  | cacheStorageUpset w page => cases h; exact .inl (Act.cache (by simp)).acts

/-- A law of the state that reads neither the queue of commands nor the U-port's link state, and that every act keeps,
holds after a step where it held before it. -/
theorem step_keeps {P : State → Prop} (hp : ∀ aps, P (State.powerOn aps))
    (hq : ∀ s (q : List Instr), P s → P { s with pending := q }) (hd : ∀ s, P s → P { s with uUp := false })
    (ha : ∀ s t, Act s t → P s → P t) {s t : State} (h : step s = .next t) (hs : P s) : P t := by
  unfold step at h
  split at h
  · cases h; exact hs
  next c rest _ =>
    have taken := hq s rest hs
    rcases exec_acts h with acts | ⟨aps, rfl⟩ | ⟨hu, rfl⟩
    · exact acts.keeps ha taken
    · exact hq _ _ (hp aps)
    · exact hd _ (ha _ _ (.loseUp hu) taken)

end Sys2Proof.Machine
end

section
/-! SUPPORT. Queues within capacity, and counters and settings in range, kept by every move and every act. -/

namespace Sys2Proof.Machine

/-! ### What every move leaves unchanged -/

/-- The fields outside of the work of a happening that its laws refer to. -/
structure Outside (s t : State) : Prop where
  uUp : t.uUp = s.uUp
  dUp : t.dUp = s.dUp
  rotation : t.rotation = s.rotation
  dHoldReq : t.dHoldReq = s.dHoldReq
  dHoldCpl : t.dHoldCpl = s.dHoldCpl
  dReqIn : t.dReqIn = s.dReqIn
  dTx : t.dTx = s.dTx
  refusalQ : t.refusalQ = s.refusalQ

theorem Outside.trans {s t u : State} (h : Outside s t) (h' : Outside t u) : Outside s u :=
  ⟨h'.uUp.trans h.uUp, h'.dUp.trans h.dUp, h'.rotation.trans h.rotation, h'.dHoldReq.trans h.dHoldReq,
    h'.dHoldCpl.trans h.dHoldCpl, h'.dReqIn.trans h.dReqIn, h'.dTx.trans h.dTx, h'.refusalQ.trans h.refusalQ⟩

theorem Outside.refl (s : State) : Outside s s := ⟨rfl, rfl, rfl, rfl, rfl, rfl, rfl, rfl⟩

theorem replyDone_outside (m : Option MgmtId) (s : State) : Outside s (replyDone m s) := by
  cases m <;> exact ⟨rfl, rfl, rfl, rfl, rfl, rfl, rfl, rfl⟩

theorem endFence_outside (k : FenceId) (s : State) : Outside s (endFence k s) := by
  rw [endFence_eq]
  have h := replyDone_outside (s.fences[k]).awaiting
    { s with fences := s.fences.set k {}, windows := freedWindows s.fences[k] s.windows }
  exact ⟨h.uUp, h.dUp, h.rotation, h.dHoldReq, h.dHoldCpl, h.dReqIn, h.dTx, h.refusalQ⟩

theorem Move.outside {c d : Point} (h : Move c d) : Outside c.1 d.1 := by
  cases h with
  | count c =>
    exact ⟨bump_uUp .., bump_dUp .., bump_rotation .., bump_dHoldReq ..,
      bump_dHoldCpl .., bump_dReqIn .., bump_dTx .., bump_refusalQ ..⟩
  | record r =>
    exact ⟨offerRecord_uUp .., offerRecord_dUp .., offerRecord_rotation .., offerRecord_dHoldReq ..,
      offerRecord_dHoldCpl .., offerRecord_dReqIn .., offerRecord_dTx .., offerRecord_refusalQ ..⟩
  | stop kind r =>
    exact ⟨applyStop_uUp .., applyStop_dUp .., applyStop_rotation .., applyStop_dHoldReq ..,
      applyStop_dHoldCpl .., applyStop_dReqIn .., applyStop_dTx .., applyStop_refusalQ ..⟩
  | answer i a o =>
    exact ⟨answerEntry_uUp .., answerEntry_dUp .., answerEntry_rotation .., answerEntry_dHoldReq ..,
      answerEntry_dHoldCpl .., answerEntry_dReqIn .., answerEntry_dTx .., answerEntry_refusalQ ..⟩
  | queue i addr =>
    exact ⟨queueEntry_uUp .., queueEntry_dUp .., queueEntry_rotation .., queueEntry_dHoldReq ..,
      queueEntry_dHoldCpl .., queueEntry_dReqIn .., queueEntry_dTx .., queueEntry_refusalQ ..⟩
  | endFence k h => exact endFence_outside k _
  | _ => exact ⟨rfl, rfl, rfl, rfl, rfl, rfl, rfl, rfl⟩

theorem Turns.outside {c d : Point} (h : Turns c d) : Outside c.1 d.1 :=
  h.keeps (P := fun e => Outside c.1 e.1) (fun _ _ hm hs => hs.trans hm.outside)
    (fun _ _ _ _ _ hs => hs.trans ⟨rfl, rfl, rfl, rfl, rfl, rfl, rfl, rfl⟩) (.refl _)

/-! ### The ranges -/

/-- The capacities, the ranges of the arbiters' counters, and the ranges of the settings and retry counts. -/
structure Ranges (s : State) : Prop where
  uReqIn : s.uReqIn.length ≤ 16
  uCplIn : s.uCplIn.length ≤ 16
  dReqIn : s.dReqIn.length ≤ 16
  dCplIn : s.dCplIn.length ≤ 16
  refusalQ : s.refusalQ.length ≤ 16
  downQ : s.downQ.length ≤ 16
  replyRefusals : s.replyRefusals.length ≤ 4
  faults : s.faults.length ≤ 16
  lost : s.lost ≤ 255
  cache : s.cache.length ≤ 48
  rotation : s.rotation ≤ 8
  refusalCount : s.refusalCount ≤ s.downQ.length
  runCount : s.runCount ≤ 8
  noRun : requestsToSend s = 0 → s.runCount = 0
  contexts : ∀ r : ReqId, (s.contexts[r]).legal
  timing : s.timing.legal
  tickTiming : s.tickTiming.legal
  guarantee : 1 ≤ s.guarantee ∧ s.guarantee ≤ 8
  aperture : s.apertureBase.toNat % 65536 = 0
  alertAddress : s.alertAddress.toNat % 8 = 0 ∧ s.alertAddress.toNat + 16 ≤ 2 ^ 50
  entries : ∀ i : EntryId, (s.entries[i]).retryCount ≤ 15
  walks : ∀ k : WalkId, (s.walks[k]).retryCount ≤ 15
  alertSlot : s.alertSlot.retryCount ≤ 15

/-- The ranges, and the rotation counter 0 with an empty own list (R85), are the three laws. -/
theorem ranges_iff {s : State} :
    CapacityLaw s ∧ ArbiterLaw s ∧ SettingsLaw s ↔ Ranges s ∧ (s.ownList = [] → s.rotation = 0) := by
  constructor
  · rintro ⟨⟨c1, c2, c3, c4, c5, c6, c7, c8, c9, c10⟩, ⟨_, _, a1, own, a2, a3, a4⟩,
      s1, s2, s3, s4, s5, s6, s7, s8, s9, s10, s11⟩
    exact ⟨⟨c1, c2, c3, c4, c5, c6, c7, c8, c9, c10, a1, a2, a3, a4, s1, s2, s3, ⟨s4, s5⟩, s6, ⟨s7, s8⟩, s9, s10, s11⟩,
      own⟩
  · rintro ⟨h, own⟩
    exact ⟨⟨h.uReqIn, h.uCplIn, h.dReqIn, h.dCplIn, h.refusalQ, h.downQ, h.replyRefusals, h.faults, h.lost, h.cache⟩,
      ⟨h.guarantee.1, h.guarantee.2, h.rotation, own, h.refusalCount, h.runCount, h.noRun⟩,
      h.contexts, h.timing, h.tickTiming, h.guarantee.1, h.guarantee.2, h.aperture, h.alertAddress.1, h.alertAddress.2,
      h.entries, h.walks, h.alertSlot⟩

theorem Ranges.settings {s : State} (h : Ranges s) : SettingsLaw s :=
  ⟨h.contexts, h.timing, h.tickTiming, h.guarantee.1, h.guarantee.2, h.aperture, h.alertAddress.1, h.alertAddress.2,
    h.entries, h.walks, h.alertSlot⟩

/-- What holds of the new value and of every value of a vector holds of every value after a write. -/
theorem forall_set {α : Type} {n : Nat} {P : α → Prop} {v : Vector α n} {i : Fin n} {x : α} (hv : ∀ j : Fin n, P v[j])
    (hx : P x) (j : Fin n) : P (v.set i x)[j] := by
  rw [set_getElem]
  split
  · exact hx
  · exact hv j

theorem Ranges.setEntry {s : State} (h : Ranges s) (i : EntryId) {x : Entry} (hx : x.retryCount ≤ 15) :
    ∀ j : EntryId, ((s.entries.set i x)[j]).retryCount ≤ 15 :=
  forall_set (P := fun e : Entry => e.retryCount ≤ 15) h.entries hx

theorem Ranges.setWalk {s : State} (h : Ranges s) (k : WalkId) {x : WalkSlot} (hx : x.retryCount ≤ 15) :
    ∀ j : WalkId, ((s.walks.set k x)[j]).retryCount ≤ 15 :=
  forall_set (P := fun w : WalkSlot => w.retryCount ≤ 15) h.walks hx

theorem Ranges.setContext {s : State} (h : Ranges s) (r : ReqId) {x : Context} (hx : x.legal) :
    ∀ q : ReqId, ((s.contexts.set r x)[q]).legal := forall_set h.contexts hx

/-- The fields that the moves on slots, entries and the Map Cache write. -/
theorem Ranges.inner {s : State} (h : Ranges s) {cache : List CacheEntry} {walks : Vector WalkSlot 4}
    {backlog issueQ answerQ : List EntryId} {entries : Vector Entry 64} {ownList : List OwnRequest}
    {fences : Vector Fence 4} {windows : Vector Window 24} {alertArmed : Bool} {alertSlot : AlertSlot} (hc : cache.length ≤ 48)
    (hw : ∀ k : WalkId, (walks[k]).retryCount ≤ 15) (he : ∀ i : EntryId, (entries[i]).retryCount ≤ 15)
    (ha : alertSlot.retryCount ≤ 15) :
    Ranges
      { s with
        cache := cache, walks := walks, backlog := backlog, entries := entries, issueQ := issueQ
        answerQ := answerQ, ownList := ownList, fences := fences, windows := windows, alertArmed := alertArmed
        alertSlot := alertSlot } :=
  { h with cache := hc, entries := he, walks := hw, alertSlot := ha }

theorem Ranges.bump {s : State} (h : Ranges s) (c : Counter) : Ranges (bump c s) := by
  cases c <;> exact { h with }

theorem Ranges.offerRecord {s : State} (h : Ranges s) (r : FaultRecord) : Ranges (offerRecord r s) := by
  unfold Machine.offerRecord
  split
  next hr => exact { h with faults := by rw [List.length_append]; exact hr }
  · refine { h with lost := ?_ }
    have := h.lost
    show (if s.lost < 255 then s.lost + 1 else s.lost) ≤ 255
    split <;> omega

theorem Ranges.dropMarks {s : State} (h : Ranges s) (i : EntryId) : Ranges (dropMarks i s) :=
  { h with entries := h.setEntry i (h.entries i) }

theorem Ranges.answerEntry {s : State} (h : Ranges s) (i : EntryId) (a : Answer) (o : Bool) :
    Ranges (answerEntry i a o s) := by
  unfold Machine.answerEntry
  simp only
  split
  · have left : Ranges (Machine.leavePlaces i (Machine.dropMarks i s)) :=
      { h.dropMarks i with walks := fun k => by rw [leavePlaces_walk]; exact h.walks k }
    exact { left with entries := left.setEntry i (h.entries i) }
  · exact h

theorem Ranges.replyDone {s : State} (h : Ranges s) (m : Option MgmtId) : Ranges (replyDone m s) := by
  cases m <;> exact { h with }

theorem Ranges.applyStop {s : State} (h : Ranges s) (kind : FaultKind) (r : ReqId) : Ranges (applyStop kind r s) := by
  unfold Machine.applyStop
  simp only
  split
  · exact { h with contexts := h.setContext r (h.contexts r) }
  · exact h

theorem Ranges.queueEntry {s : State} (h : Ranges s) (i : EntryId) (addr : HAddr) :
    Ranges (queueEntry i addr s) := by
  unfold Machine.queueEntry
  simp only
  split
  · exact { h with entries := h.setEntry i (h.entries i) }
  · exact h

theorem Ranges.endFence {s : State} (h : Ranges s) (k : FenceId) : Ranges (endFence k s) := by
  rw [endFence_eq]
  have ended : Ranges { s with fences := s.fences.set k {}, windows := freedWindows s.fences[k] s.windows } :=
    h.inner h.cache h.walks h.entries h.alertSlot
  exact ended.replyDone _

theorem Ranges.move {c d : Point} (hm : Move c d) (h : Ranges c.1) : Ranges d.1 := by
  have limit := h.timing.2.2.2.2.2.1
  cases hm with
  | count c => exact h.bump c
  | record r => exact h.offerRecord r
  | stop kind r => exact h.applyStop kind r
  | answer i a o => exact h.answerEntry i a o
  | queue i addr => exact h.queueEntry i addr
  | place i w p => exact h.inner h.cache h.walks (h.setEntry i (h.entries i)) h.alertSlot
  | settled i => exact h
  | cache l hl => exact h.inner (hl.trans (max_le h.cache le_rfl)) h.walks h.entries h.alertSlot
  | join k i => exact h.inner h.cache (h.setWalk k (h.walks k)) h.entries h.alertSlot
  | start k i w p => exact h.inner h.cache (h.setWalk k (Nat.zero_le _)) h.entries h.alertSlot
  | push i => exact h.inner h.cache h.walks h.entries h.alertSlot
  | pull m l => exact h.inner h.cache h.walks h.entries h.alertSlot
  | abandonWalk k => exact h.inner h.cache (h.setWalk k (h.walks k)) h.entries h.alertSlot
  | waitWalk k c r hs hc => exact h.inner h.cache (h.setWalk k (hc.trans limit)) h.entries h.alertSlot
  | queueWalk k c r hs hc => exact h.inner h.cache (h.setWalk k (hc.trans (max_le (h.walks k) limit))) h.entries h.alertSlot
  | waitEntry i c r hs hc => exact h.inner h.cache h.walks (h.setEntry i (hc.trans (h.contexts _).2.2.2.2.1)) h.alertSlot
  | requeueEntry i => exact h.inner h.cache h.walks (h.setEntry i (h.entries i)) h.alertSlot
  | unmark i => exact (h.dropMarks i).inner (h.dropMarks i).cache (h.dropMarks i).walks ((h.dropMarks i).setEntry i (h.entries i)) (h.dropMarks i).alertSlot
  | freeEntry i => exact (h.dropMarks i).inner (h.dropMarks i).cache (h.dropMarks i).walks ((h.dropMarks i).setEntry i (Nat.zero_le _)) (h.dropMarks i).alertSlot
  | freeAlert => exact h.inner h.cache h.walks h.entries (Nat.zero_le _)
  | abandonAlert a => exact h.inner h.cache h.walks h.entries h.alertSlot
  | waitAlert c r hs hc => exact h.inner h.cache h.walks h.entries (hc.trans limit)
  | queueAlert c r hs hc => exact h.inner h.cache h.walks h.entries (hc.trans (max_le h.alertSlot limit))
  | endFence k => exact h.endFence k
  | fireAlert => exact h.inner h.cache h.walks h.entries (Nat.zero_le _)

theorem Ranges.freeWalk {s : State} (h : Ranges s) (k : WalkId) : Ranges (freeWalk k s) :=
  h.inner h.cache (h.setWalk k (Nat.zero_le _)) h.entries h.alertSlot

theorem Ranges.turns {c d : Point} (ht : Turns c d) (h : Ranges c.1) : Ranges d.1 :=
  ht.keeps (P := fun e => Ranges e.1) (fun _ _ hm h => h.move hm) (fun k _ _ _ _ h => h.freeWalk k) h

/-- The request counts of the state after a step of the down pass-through queue (R171 to R173). -/
theorem requestsToSend_eq (s : State) : requestsToSend s = s.downQ.length - s.refusalCount := rfl

theorem Ranges.opens {s : State} {c : Point} (ho : Opens s c) (h : Ranges s) : Ranges c.1 := by
  cases ho with
  | same => exact h
  | @completion p rest hq =>
    have := h.uCplIn
    exact { h with uCplIn := by simp only [hq, List.length_cons] at this ⊢; omega }
  | due a b c => exact { h with }
  | @refused p rest x hq hr =>
    have := h.dReqIn
    exact { h with
      dReqIn := by simp only [hq, List.length_cons] at this ⊢; omega
      refusalQ := by rw [List.length_append]; exact hr }
  | @accepted p rest i r w hq =>
    have := h.dReqIn
    exact { h with
      entries := h.setEntry i (Nat.zero_le _)
      contexts := h.setContext r (h.contexts r)
      dReqIn := by simp only [hq, List.length_cons] at this ⊢; omega }

/-! ### The losses of the ports -/

theorem endDrain_eq (r : ReqId) (s : State) :
    endDrain r s = replyDone (s.contexts[r]).quiesce
      { s with contexts := s.contexts.set r { s.contexts[r] with state := .off, quiesce := none } } := rfl

/-- What the end of one drain keeps, the end of all drains keeps (R78). -/
theorem endDrains_keeps {P : State → Prop} (h : ∀ (t : State) (r : ReqId), P t → P (endDrain r t)) {s : State}
    (hs : P s) : P (endDrains s) :=
  List.foldlRecOn (motive := P) _ _ hs fun t ht r _ => by
    split
    · exact h t r ht
    · exact ht

/-- What the end of one fence keeps, the end of all fences keeps (R120). -/
theorem endFences_keeps {P : State → Prop} (h : ∀ (t : State) (k : FenceId), P t → P (endFence k t))
    {before s : State} (hs : P s) : P (endFences before s) :=
  List.foldlRecOn (motive := P) _ _ hs fun t ht k _ => by
    split
    · exact h t k ht
    · exact ht

theorem sweepEntry_retryCount (e : Entry) : (sweepEntry e).retryCount ≤ e.retryCount := by
  cases h : e.state <;> simp [sweepEntry, h]

theorem loseEntry_retryCount (now : Tick) (e : Entry) : (loseEntry now e).retryCount ≤ e.retryCount := by
  unfold loseEntry
  split
  · exact le_rfl
  · exact le_rfl
  · exact Nat.zero_le _
  · exact Nat.zero_le _
  · exact Nat.zero_le _
  · exact le_rfl
  · split
    · exact le_rfl
    · exact Nat.zero_le _

theorem getElem_ofFn {α : Type} {n : Nat} (f : Fin n → α) (i : Fin n) : (Vector.ofFn f)[i] = f i := by
  simp

theorem getElem_replicate {α : Type} {n : Nat} (x : α) (i : Fin n) : (Vector.replicate n x)[i] = x := by
  simp

theorem Ranges.loseUpstream {s : State} (h : Ranges s) : Ranges (loseUpstream s) := by
  unfold Machine.loseUpstream
  refine Ranges.offerRecord ?_ _
  refine { h with
      uReqIn := Nat.zero_le _, uCplIn := Nat.zero_le _, dCplIn := Nat.zero_le _, downQ := Nat.zero_le _
      replyRefusals := Nat.zero_le _, cache := Nat.zero_le _, rotation := Nat.zero_le _
      refusalCount := le_rfl, runCount := Nat.zero_le _, noRun := fun _ => rfl
      contexts := fun r => ?_, entries := fun i => ?_, walks := fun k => ?_, alertSlot := Nat.zero_le _ }
  · rw [getElem_ofFn]; exact h.contexts r
  · rw [getElem_ofFn]; exact (sweepEntry_retryCount _).trans (h.entries i)
  · rw [getElem_replicate]; exact Nat.zero_le _

theorem Ranges.loseDownstream {s : State} (h : Ranges s) : Ranges (loseDownstream s) :=
  { h with
    dReqIn := Nat.zero_le _
    refusalQ := Nat.zero_le _
    refusalCount := le_rfl
    runCount := Nat.zero_le _
    noRun := fun _ => rfl
    contexts := fun r => by rw [Machine.loseDownstream, getElem_ofFn]; exact h.contexts r
    entries := fun i => by
      rw [Machine.loseDownstream, getElem_ofFn]; exact (loseEntry_retryCount _ _).trans (h.entries i)
    walks := fun k => by rw [Machine.loseDownstream, getElem_ofFn]; exact h.walks k }

theorem Ranges.endDrain {s : State} (h : Ranges s) (r : ReqId) : Ranges (endDrain r s) := by
  rw [endDrain_eq]
  have off : Ranges
      { s with contexts := s.contexts.set r { s.contexts[r] with state := .off, quiesce := none } } :=
    { h with contexts := h.setContext r (h.contexts r) }
  exact off.replyDone _

/-! ### Every act -/

theorem Ranges.resetRotation {before s : State} (h : Ranges s) : Ranges (resetRotation before s) := by
  unfold Machine.resetRotation
  split
  · exact { h with rotation := Nat.zero_le _ }
  · exact h

theorem rotates_le {s : State} {n : Nat} (h : Ranges s) (hn : rotates s n) : n ≤ 8 := by
  rcases hn with rfl | ⟨_, hlt, rfl⟩
  · exact Nat.zero_le _
  · exact hlt.trans_le h.guarantee.2

theorem Ranges.withdraw {s : State} (h : Ranges s) (k : FenceId) (cmd : FenceCommand) (scope : Scope) :
    Ranges (withdrawScope k cmd scope s) := by
  refine h.inner ((List.length_filter_le _ _).trans h.cache) (fun j => ?_) (fun i => ?_) h.alertSlot
  · rw [getElem_ofFn]
    split <;> exact h.walks j
  · rw [getElem_ofFn]
    split <;> exact h.entries i

theorem Ranges.act {s t : State} (ha : Act s t) (h : Ranges s) : Ranges t := by
  cases ha with
  | still => exact { h with }
  | upLink => exact { h with }
  | downLink => exact { h with }
  | work ho ht => exact (Ranges.turns ht (h.opens ho)).resetRotation
  | loseUp hu => exact h.loseUpstream
  | loseDown =>
    exact endDrains_keeps (P := Ranges) (fun t r ht => ht.endDrain r)
      (endFences_keeps (P := Ranges) (fun t k ht => ht.endFence k) h.loseDownstream)
  | context r c hl => exact { h with contexts := h.setContext r (hl (h.contexts r)) }
  | mgmt hv hq => exact { h with replyRefusals := hq.trans (max_le h.replyRefusals le_rfl) }
  | downstream hu hi hq =>
    exact { h with dReqIn := hi.trans (max_le h.dReqIn le_rfl), refusalQ := hq.trans h.refusalQ }
  | ingress hr hc hp =>
    exact { h with
      uReqIn := hr.trans (max_le h.uReqIn le_rfl)
      uCplIn := hc.trans (max_le h.uCplIn le_rfl)
      dCplIn := hp.trans (max_le h.dCplIn le_rfl) }
  | issue hi hs hn => exact { h with rotation := rotates_le h hn, entries := h.setEntry _ (h.entries _) }
  | skipIssue hi hs hn => exact { h with rotation := rotates_le h hn }
  | grantWalk => exact { h with rotation := Nat.zero_le _, walks := h.setWalk _ (h.walks _) }
  | grantAlert => exact { h with rotation := Nat.zero_le _ }
  | skipWalk => exact { h with rotation := Nat.zero_le _ }
  | skipAlert => exact { h with rotation := Nat.zero_le _ }
  | @answered i rest hu hq hs =>
    refine { h with entries := h.setEntry i ?_ }
    unfold sentEntry
    split
    · exact h.entries i
    · exact Nat.zero_le _
  | skipAnswer => exact { h with }
  | run hu hn hr =>
    exact { h with
      runCount := hn
      noRun := fun h0 => absurd h0 (Nat.pos_iff_ne_zero.mp hr) }
  | @sendDown p rest hu hq hr =>
    have capacity := h.downQ
    rw [hq, List.length_cons] at capacity
    exact { h with
      downQ := (Nat.le_succ _).trans capacity
      refusalCount := hr.le.trans (Nat.zero_le _)
      runCount := Nat.zero_le _
      noRun := fun _ => rfl }
  | @refuseDown p rest hq hr =>
    have capacity := h.downQ
    have count := h.refusalCount
    have noRun := h.noRun
    simp only [requestsToSend_eq, hq, List.length_cons] at capacity count noRun
    exact { h with
      downQ := (Nat.le_succ _).trans capacity
      refusalCount := Nat.sub_le_of_le_add count
      noRun := fun h0 => noRun (by simp only [requestsToSend_eq] at h0; omega) }
  | takeDown p hu hq =>
    have count := h.refusalCount
    exact { h with
      downQ := by rw [List.length_append]; exact hq
      refusalCount := by rw [List.length_append]; exact count.trans (Nat.le_add_right _ _)
      noRun := fun h0 => by
        simp only [requestsToSend_eq, List.length_append, List.length_singleton] at h0
        omega }
  | setting hs =>
    obtain ⟨_, ht, ht', hg, hg', hb, ha, ha', _⟩ := hs h.settings
    exact { h with timing := ht, tickTiming := ht', guarantee := ⟨hg, hg'⟩, aperture := hb, alertAddress := ⟨ha, ha'⟩ }
  | faults hl hn => exact { h with faults := hl.trans h.faults, lost := hn.trans h.lost }
  | cache hl => exact { h with cache := hl.trans h.cache }
  | withdraw k cmd scope => exact h.withdraw k cmd scope
  | fence k f hf => exact { h with }

/-- The work of a happening leaves the rotation counter, which the close clears when the own list is emptied (R85). -/
theorem resetRotation_own {before s : State} (hs : s.rotation = before.rotation)
    (h : before.ownList = [] → before.rotation = 0) (ho : (resetRotation before s).ownList = []) :
    (resetRotation before s).rotation = 0 := by
  unfold resetRotation at ho ⊢
  split at ho
  next hc => rw [if_pos hc]
  next hc =>
    rw [if_neg hc, hs]
    exact h (by by_contra hb; exact hc ⟨ho, hb⟩)

theorem Opens.rotation {s : State} {c : Point} (h : Opens s c) : c.1.rotation = s.rotation := by
  cases h <;> rfl

theorem replyDone_own (m : Option MgmtId) (s : State) :
    (replyDone m s).rotation = s.rotation ∧ (replyDone m s).ownList = s.ownList := by
  cases m <;> exact ⟨rfl, rfl⟩

/-- The loss of the D-port leaves the own list and the rotation counter (R176). -/
theorem loseDown_own (s : State) :
    (endDrains (endFences s (loseDownstream s))).rotation = s.rotation
      ∧ (endDrains (endFences s (loseDownstream s))).ownList = s.ownList := by
  let P (t : State) : Prop := t.rotation = s.rotation ∧ t.ownList = s.ownList
  have done (m : Option MgmtId) (t : State) (ht : P t) : P (replyDone m t) :=
    ⟨(replyDone_own m t).1.trans ht.1, (replyDone_own m t).2.trans ht.2⟩
  refine endDrains_keeps (P := P) (fun t r ht => ?_) (endFences_keeps (P := P) (fun t k ht => ?_) ⟨rfl, rfl⟩)
  · exact done _ _ ht
  · rw [endFence_eq]; exact done _ _ ht

/-- The rotation counter stays 0 with an empty own list (R85). -/
theorem act_own {s t : State} (ha : Act s t) (h : s.ownList = [] → s.rotation = 0) :
    t.ownList = [] → t.rotation = 0 := by
  cases ha with
  | work ho ht =>
    exact resetRotation_own (ht.outside.rotation.trans ho.rotation) h
  | loseUp hu => intro _; exact offerRecord_rotation _ _
  | loseDown =>
    obtain ⟨hr, hl⟩ := loseDown_own s
    rw [hr, hl]
    exact h
  | issue hi hs hn =>
    rcases hn with rfl | ⟨hl, _⟩
    · intro _; rfl
    · intro he; exact absurd he hl
  | skipIssue hi hs hn =>
    rcases hn with rfl | ⟨hl, _⟩
    · intro _; rfl
    · intro he; exact absurd he hl
  | grantWalk => intro _; rfl
  | grantAlert => intro _; rfl
  | skipWalk => intro _; rfl
  | skipAlert => intro _; rfl
  | _ => exact h

/-- Settles O47: every act keeps the ranges, and the close of a happening clears the rotation counter when the own
list is emptied. -/
theorem rangesKept : Obligations.RangesKept := fun _ _ hs h => by
  refine ranges_iff.mpr (step_keeps (P := fun u => Ranges u ∧ (u.ownList = [] → u.rotation = 0)) (fun aps => ?_)
    (fun _ _ hu => ⟨{ hu.1 with }, hu.2⟩) (fun _ hu => ⟨{ hu.1 with }, hu.2⟩)
    (fun _ _ ha hu => ⟨hu.1.act ha, act_own ha hu.2⟩) h (ranges_iff.mp hs))
  obtain ⟨hc, ha⟩ := powerOn_ranges aps
  exact ranges_iff.mp ⟨hc, ha, powerOn_settings aps⟩

end Sys2Proof.Machine
end

section
/-! SUPPORT. The places of entries (R25, R28, R53, R55), kept by every move and every act. -/

namespace Sys2Proof.Machine

/-! ### Places, counted -/

/-- Entry `i` stands as often in each place as its state says; one in no place counts as waiting. -/
structure Stands (c : Point) (i : EntryId) : Prop where
  issue : c.1.issueQ.count i = if (c.1.entries[i]).state = .queued then 1 else 0
  answer : c.1.answerQ.count i = if (c.1.entries[i]).state = .answering then 1 else 0
  waiting : (waitingEntries c.1).count i + c.2.count i = if (c.1.entries[i]).state = .translating then 1 else 0
  answered : (c.1.entries[i]).state = .answering → (c.1.entries[i]).answer.isSome = true

/-- Every entry stands in its place, and a walk slot that is not under way has no waiters (R25). -/
structure Places (c : Point) : Prop where
  stands : ∀ i, Stands c i
  idle : ∀ k : WalkId, (c.1.walks[k]).state.underWay = false → (c.1.walks[k]).waiters = []

/-- A list holds what has a property, each once, when it counts so. -/
theorem nodup_mem_iff_count {α : Type} [DecidableEq α] {l : List α} {p : α → Prop} [DecidablePred p] :
    (l.Nodup ∧ ∀ a, a ∈ l ↔ p a) ↔ ∀ a, l.count a = if p a then 1 else 0 := by
  constructor
  · rintro ⟨hn, hm⟩ a
    split
    next ha => exact List.count_eq_one_of_mem hn ((hm a).mpr ha)
    next ha => exact List.count_eq_zero.mpr fun h => ha ((hm a).mp h)
  · intro h
    refine ⟨List.nodup_iff_count_le_one.mpr fun a => ?_, fun a => ?_⟩
    · rw [h a]; split <;> omega
    · rw [← List.count_pos_iff, h a]
      split <;> simpa

theorem places_iff {s : State} : PlaceLaw s ↔ Places (s, []) := by
  constructor
  · rintro ⟨qn, qm, an, am, wn, wm, idle, answered⟩
    have issue := nodup_mem_iff_count.mp ⟨qn, qm⟩
    have answer := nodup_mem_iff_count.mp ⟨an, am⟩
    have waiting := nodup_mem_iff_count.mp ⟨wn, wm⟩
    exact ⟨fun i => ⟨issue i, answer i, waiting i, answered i⟩, idle⟩
  · rintro ⟨stands, idle⟩
    obtain ⟨qn, qm⟩ := nodup_mem_iff_count.mpr fun i => (stands i).issue
    obtain ⟨an, am⟩ := nodup_mem_iff_count.mpr fun i => (stands i).answer
    obtain ⟨wn, wm⟩ := nodup_mem_iff_count.mpr fun i => (stands i).waiting
    exact ⟨qn, qm, an, am, wn, wm, idle, fun i => (stands i).answered⟩

/-- An entry that keeps its state and its answer, and whose places keep their counts, stands as it stood. -/
theorem Stands.of_same {c d : Point} {i : EntryId} (h : Stands c i)
    (hs : (d.1.entries[i]).state = (c.1.entries[i]).state) (ha : (d.1.entries[i]).answer = (c.1.entries[i]).answer)
    (hi : d.1.issueQ.count i = c.1.issueQ.count i) (hq : d.1.answerQ.count i = c.1.answerQ.count i)
    (hw : (waitingEntries d.1).count i + d.2.count i = (waitingEntries c.1).count i + c.2.count i) : Stands d i where
  issue := by rw [hi, hs]; exact h.issue
  answer := by rw [hq, hs]; exact h.answer
  waiting := by rw [hw, hs]; exact h.waiting
  answered := by rw [hs, ha]; exact h.answered

theorem Places.of_same {s t : State} {L : List EntryId} (h : Places (s, L)) (he : t.entries = s.entries)
    (hi : t.issueQ = s.issueQ) (ha : t.answerQ = s.answerQ) (hw : t.walks = s.walks) (hb : t.backlog = s.backlog) :
    Places (t, L) := by
  have waits : waitingEntries t = waitingEntries s := by simp only [waitingEntries, hw, hb]
  refine ⟨fun i => (h.stands i).of_same ?_ ?_ ?_ ?_ ?_, fun k => ?_⟩
  · simp only [he]
  · simp only [he]
  · simp only [hi]
  · simp only [ha]
  · simp only [waits]
  · simp only [hw]; exact h.idle k

/-! ### Counts after a write -/

theorem count_waiting (s : State) (i : EntryId) :
    (waitingEntries s).count i = ((s.walks[(0 : WalkId)]).waiters.count i + (s.walks[(1 : WalkId)]).waiters.count i
      + (s.walks[(2 : WalkId)]).waiters.count i + (s.walks[(3 : WalkId)]).waiters.count i) + s.backlog.count i := by
  simp only [waitingEntries, List.count_append]
  rfl

/-- A write to a walk slot changes the waiting entries by the slot's. -/
theorem count_waiting_set {s t : State} (k : WalkId) (x : WalkSlot) (hw : t.walks = s.walks.set k x)
    (hb : t.backlog = s.backlog) (i : EntryId) :
    (waitingEntries t).count i + (s.walks[k]).waiters.count i = (waitingEntries s).count i + x.waiters.count i := by
  rw [count_waiting, count_waiting, hw, hb]
  simp only [set_getElem]
  match k with
  | 0 => simp; omega
  | 1 => simp; omega
  | 2 => simp; omega
  | 3 => simp; omega

theorem count_filter_ne (i j : EntryId) (l : List EntryId) :
    (l.filter (· ≠ i)).count j = if j = i then 0 else l.count j := by
  split
  next h => exact List.count_eq_zero.mpr fun hm => by simp [h] at hm
  next h => exact List.count_filter (by simpa using h)

theorem count_append_singleton (i j : EntryId) (l : List EntryId) :
    (l ++ [i]).count j = l.count j + if j = i then 1 else 0 := by
  rw [List.count_append]
  by_cases h : j = i
  · simp [h]
  · simp [h, Ne.symm h]

theorem count_waiting_leavePlaces (i j : EntryId) (s : State) :
    (waitingEntries (leavePlaces i s)).count j = if j = i then 0 else (waitingEntries s).count j := by
  have left : waitingEntries (leavePlaces i s) = (waitingEntries s).filter (· ≠ i) := by
    simp only [waitingEntries, List.filter_append]
    rfl
  rw [left]
  exact count_filter_ne i j _

/-- A write to a walk slot that keeps its waiters, and keeps the slot under way, moves no entry. -/
theorem Places.setWalk {s t : State} {L : List EntryId} (h : Places (s, L)) (k : WalkId) {x : WalkSlot}
    (hw : t.walks = s.walks.set k x) (hx : x.waiters = (s.walks[k]).waiters) (hu : x.state.underWay = true)
    (he : t.entries = s.entries) (hi : t.issueQ = s.issueQ) (ha : t.answerQ = s.answerQ)
    (hb : t.backlog = s.backlog) : Places (t, L) := by
  refine ⟨fun i => (h.stands i).of_same ?_ ?_ ?_ ?_ ?_, fun j hj => ?_⟩
  · simp only [he]
  · simp only [he]
  · simp only [hi]
  · simp only [ha]
  · have := count_waiting_set k x hw hb i
    rw [hx] at this
    simp only
    omega
  · simp only [hw, set_getElem] at hj ⊢
    split at hj
    · rw [hu] at hj; cases hj
    next hk => rw [if_neg hk]; exact h.idle j hj

/-! ### Every move -/

/-- Moves of one entry: what it shares with its like, and that every other entry keeps its places. -/
theorem Places.ofEntry {s t : State} {L M : List EntryId} (h : Places (s, L)) (i : EntryId) (hi : Stands (t, M) i)
    (he : ∀ j : EntryId, j ≠ i → (t.entries[j]).state = (s.entries[j]).state
      ∧ (t.entries[j]).answer = (s.entries[j]).answer)
    (hq : ∀ j : EntryId, j ≠ i → t.issueQ.count j = s.issueQ.count j)
    (ha : ∀ j : EntryId, j ≠ i → t.answerQ.count j = s.answerQ.count j)
    (hw : ∀ j : EntryId, j ≠ i → (waitingEntries t).count j + M.count j = (waitingEntries s).count j + L.count j)
    (hk : ∀ k : WalkId, (t.walks[k]).state = (s.walks[k]).state
      ∧ ((s.walks[k]).waiters = [] → (t.walks[k]).waiters = [])) : Places (t, M) := by
  refine ⟨fun j => ?_, fun k hidle => ?_⟩
  · by_cases hj : j = i
    · rw [hj]; exact hi
    · exact (h.stands j).of_same (he j hj).1 (he j hj).2 (hq j hj) (ha j hj) (hw j hj)
  · rw [(hk k).1] at hidle
    exact (hk k).2 (h.idle k hidle)

theorem Places.answer {s : State} {L : List EntryId} (h : Places (s, L)) (i : EntryId) (a : Answer) (o : Bool) :
    Places (answerEntry i a o s, L.erase i) := by
  have own := h.stands i
  by_cases hf : (s.entries[i]).state.inFlight = true
  · obtain ⟨entry, answerQ⟩ := answerEntry_entry i a o s hf
    have issueQ : (answerEntry i a o s).issueQ = s.issueQ.filter (· ≠ i) := by
      simp only [answerEntry, hf, if_true]; rfl
    have waits : waitingEntries (answerEntry i a o s) = waitingEntries (leavePlaces i s) := by
      simp only [answerEntry, hf, if_true]; rfl
    have walks : (answerEntry i a o s).walks = (leavePlaces i s).walks := by rw [answerEntry_walks, if_pos hf]
    have absent : (s.entries[i]).state ≠ .answering := fun e => by rw [e] at hf; cases hf
    have loose : L.count i ≤ 1 := by
      have := own.waiting
      simp only at this
      split at this <;> omega
    refine h.ofEntry i ⟨?_, ?_, ?_, ?_⟩ (fun j hj => ?_) (fun j hj => ?_) (fun j hj => ?_) (fun j hj => ?_) fun k => ?_
    · simp only [entry, Entry.answered, issueQ, count_filter_ne]; simp
    · have := own.answer
      rw [if_neg absent] at this
      simp only at this
      simp only [entry, Entry.answered, answerQ, count_append_singleton, this]; simp
    · simp only [entry, Entry.answered, waits, count_waiting_leavePlaces, List.count_erase_self]
      simp; omega
    · simp only [entry, Entry.answered]; simp
    · simp only [answerEntry_other i j a o s hj, and_self]
    · rw [issueQ, count_filter_ne, if_neg hj]
    · rw [answerQ, count_append_singleton, if_neg hj, Nat.add_zero]
    · rw [waits, count_waiting_leavePlaces, if_neg hj, List.count_erase_of_ne hj]
    · rw [walks, leavePlaces_walk]
      exact ⟨rfl, fun hn => by simp only [hn]; rfl⟩
  · have same := answerEntry_of_not i a o s (by simpa using hf)
    have waiting := own.waiting
    rw [if_neg fun e : (s.entries[i]).state = .translating => hf (by rw [e]; rfl)] at waiting
    have absent : i ∉ L := List.count_eq_zero.mp (Nat.eq_zero_of_add_eq_zero waiting).2
    rw [same, List.erase_of_not_mem absent]
    exact h

/-- An entry that stands in no place is TRANSLATING, and nowhere. -/
theorem Places.loose {s : State} {i : EntryId} {L : List EntryId} (h : Places (s, i :: L)) :
    (s.entries[i]).state = .translating ∧ (waitingEntries s).count i = 0 ∧ L.count i = 0 := by
  have := (h.stands i).waiting
  simp only [List.count_cons_self] at this
  split at this
  next ht => exact ⟨ht, by omega, by omega⟩
  · omega

/-- One entry in no place goes, the others stay. -/
theorem count_cons_ne {i j : EntryId} (hj : j ≠ i) (L : List EntryId) : (i :: L).count j = L.count j :=
  List.count_cons_of_ne (Ne.symm hj)

theorem Places.queue {s : State} {i : EntryId} {L : List EntryId} (h : Places (s, i :: L)) (addr : HAddr) :
    Places (queueEntry i addr s, L) := by
  obtain ⟨ht, hw, hl⟩ := h.loose
  have own := h.stands i
  have issue := own.issue
  have answer := own.answer
  simp only [ht] at issue answer
  rw [queueEntry_of_translating i addr s ht]
  refine h.ofEntry i ⟨?_, ?_, ?_, ?_⟩ (fun j hj => ?_) (fun j hj => ?_) (fun j hj => rfl) (fun j hj => ?_)
    fun k => ⟨rfl, id⟩
  · simp only [set_getElem, if_true, count_append_singleton, issue]; simp
  · simp only [set_getElem, if_true, answer]; simp
  · simp only [set_getElem, if_true]
    show (waitingEntries s).count i + L.count i = _
    simp [hw, hl]
  · simp only [set_getElem, if_true]; intro hc; cases hc
  · simp only [set_getElem, if_neg hj, and_self]
  · simp only [count_append_singleton, if_neg hj, Nat.add_zero]
  · rw [count_cons_ne hj]; rfl

/-- A write to an entry that keeps its state and its answer moves no entry. -/
theorem Places.write {s t : State} {L : List EntryId} (h : Places (s, L)) (i : EntryId) {x : Entry}
    (he : t.entries = s.entries.set i x) (hs : x.state = (s.entries[i]).state) (ha : x.answer = (s.entries[i]).answer)
    (hi : t.issueQ = s.issueQ) (hq : t.answerQ = s.answerQ) (hw : t.walks = s.walks) (hb : t.backlog = s.backlog) :
    Places (t, L) := by
  have waits : waitingEntries t = waitingEntries s := by simp only [waitingEntries, hw, hb]
  have entry (j : EntryId) : (t.entries[j]).state = (s.entries[j]).state
      ∧ (t.entries[j]).answer = (s.entries[j]).answer := by
    rw [he, set_getElem]
    split
    next hj => subst hj; exact ⟨hs, ha⟩
    · exact ⟨rfl, rfl⟩
  refine ⟨fun j => (h.stands j).of_same (entry j).1 (entry j).2 ?_ ?_ ?_, fun k => ?_⟩
  · simp only [hi]
  · simp only [hq]
  · simp only [waits]
  · simp only [hw]; exact h.idle k

/-- A write that moves an entry between two states that have no place. -/
theorem Places.unplaced {s : State} {L : List EntryId} (h : Places (s, L)) (i : EntryId) {x : Entry}
    (hx : x.state ≠ .queued ∧ x.state ≠ .answering ∧ x.state ≠ .translating)
    (hs : (s.entries[i]).state ≠ .queued ∧ (s.entries[i]).state ≠ .answering
      ∧ (s.entries[i]).state ≠ .translating) : Places (setEntry i x s, L) := by
  obtain ⟨issue, answer, waiting, answered⟩ := h.stands i
  rw [if_neg hs.1] at issue
  rw [if_neg hs.2.1] at answer
  rw [if_neg hs.2.2] at waiting
  refine h.ofEntry i ⟨?_, ?_, ?_, ?_⟩ (fun j hj => ?_) (fun j hj => rfl) (fun j hj => rfl) (fun j hj => rfl)
    fun k => ⟨rfl, id⟩
  · simp only [setEntry_entries, set_getElem, if_true, if_neg hx.1]; exact issue
  · simp only [setEntry_entries, set_getElem, if_true, if_neg hx.2.1]; exact answer
  · simp only [setEntry_entries, set_getElem, if_true, if_neg hx.2.2]; exact waiting
  · simp only [setEntry_entries, set_getElem, if_true]; exact fun hc => absurd hc hx.2.1
  · simp only [setEntry_entries, set_getElem, if_neg hj, and_self]

theorem Places.requeue {s : State} {L : List EntryId} (h : Places (s, L)) (i : EntryId)
    (hs : (s.entries[i]).state = .retryWait) {x : Entry} (hx : x.state = .queued) :
    Places ({ s with entries := s.entries.set i x, issueQ := s.issueQ ++ [i] }, L) := by
  obtain ⟨issue, answer, waiting, -⟩ := h.stands i
  simp only [hs] at issue answer waiting
  refine h.ofEntry i ⟨?_, ?_, ?_, ?_⟩ (fun j hj => ?_) (fun j hj => ?_) (fun j hj => rfl) (fun j hj => rfl)
    fun k => ⟨rfl, id⟩
  · simp only [set_getElem, if_true, hx, count_append_singleton, issue]; simp
  · simp only [set_getElem, if_true, hx, answer]; simp
  · simp only [set_getElem, if_true, hx]
    show (waitingEntries s).count i + L.count i = _
    rw [waiting]; simp
  · simp only [set_getElem, if_true, hx]; intro hc; cases hc
  · simp only [set_getElem, if_neg hj, and_self]
  · simp only [count_append_singleton, if_neg hj, Nat.add_zero]

/-- The loss of marks keeps every place (R119). -/
theorem Places.dropMarks {s : State} {L : List EntryId} (h : Places (s, L)) (i : EntryId) :
    Places (dropMarks i s, L) := h.write i (x := { s.entries[i] with marks := noMarks }) rfl rfl rfl rfl rfl rfl rfl

/-- An entry that had no place becomes TRANSLATING. -/
theorem Places.loosen {s : State} {L : List EntryId} (h : Places (s, L)) (i : EntryId) {x : Entry}
    (hx : x.state = .translating)
    (hs : (s.entries[i]).state ≠ .queued ∧ (s.entries[i]).state ≠ .answering
      ∧ (s.entries[i]).state ≠ .translating) : Places (setEntry i x s, i :: L) := by
  obtain ⟨issue, answer, waiting, -⟩ := h.stands i
  rw [if_neg hs.1] at issue
  rw [if_neg hs.2.1] at answer
  rw [if_neg hs.2.2] at waiting
  refine h.ofEntry i ⟨?_, ?_, ?_, ?_⟩ (fun j hj => ?_) (fun j hj => rfl) (fun j hj => rfl) (fun j hj => ?_)
    fun k => ⟨rfl, id⟩
  · simp only [setEntry_entries, set_getElem, if_true, hx]; simpa using issue
  · simp only [setEntry_entries, set_getElem, if_true, hx]; simpa using answer
  · simp only [setEntry_entries, set_getElem, if_true, hx, List.count_cons_self]
    show (waitingEntries s).count i + (L.count i + 1) = _
    rw [← Nat.add_assoc, waiting]
  · simp only [setEntry_entries, set_getElem, if_true, hx]; intro hc; cases hc
  · simp only [setEntry_entries, set_getElem, if_neg hj, and_self]
  · rw [count_cons_ne hj]; rfl

/-- A walk slot that is under way takes entries that stand in no place, or gives all of its own up. -/
theorem Places.waiters {s t : State} {L M : List EntryId} (h : Places (s, L)) (k : WalkId) {x : WalkSlot}
    (hw : t.walks = s.walks.set k x) (hx : x.state.underWay = false → x.waiters = [])
    (hc : ∀ i, x.waiters.count i + M.count i = (s.walks[k]).waiters.count i + L.count i)
    (he : t.entries = s.entries) (hi : t.issueQ = s.issueQ) (ha : t.answerQ = s.answerQ)
    (hb : t.backlog = s.backlog) : Places (t, M) := by
  refine ⟨fun i => (h.stands i).of_same ?_ ?_ ?_ ?_ ?_, fun j hj => ?_⟩
  · simp only [he]
  · simp only [he]
  · simp only [hi]
  · simp only [ha]
  · have := count_waiting_set k x hw hb i
    have := hc i
    simp only
    omega
  · simp only [hw, set_getElem] at hj ⊢
    split at hj
    next hk => rw [if_pos hk]; exact hx hj
    next hk => rw [if_neg hk]; exact h.idle j hj

theorem Places.replyDone {s : State} {L : List EntryId} (h : Places (s, L)) (m : Option MgmtId) :
    Places (replyDone m s, L) := by
  cases m with
  | none => exact h
  | some m => exact h.of_same rfl rfl rfl rfl rfl

theorem Places.endFence {s : State} {L : List EntryId} (h : Places (s, L)) (k : FenceId) :
    Places (endFence k s, L) := by
  rw [endFence_eq]
  refine Places.replyDone ?_ _
  exact h.of_same rfl rfl rfl rfl rfl

theorem Places.move {c d : Point} (hm : Move c d) (h : Places c) : Places d := by
  cases hm with
  | count c => cases c <;> exact h.of_same rfl rfl rfl rfl rfl
  | record r =>
    exact h.of_same (offerRecord_entries ..) (offerRecord_issueQ ..) (offerRecord_answerQ ..) (offerRecord_walks ..) (offerRecord_backlog ..)
  | stop kind r =>
    exact h.of_same (applyStop_entries ..) (applyStop_issueQ ..) (applyStop_answerQ ..) (applyStop_walks ..) (applyStop_backlog ..)
  | answer i a o => exact h.answer i a o
  | queue i addr => exact h.queue addr
  | place i w p hs => exact h.write i rfl rfl rfl rfl rfl rfl rfl
  | settled i hs => exact absurd h.loose.1 hs
  | cache l => exact h.of_same rfl rfl rfl rfl rfl
  | join k i hu =>
    refine h.waiters k rfl (fun hn => ?_) (fun j => ?_) rfl rfl rfl rfl
    · rw [hu] at hn; cases hn
    · rw [count_append_singleton, List.count_cons]
      simp only [beq_iff_eq, eq_comm (a := i)]
      omega
  | start k i w p hf =>
    refine h.waiters k rfl (fun hn => by cases hn) (fun j => ?_) rfl rfl rfl rfl
    have none := h.idle k (by rw [hf]; rfl)
    simp only at none
    rw [none, List.count_cons, List.count_cons, List.count_nil]
    omega
  | @push s L i hb =>
    refine ⟨fun j => (h.stands j).of_same rfl rfl rfl rfl ?_, h.idle⟩
    have grown : waitingEntries { s with backlog := s.backlog ++ [i] } = waitingEntries s ++ [i] := by
      simp [waitingEntries]
    simp only [grown, count_append_singleton, List.count_cons, beq_iff_eq, eq_comm (a := i)]
    omega
  | @pull s L m l hp hs =>
    refine ⟨fun j => (h.stands j).of_same rfl rfl rfl rfl ?_, h.idle⟩
    have split := hp.count_eq j
    simp only [count_waiting, List.count_append] at split ⊢
    omega
  | abandonWalk k hs =>
    refine h.waiters k rfl (fun _ => rfl) (fun j => ?_) rfl rfl rfl rfl
    rw [List.count_append, List.count_nil, Nat.zero_add]
  | waitWalk k c r hs => exact h.setWalk k rfl rfl rfl rfl rfl rfl rfl
  | queueWalk k c r hs => exact h.setWalk k rfl rfl rfl rfl rfl rfl rfl
  | waitEntry i c r hs => exact h.unplaced i (by simp) (by simp only [hs]; simp)
  | requeueEntry i hs => exact h.requeue i hs rfl
  | unmark i hs =>
    refine (h.dropMarks i).loosen i rfl ?_
    rw [dropMarks_getElem, if_pos rfl]
    simp only [hs]; simp
  | freeEntry i hs =>
    refine (h.dropMarks i).unplaced i (by simp) ?_
    rw [dropMarks_getElem, if_pos rfl]
    simp only [hs]; simp
  | endFence k => exact h.endFence k
  | _ => exact h.of_same rfl rfl rfl rfl rfl

theorem Places.freeWalk {s : State} {L m : List EntryId} {k : WalkId} (h : Places (s, L)) (hm : Leaves s k m) :
    Places (freeWalk k s, m ++ L) := by
  have left : m = (s.walks[k]).waiters := by
    rcases hm with hm | ⟨hm, hidle⟩
    · exact hm
    · rw [hm, h.idle k hidle]
  refine h.waiters k rfl (fun _ => rfl) (fun j => ?_) rfl rfl rfl rfl
  rw [left, List.count_append, List.count_nil, Nat.zero_add]

theorem Places.turns {c d : Point} (ht : Turns c d) (h : Places c) : Places d :=
  ht.keeps (P := Places) (fun _ _ hm h => h.move hm) (fun _ _ _ _ hm h => h.freeWalk hm) h

/-! ### Every act -/

theorem Places.opens {s : State} {c : Point} (ho : Opens s c) (h : Places (s, [])) : Places c := by
  cases ho with
  | @accepted p rest i r w hq hi =>
    have taken := h.loosen i (x := acceptedEntry r p w s) rfl (by rw [hi]; simp)
    exact taken.of_same rfl rfl rfl rfl rfl
  | _ => exact h.of_same rfl rfl rfl rfl rfl

/-- The sweep answers the entries in flight, and frees the ABANDONED ones (R61). -/
theorem sweepEntry_state (e : Entry) :
    (sweepEntry e).state = if e.state.inFlight = true ∨ e.state = .answering then .answering else .free := by
  cases h : e.state <;> simp [sweepEntry, h, EntryState.inFlight]

theorem sweepEntry_answer (e : Entry) (h : e.state = .answering → e.answer.isSome = true)
    (ha : (sweepEntry e).state = .answering) : (sweepEntry e).answer.isSome = true := by
  cases hs : e.state <;> simp_all [sweepEntry]

theorem count_sweptEntries (s : State) (i : EntryId) :
    (sweptEntries s).count i = if (s.entries[i]).state.inFlight = true then 1 else 0 := by
  refine nodup_mem_iff_count (p := fun j : EntryId => (s.entries[j]).state.inFlight = true) |>.mp ⟨(List.nodup_finRange 64).filter _, fun j => ?_⟩ i
  exact List.mem_filter.trans (and_iff_right (List.mem_finRange j))

theorem loseUpstream_places (s : State) : (loseUpstream s).issueQ = []
    ∧ (loseUpstream s).answerQ = s.answerQ ++ sweptEntries s ∧ (loseUpstream s).backlog = []
    ∧ (loseUpstream s).walks = Vector.replicate 4 {}
    ∧ ∀ i : EntryId, (loseUpstream s).entries[i] = sweepEntry s.entries[i] := by
  unfold loseUpstream
  refine ⟨offerRecord_issueQ .., offerRecord_answerQ .., offerRecord_backlog .., offerRecord_walks .., fun i => ?_⟩
  simp only [offerRecord_entries, getElem_ofFn]

theorem Places.loseUpstream {s : State} (h : Places (s, [])) : Places (loseUpstream s, []) := by
  obtain ⟨issueQ, answerQ, backlog, walks, entries⟩ := loseUpstream_places s
  have walk (k : WalkId) : (Machine.loseUpstream s).walks[k] = {} := by rw [walks, getElem_replicate]
  refine ⟨fun i => ⟨?_, ?_, ?_, ?_⟩, fun k _ => by rw [walk]⟩
  · simp only [issueQ, entries, sweepEntry_state]
    split <;> rfl
  · have := (h.stands i).answer
    simp only [answerQ, entries, sweepEntry_state, List.count_append, count_sweptEntries] at this ⊢
    rw [this]
    cases (s.entries[i]).state <;> rfl
  · simp only [entries, sweepEntry_state, count_waiting, walk, backlog]
    split <;> rfl
  · simp only [entries]
    exact sweepEntry_answer _ (h.stands i).answered

theorem loseEntry_state (now : Tick) (e : Entry) :
    (loseEntry now e).state = .free ∨ (loseEntry now e).state = .abandoned := by
  unfold loseEntry
  split
  next h => exact .inl h
  next h => exact .inr h
  · exact .inl rfl
  · exact .inl rfl
  · exact .inl rfl
  · exact .inr rfl
  · split
    · exact .inr rfl
    · exact .inl rfl

theorem Places.loseDownstream (s : State) : Places (loseDownstream s, []) := by
  have entry (i : EntryId) : ((Machine.loseDownstream s).entries[i]).state = .free
      ∨ ((Machine.loseDownstream s).entries[i]).state = .abandoned := by
    rw [Machine.loseDownstream, getElem_ofFn]; exact loseEntry_state _ _
  have walk (k : WalkId) : ((Machine.loseDownstream s).walks[k]).waiters = [] := by
    rw [Machine.loseDownstream, getElem_ofFn]
  have backlog : (Machine.loseDownstream s).backlog = [] := rfl
  refine ⟨fun i => ⟨?_, ?_, ?_, fun ha => ?_⟩, fun k _ => walk k⟩
  · rcases entry i with h | h <;> rw [h] <;> rfl
  · rcases entry i with h | h <;> rw [h] <;> rfl
  · simp only [count_waiting, walk, backlog]
    rcases entry i with h | h <;> rw [h] <;> rfl
  · rcases entry i with h | h <;> rw [h] at ha <;> cases ha

theorem Places.endDrain {s : State} {L : List EntryId} (h : Places (s, L)) (r : ReqId) :
    Places (endDrain r s, L) := by
  rw [endDrain_eq]
  refine Places.replyDone ?_ _
  exact h.of_same rfl rfl rfl rfl rfl

theorem Places.withdraw {s : State} {L : List EntryId} (h : Places (s, L)) (k : FenceId) (cmd : FenceCommand)
    (scope : Scope) : Places (withdrawScope k cmd scope s, L) := by
  have entry (i : EntryId) : ((withdrawScope k cmd scope s).entries[i]).state = (s.entries[i]).state
      ∧ ((withdrawScope k cmd scope s).entries[i]).answer = (s.entries[i]).answer := by
    simp only [withdrawScope, getElem_ofFn]
    split <;> exact ⟨rfl, rfl⟩
  have walk (j : WalkId) : ((withdrawScope k cmd scope s).walks[j]).waiters = (s.walks[j]).waiters
      ∧ ((withdrawScope k cmd scope s).walks[j]).state = (s.walks[j]).state := by
    simp only [withdrawScope, getElem_ofFn]
    split <;> exact ⟨rfl, rfl⟩
  refine ⟨fun i => (h.stands i).of_same (entry i).1 (entry i).2 rfl rfl ?_, fun j hj => ?_⟩
  · simp only [count_waiting, (walk _).1]
    rfl
  · simp only [(walk j).1, (walk j).2] at hj ⊢
    exact h.idle j hj

theorem Places.issue {s t : State} {i : EntryId} {rest : List EntryId} (h : Places (s, []))
    (hq : s.issueQ = i :: rest) (hs : (s.entries[i]).state = .queued) {x : Entry} (hx : x.state = .issued)
    (he : t.entries = s.entries.set i x) (hi : t.issueQ = rest) (ha : t.answerQ = s.answerQ) (hw : t.walks = s.walks)
    (hb : t.backlog = s.backlog) : Places (t, []) := by
  have waits : waitingEntries t = waitingEntries s := by simp only [waitingEntries, hw, hb]
  obtain ⟨issue, answer, waiting, -⟩ := h.stands i
  simp only [hq, hs, List.count_cons_self] at issue answer waiting
  refine h.ofEntry i ⟨?_, ?_, ?_, ?_⟩ (fun j hj => ?_) (fun j hj => ?_) (fun j hj => by rw [ha])
    (fun j hj => by rw [waits]) fun k => by rw [hw]; exact ⟨rfl, id⟩
  · simp only [he, set_getElem, if_true, hx, hi]; simpa using issue
  · simp only [he, set_getElem, if_true, hx, ha]; simpa using answer
  · simp only [he, set_getElem, if_true, hx, waits]; simpa using waiting
  · simp only [he, set_getElem, if_true, hx]; intro hc; cases hc
  · simp only [he, set_getElem, if_neg hj, and_self]
  · rw [hi, hq, count_cons_ne hj]

theorem sentEntry_state (now : Tick) (e : Entry) :
    (sentEntry now e).state = .free ∨ (sentEntry now e).state = .abandoned := by
  unfold sentEntry
  split
  · exact .inr rfl
  · exact .inl rfl

theorem Places.answered {s : State} {i : EntryId} {rest : List EntryId} (h : Places (s, []))
    (hq : s.answerQ = i :: rest) (hs : (s.entries[i]).state = .answering) {x : Entry}
    (hx : x.state = .free ∨ x.state = .abandoned) :
    Places ({ s with answerQ := rest, entries := s.entries.set i x }, []) := by
  have none : x.state ≠ .queued ∧ x.state ≠ .answering ∧ x.state ≠ .translating := by
    rcases hx with hx | hx <;> rw [hx] <;> simp
  obtain ⟨issue, answer, waiting, -⟩ := h.stands i
  simp only [hq, hs, List.count_cons_self] at issue answer waiting
  refine h.ofEntry i ⟨?_, ?_, ?_, ?_⟩ (fun j hj => ?_) (fun j hj => rfl) (fun j hj => ?_) (fun j hj => rfl)
    fun k => ⟨rfl, id⟩
  · simp only [set_getElem, if_true, if_neg none.1]; simpa using issue
  · simp only [set_getElem, if_true, if_neg none.2.1]; simpa using answer
  · simp only [set_getElem, if_true, if_neg none.2.2]; exact waiting
  · simp only [set_getElem, if_true]; exact fun hc => absurd hc none.2.1
  · simp only [set_getElem, if_neg hj, and_self]
  · rw [hq, count_cons_ne hj]

/-- The head of the issue queue is QUEUED (R53). -/
theorem Places.head_queued {s : State} {i : EntryId} {rest : List EntryId} (h : Places (s, []))
    (hq : s.issueQ = i :: rest) : (s.entries[i]).state = .queued := by
  by_contra hn
  have := (h.stands i).issue
  rw [if_neg hn] at this
  exact List.count_eq_zero.mp this (by rw [hq]; exact List.mem_cons_self)

/-- The head of the answer queue is ANSWERING, with an answer (R55). -/
theorem Places.head_answering {s : State} {i : EntryId} {rest : List EntryId} (h : Places (s, []))
    (hq : s.answerQ = i :: rest) : (s.entries[i]).state = .answering := by
  by_contra hn
  have := (h.stands i).answer
  rw [if_neg hn] at this
  exact List.count_eq_zero.mp this (by rw [hq]; exact List.mem_cons_self)

theorem Places.resetRotation {before s : State} (h : Places (s, [])) : Places (resetRotation before s, []) := by
  unfold Machine.resetRotation
  split
  · exact h.of_same rfl rfl rfl rfl rfl
  · exact h

theorem Places.act {s t : State} (ha : Act s t) (h : Places (s, [])) : Places (t, []) := by
  cases ha with
  | work ho ht => exact (Places.turns ht (h.opens ho)).resetRotation
  | loseUp hu => exact h.loseUpstream
  | loseDown =>
    exact endDrains_keeps (P := fun u => Places (u, [])) (fun t r ht => ht.endDrain r)
      (endFences_keeps (P := fun u => Places (u, [])) (fun t k ht => ht.endFence k) (.loseDownstream s))
  | issue hi hs hn => exact h.issue hi hs rfl rfl rfl rfl rfl rfl
  | skipIssue hi hs => exact absurd (h.head_queued hi) hs
  | grantWalk hl hs => exact h.setWalk _ rfl rfl rfl rfl rfl rfl rfl
  | answered hu hq hs => exact h.answered hq hs (sentEntry_state _ _)
  | @skipAnswer i rest hu hq hs =>
    have answering := h.head_answering hq
    have answered := (h.stands i).answered answering
    simp only at answered
    rw [hs answering] at answered
    cases answered
  | withdraw k cmd scope => exact h.withdraw k cmd scope
  | _ => exact h.of_same rfl rfl rfl rfl rfl

/-- Settles O54: every move takes an entry from one place to another or to none, and its state with it; the entries
between two places are carried along. -/
theorem placesKept : Obligations.PlacesKept := fun _ _ hs h =>
  places_iff.mpr (step_keeps (P := fun u => Places (u, [])) (fun aps => places_iff.mp (powerOn_places aps))
    (fun _ _ hu => hu.of_same rfl rfl rfl rfl rfl) (fun _ hu => hu.of_same rfl rfl rfl rfl rfl)
    (fun _ _ ha hu => hu.act ha) h (places_iff.mp hs))

end Sys2Proof.Machine
end

section
/-! SUPPORT. The own list (R83) and the walk backlog (R28, R29), kept by every move and every act. -/

namespace Sys2Proof.Machine

/-! ### The own list, counted -/

/-- The state of the slot whose request an own request is. -/
def slotState (s : State) : OwnRequest → SlotState
  | .walk k => (s.walks[k]).state
  | .alert => s.alertSlot.state

/-- The own list holds the requests of the QUEUED slots, each once. -/
def OwnListed (s : State) : Prop :=
  ∀ o, s.ownList.count o = if slotState s o = .queued then 1 else 0

theorem ownList_length {l : List OwnRequest} (h : l.Nodup) : l.length ≤ 5 := by
  have all : l ⊆ [.walk 0, .walk 1, .walk 2, .walk 3, .alert] := fun o _ => by
    match o with
    | .walk 0 => decide
    | .walk 1 => decide
    | .walk 2 => decide
    | .walk 3 => decide
    | .alert => decide
  exact (List.subperm_of_subset h all).length_le

theorem ownListed_iff {s : State} : OwnListLaw s ↔ OwnListed s := by
  constructor
  · rintro ⟨hn, -, hw, ha⟩
    refine nodup_mem_iff_count.mp ⟨hn, fun o => ?_⟩
    cases o with
    | walk k => exact hw k
    | alert => exact ha
  · intro h
    obtain ⟨hn, hm⟩ := nodup_mem_iff_count.mpr h
    exact ⟨hn, ownList_length hn, fun k => hm (.walk k), hm .alert⟩

theorem OwnListed.of_same {s t : State} (h : OwnListed s) (hl : t.ownList = s.ownList)
    (hw : ∀ k : WalkId, (t.walks[k]).state = (s.walks[k]).state) (ha : t.alertSlot.state = s.alertSlot.state) :
    OwnListed t := fun o => by
  have slot : slotState t o = slotState s o := by
    cases o with
    | walk k => exact hw k
    | alert => exact ha
  rw [hl, slot]
  exact h o

/-- A change of one slot that leaves the list's other requests as they are. -/
theorem OwnListed.ofSlot {s t : State} (h : OwnListed s) (o : OwnRequest)
    (ho : t.ownList.count o = if slotState t o = .queued then 1 else 0)
    (hl : ∀ p, p ≠ o → t.ownList.count p = s.ownList.count p) (hs : ∀ p, p ≠ o → slotState t p = slotState s p) :
    OwnListed t := fun p => by
  by_cases hp : p = o
  · rw [hp]; exact ho
  · rw [hl p hp, hs p hp]; exact h p

theorem slotState_setWalk {s t : State} {k : WalkId} {x : WalkSlot} (hw : t.walks = s.walks.set k x)
    (ha : t.alertSlot = s.alertSlot) (o : OwnRequest) :
    slotState t o = if o = .walk k then x.state else slotState s o := by
  cases o with
  | walk j => simp only [slotState, hw, set_getElem, OwnRequest.walk.injEq]; split <;> rfl
  | alert => simp only [slotState, ha, reduceCtorEq, if_false]

theorem slotState_alert {s t : State} (hw : t.walks = s.walks) (o : OwnRequest) :
    slotState t o = if o = .alert then t.alertSlot.state else slotState s o := by
  cases o with
  | walk j => simp only [slotState, hw, reduceCtorEq, if_false]
  | alert => simp only [slotState, if_true]

theorem slotState_otherWalk {s t : State} {k : WalkId} {x : WalkSlot} {o : OwnRequest} (ho : o ≠ .walk k)
    (hw : t.walks = s.walks.set k x) (ha : t.alertSlot = s.alertSlot) : slotState t o = slotState s o := by
  rw [slotState_setWalk hw ha, if_neg ho]

theorem slotState_notAlert {s t : State} {o : OwnRequest} (ho : o ≠ .alert) (hw : t.walks = s.walks) :
    slotState t o = slotState s o := by
  rw [slotState_alert hw, if_neg ho]

section Slots

variable {s t : State} (h : OwnListed s)

include h

/-- A walk slot that was not QUEUED joins the own list as it becomes so (R83). -/
theorem OwnListed.walkQueued {k : WalkId} {x : WalkSlot} (hk : (s.walks[k]).state ≠ .queued)
    (hx : x.state = .queued) (hw : t.walks = s.walks.set k x) (ha : t.alertSlot = s.alertSlot)
    (hl : t.ownList = s.ownList ++ [.walk k]) : OwnListed t := by
  refine h.ofSlot (.walk k) ?_ (fun p hp => ?_) fun p hp => ?_
  · have none := h (.walk k)
    rw [slotState, if_neg hk] at none
    rw [slotState_setWalk hw ha, if_pos rfl, hx, hl, List.count_append, none]
    simp
  · rw [hl, List.count_append, List.count_singleton, beq_false_of_ne (Ne.symm hp)]; rfl
  · exact slotState_otherWalk hp hw ha

/-- A walk slot changes between states that are not QUEUED. -/
theorem OwnListed.walkAside {k : WalkId} {x : WalkSlot} (hk : (s.walks[k]).state ≠ .queued)
    (hx : x.state ≠ .queued) (hw : t.walks = s.walks.set k x) (ha : t.alertSlot = s.alertSlot)
    (hl : t.ownList = s.ownList) : OwnListed t := by
  refine h.ofSlot (.walk k) ?_ (fun p hp => by rw [hl]) fun p hp => ?_
  · have none := h (.walk k)
    rw [slotState, if_neg hk] at none
    rw [slotState_setWalk hw ha, if_pos rfl, if_neg hx, hl, none]
  · exact slotState_otherWalk hp hw ha

/-- The requests that are not the slot's stay as the slot's own request leaves the list (R38, R145). -/
theorem OwnListed.withdrawn {o : OwnRequest} (ho : slotState t o ≠ .queued)
    (hs : ∀ p, p ≠ o → slotState t p = slotState s p) (hl : t.ownList = s.ownList.filter (· ≠ o)) : OwnListed t := by
  refine h.ofSlot o ?_ (fun p hp => ?_) hs
  · rw [if_neg ho, hl]
    exact List.count_eq_zero.mpr fun hm => by simp at hm
  · rw [hl]
    exact List.count_filter (by simpa using hp)

/-- The head of the own list is granted: its slot is QUEUED no more (R87). -/
theorem OwnListed.granted {o : OwnRequest} {rest : List OwnRequest} (hq : s.ownList = o :: rest)
    (ho : slotState t o ≠ .queued) (hs : ∀ p, p ≠ o → slotState t p = slotState s p) (hl : t.ownList = rest) :
    OwnListed t := by
  refine h.ofSlot o ?_ (fun p hp => ?_) hs
  · have one := h o
    rw [hq, List.count_cons_self] at one
    rw [if_neg ho, hl]
    split at one <;> omega
  · rw [hl, hq, List.count_cons_of_ne (Ne.symm hp)]

/-- The alert slot that was not QUEUED joins the own list as it becomes so (R83). -/
theorem OwnListed.alertQueued (hs : s.alertSlot.state ≠ .queued) (ht : t.alertSlot.state = .queued)
    (hw : t.walks = s.walks) (hl : t.ownList = s.ownList ++ [.alert]) : OwnListed t := by
  refine h.ofSlot .alert ?_ (fun p hp => ?_) fun p hp => ?_
  · have none := h .alert
    rw [slotState, if_neg hs] at none
    rw [slotState, ht, hl, List.count_append, none]
    simp
  · rw [hl, List.count_append, List.count_singleton, beq_false_of_ne (Ne.symm hp)]; rfl
  · exact slotState_notAlert hp hw

/-- The alert slot changes between states that are not QUEUED. -/
theorem OwnListed.alertAside (hs : s.alertSlot.state ≠ .queued) (ht : t.alertSlot.state ≠ .queued)
    (hw : t.walks = s.walks) (hl : t.ownList = s.ownList) : OwnListed t := by
  refine h.ofSlot .alert ?_ (fun p hp => by rw [hl]) fun p hp => ?_
  · have none := h .alert
    rw [slotState, if_neg hs] at none
    rw [slotState, if_neg ht, hl, none]
  · exact slotState_notAlert hp hw

theorem OwnListed.setWalk {k : WalkId} {x : WalkSlot} (hx : x.state = (s.walks[k]).state) :
    OwnListed (setWalk k x s) := by
  refine h.of_same rfl (fun j => ?_) rfl
  rw [setWalk_walks, set_getElem]
  split
  next hj => subst hj; exact hx
  · rfl

theorem OwnListed.replyDone (m : Option MgmtId) : OwnListed (replyDone m s) := by
  cases m with
  | none => exact h
  | some m => exact h.of_same rfl (fun _ => rfl) rfl

theorem OwnListed.endFence (k : FenceId) : OwnListed (endFence k s) := by
  rw [endFence_eq]
  refine OwnListed.replyDone ?_ _
  exact h.of_same rfl (fun _ => rfl) rfl

theorem OwnListed.endDrain (r : ReqId) : OwnListed (endDrain r s) := by
  rw [endDrain_eq]
  refine OwnListed.replyDone ?_ _
  exact h.of_same rfl (fun _ => rfl) rfl

theorem OwnListed.freeWalk (k : WalkId) : OwnListed (freeWalk k s) := by
  have slot := slotState_setWalk (s := s) (t := Machine.freeWalk k s) (k := k) (x := {}) rfl rfl
  refine h.withdrawn (o := .walk k) ?_ (fun p hp => ?_) rfl
  · rw [slot, if_pos rfl]; simp
  · rw [slot, if_neg hp]

end Slots

theorem OwnListed.move {c d : Point} (hm : Move c d) (h : OwnListed c.1) : OwnListed d.1 := by
  cases hm with
  | count c => exact h.of_same (bump_ownList ..) (fun k => by rw [bump_walks]) (by rw [bump_alertSlot])
  | record r =>
    exact h.of_same (offerRecord_ownList ..) (fun k => by rw [offerRecord_walks]) (by rw [offerRecord_alertSlot])
  | stop kind r =>
    exact h.of_same (applyStop_ownList ..) (fun k => by rw [applyStop_walks]) (by rw [applyStop_alertSlot])
  | answer i a o =>
    exact h.of_same (answerEntry_ownList ..) (answerEntry_walkState i a o _) (by rw [answerEntry_alertSlot])
  | queue i addr =>
    exact h.of_same (queueEntry_ownList ..) (fun k => by rw [queueEntry_walks]) (by rw [queueEntry_alertSlot])
  | join k i => exact h.setWalk rfl
  | start k i w p hk => exact h.walkQueued (by simp only [hk]; simp) rfl rfl rfl rfl
  | abandonWalk k hk => exact h.walkAside (by simp only [hk]; simp) (by simp) rfl rfl rfl
  | waitWalk k c r hk => exact h.walkAside (by simp only [hk]; simp) (by simp) rfl rfl rfl
  | queueWalk k c r hk => exact h.walkQueued (by rcases hk with hk | hk <;> simp only [hk] <;> simp) rfl rfl rfl rfl
  | @freeAlert s L =>
    exact h.withdrawn (o := .alert) (by simp [slotState, freeAlert])
      (fun p hp => slotState_notAlert hp rfl) rfl
  | abandonAlert a ha => exact h.alertAside (by simp only [ha]; simp) (by simp) rfl rfl
  | waitAlert c r ha => exact h.alertAside (by simp only [ha]; simp) (by simp) rfl rfl
  | queueAlert c r ha => exact h.alertQueued (by rcases ha with ha | ha <;> simp only [ha] <;> simp) rfl rfl rfl
  | fireAlert ha => exact h.alertQueued (by simp only [ha]; simp) rfl rfl rfl
  | endFence k => exact h.endFence k
  | _ => exact h.of_same rfl (fun _ => rfl) rfl

theorem OwnListed.turns {c d : Point} (ht : Turns c d) (h : OwnListed c.1) : OwnListed d.1 :=
  ht.keeps (P := fun e => OwnListed e.1) (fun _ _ hm h => h.move hm) (fun k _ _ _ _ h => h.freeWalk k) h

/-! ### The backlog -/

/-- Where slots only fill up and the backlog grows only with all of them busy, the law of the backlog stays. -/
theorem Fills.backlogLaw {s t : State} (h : Fills s t) (hs : BacklogLaw s) : BacklogLaw t := fun hb k hk => by
  by_cases hn : s.backlog = []
  · exact hb (List.sublist_nil.mp (hn ▸ h.backlog k hk))
  · exact hs hn k (h.busy k hk)

/-- The backlog waits while every walk slot but one is busy: the one that has just become FREE (R29). -/
def BacklogBut (k : WalkId) (s : State) : Prop :=
  s.backlog ≠ [] → ∀ j : WalkId, j ≠ k → (s.walks[j]).state ≠ .free

theorem Fills.backlogBut {k : WalkId} {s t : State} (h : Fills s t) (hs : BacklogBut k s) : BacklogBut k t :=
  fun hb j hj hf => by
    by_cases hn : s.backlog = []
    · exact hb (List.sublist_nil.mp (hn ▸ h.backlog j hf))
    · exact hs hn j hj (h.busy j hf)

theorem BacklogBut.law {k : WalkId} {s : State} (h : BacklogBut k s)
    (hk : (s.walks[k]).state = .free → s.backlog = []) : BacklogLaw s := fun hb j hj => by
  by_cases hjk : j = k
  · subst hjk; exact hb (hk hj)
  · exact h hb j hjk hj

theorem BacklogLaw.freeWalk {k : WalkId} {s : State} (h : BacklogLaw s) : BacklogBut k (freeWalk k s) :=
  fun hb j hj hf => by
    have other : (Machine.freeWalk k s).walks[j] = s.walks[j] := by
      rw [Machine.freeWalk, setWalk_walks, set_getElem, if_neg hj]
    rw [other] at hf
    exact h hb j hf

/-- Serving the backlog into a FREE slot ends with the slot busy or the backlog empty (R29). -/
theorem serveSteps_backlogLaw (n : Nat) {k : WalkId} {s : State} (h : BacklogBut k s)
    (hn : (s.walks[k]).state = .free → s.backlog.length ≤ n) : BacklogLaw (serveSteps n k s) := by
  induction n generalizing s with
  | zero => exact h.law fun hk => List.length_eq_zero_iff.mp (Nat.le_zero.mp (hn hk))
  | succ n ih =>
    unfold serveSteps
    split
    next hk =>
      split
      next hb => exact h.law fun _ => hb
      next i rest hb =>
        have pulled : BacklogBut k { s with backlog := rest } := fun _ => h (by rw [hb]; simp)
        have filled := (Moves.retranslate i { s with backlog := rest } []).fills
        refine ih (filled.backlogBut pulled) fun hk' => ?_
        have shorter := (filled.backlog k hk').length_le
        have bound := hn hk
        rw [hb, List.length_cons] at bound
        exact shorter.trans (Nat.le_of_succ_le_succ bound)
    next hk => exact h.law fun hf => absurd hf hk

theorem Turns.backlogLaw {c d : Point} (h : Turns c d) (hc : BacklogLaw c.1) : BacklogLaw d.1 := by
  induction h with
  | refl => exact hc
  | tail _ ht ih =>
    cases ht with
    | moves h => exact h.fills.backlogLaw ih
    | freed k m h hm h' =>
      exact serveSteps_backlogLaw _ (h'.fills.backlogBut (h.fills.backlogLaw ih).freeWalk) fun _ => le_rfl

/-! ### Every act -/

/-- The own list and the backlog, with the walk slots whose states both refer to. -/
structure Waiting (s : State) : Prop where
  own : OwnListed s
  backlog : BacklogLaw s

theorem Waiting.of_same {s t : State} (h : Waiting s) (hl : t.ownList = s.ownList) (hb : t.backlog = s.backlog)
    (hw : ∀ k : WalkId, (t.walks[k]).state = (s.walks[k]).state) (ha : t.alertSlot.state = s.alertSlot.state) :
    Waiting t where
  own := h.own.of_same hl hw ha
  backlog hn k hk := by rw [hw k] at hk; rw [hb] at hn; exact h.backlog hn k hk

theorem Opens.waiting {s : State} {c : Point} (ho : Opens s c) (h : Waiting s) : Waiting c.1 := by
  cases ho <;> exact h.of_same rfl rfl (fun _ => rfl) rfl

theorem Waiting.resetRotation {before s : State} (h : Waiting s) : Waiting (resetRotation before s) := by
  unfold Machine.resetRotation
  split
  · exact h.of_same rfl rfl (fun _ => rfl) rfl
  · exact h

theorem Waiting.loseUpstream (s : State) : Waiting (loseUpstream s) := by
  obtain ⟨-, -, backlog, walks, -⟩ := loseUpstream_places s
  have walk (k : WalkId) : (Machine.loseUpstream s).walks[k] = {} := by rw [walks, getElem_replicate]
  have ownList : (Machine.loseUpstream s).ownList = [] := offerRecord_ownList ..
  have alertSlot : (Machine.loseUpstream s).alertSlot = {} := offerRecord_alertSlot ..
  refine ⟨fun o => ?_, fun hb => absurd backlog hb⟩
  cases o with
  | walk k => simp only [ownList, slotState, walk]; rfl
  | alert => simp only [ownList, slotState, alertSlot]; rfl

theorem Waiting.loseDownstream {s : State} (h : Waiting s) : Waiting (loseDownstream s) where
  own := h.own.of_same rfl (fun k => by rw [Machine.loseDownstream, getElem_ofFn]) rfl
  backlog hn := absurd rfl hn

/-- The ends of fences and drains leave the walk slots, the own list and the backlog (R71, R120). -/
theorem Waiting.replyDone {s : State} (h : Waiting s) (m : Option MgmtId) : Waiting (replyDone m s) := by
  cases m with
  | none => exact h
  | some m => exact h.of_same rfl rfl (fun _ => rfl) rfl

theorem Waiting.endFence {s : State} (h : Waiting s) (k : FenceId) : Waiting (endFence k s) := by
  rw [endFence_eq]
  refine Waiting.replyDone ?_ _
  exact h.of_same rfl rfl (fun _ => rfl) rfl

theorem Waiting.endDrain {s : State} (h : Waiting s) (r : ReqId) : Waiting (endDrain r s) := by
  rw [endDrain_eq]
  refine Waiting.replyDone ?_ _
  exact h.of_same rfl rfl (fun _ => rfl) rfl

theorem Waiting.grantWalk {s : State} {k : WalkId} {rest : List OwnRequest} (h : Waiting s)
    (hl : s.ownList = .walk k :: rest) :
    Waiting
      { s with ownList := rest, walks := s.walks.set k { s.walks[k] with state := .issued }, rotation := 0 } := by
  refine ⟨h.own.granted hl ?_ (fun p hp => slotState_otherWalk hp rfl rfl) rfl,
    fun hb j => ?_⟩
  · simp only [slotState, set_getElem, if_true]; simp
  · simp only [set_getElem]
    split
    · simp
    · exact h.backlog hb j

theorem Waiting.grantAlert {s : State} {rest : List OwnRequest} (h : Waiting s) (hl : s.ownList = .alert :: rest) :
    Waiting { s with ownList := rest, alertSlot := { s.alertSlot with state := .issued }, rotation := 0 } := by
  exact ⟨h.own.granted hl (by simp [slotState])
    (fun p hp => slotState_notAlert hp rfl) rfl, h.backlog⟩

/-- The head of the own list is the request of a QUEUED slot (R83). -/
theorem OwnListed.head_queued {s : State} {o : OwnRequest} {rest : List OwnRequest} (h : OwnListed s)
    (hl : s.ownList = o :: rest) : slotState s o = .queued := by
  by_contra hn
  have none := h o
  rw [if_neg hn] at none
  exact List.count_eq_zero.mp none (by rw [hl]; exact List.mem_cons_self)

theorem Waiting.act {s t : State} (ha : Act s t) (h : Waiting s) : Waiting t := by
  cases ha with
  | work ho ht =>
    have opened := ho.waiting h
    exact Waiting.resetRotation ⟨OwnListed.turns ht opened.own, ht.backlogLaw opened.backlog⟩
  | loseUp hu => exact .loseUpstream s
  | loseDown =>
    exact endDrains_keeps (P := Waiting) (fun t r ht => ht.endDrain r)
      (endFences_keeps (P := Waiting) (fun t k ht => ht.endFence k) h.loseDownstream)
  | grantWalk hl => exact h.grantWalk hl
  | grantAlert hl => exact h.grantAlert hl
  | skipWalk hl hs => exact absurd (h.own.head_queued hl) hs
  | skipAlert hl hs => exact absurd (h.own.head_queued hl) hs
  | withdraw k cmd scope =>
    refine h.of_same rfl rfl (fun j => ?_) rfl
    simp only [withdrawScope, getElem_ofFn]
    split <;> rfl
  | _ => exact h.of_same rfl rfl (fun _ => rfl) rfl

/-- Settles O55: a slot's request enters and leaves the own list with the slot's state, and the backlog grows only
while every slot is busy and is served whenever one becomes FREE. -/
theorem ownListAndBacklogKept : Obligations.OwnListAndBacklogKept := fun _ _ hs h => by
  have kept := step_keeps (P := Waiting)
    (fun aps => ⟨ownListed_iff.mp (powerOn_ownList aps), powerOn_backlog aps⟩)
    (fun _ _ hu => hu.of_same rfl rfl (fun _ => rfl) rfl) (fun _ hu => hu.of_same rfl rfl (fun _ => rfl) rfl)
    (fun _ _ ha hu => hu.act ha) h ⟨ownListed_iff.mp hs.1, hs.2⟩
  exact ⟨ownListed_iff.mpr kept.own, kept.backlog⟩

end Sys2Proof.Machine
end

section
/-! SUPPORT. The fields that a state gives to slots and entries (R42, R51, R55, R112, R142, R151), kept by every move
and every act. -/

namespace Sys2Proof.Machine

/-! ### The fields of one entry -/

/-- A FREE entry is cleared, and every other has the fields of its state (R42, R51). -/
def Entry.good (e : Entry) : Prop :=
  (e.state = .free → e = {}) ∧ (e.state ≠ .free → e.legal)

theorem Entry.good_empty : Entry.good {} := ⟨fun _ => rfl, fun h => absurd rfl h⟩

theorem Entry.legal.good {e : Entry} (h : e.legal) (hs : e.state ≠ .free) : e.good :=
  ⟨fun hf => absurd hf hs, fun _ => h⟩

/-- Marks, window and page are free of the state's conditions, but for the host address (R51). -/
theorem Entry.good.unmarked {e : Entry} (h : e.good) : ({ e with marks := noMarks } : Entry).good := by
  by_cases hs : e.state = .free
  · rw [h.1 hs]; exact Entry.good_empty
  · exact Entry.legal.good (e := { e with marks := noMarks }) (h.2 hs) hs

section Legal

variable {e : Entry} (h : e.legal)

include h

theorem Entry.legal.queued (hs : e.state = .translating) (a : HAddr) :
    ({ e with state := .queued, hostAddr := some a } : Entry).legal := by
  obtain ⟨l1, l2, tag, tr, hq, rel, ab, ans, up, pay, nopay, len⟩ := h
  simp only [hs] at rel ab ans up pay
  exact ⟨l1, l2, tag, by simp, by simp, by simpa using rel, by simpa using ab, by simpa using ans,
    by simpa using up, fun _ => pay rfl, fun hf => by simp [EntryState.inFlight] at hf, len⟩

theorem Entry.legal.placed (hs : e.state = .translating) (w : WinId) (p : Nat) :
    ({ e with window := w, page := p, hostAddr := none } : Entry).legal := by
  obtain ⟨l1, l2, tag, tr, hq, rel, ab, ans, up, pay, nopay, len⟩ := h
  exact ⟨l1, l2, tag, fun _ => rfl, by simp [hs], rel, ab, ans, fun hu => by have := (up hu).1; simp [hs] at this,
    pay, nopay, len⟩

theorem Entry.legal.answered {a : Answer} {o : Bool} (hf : e.state.inFlight = true)
    (ha : a.data.length = e.answerLength a) (ho : o = true → e.state = .issued) : (e.answered a o).legal := by
  obtain ⟨l1, l2, tag, tr, hq, rel, ab, ans, up, pay, nopay, len⟩ := h
  have notAbandoned : e.state ≠ .abandoned := by intro hs; rw [hs] at hf; cases hf
  refine ⟨l1, l2, tag, by simp [Entry.answered], by simp [Entry.answered], by simp [Entry.answered], ?_,
    by simp [Entry.answered], fun hu => ⟨rfl, ?_⟩, fun hf => by simp [Entry.answered, EntryState.inFlight] at hf,
    fun _ => rfl, fun b hb => ?_⟩
  · simp only [Entry.answered]
    exact ⟨fun h => absurd (ab.mp h) notAbandoned, fun h => by cases h⟩
  · have hu' : o = true := hu
    simp only [Entry.answered, hu', if_true]
    exact hq (.inr (.inl (ho hu')))
  · cases hb
    exact ha

theorem Entry.legal.waiting (hs : e.state = .issued) (c : Nat) (r : Tick) :
    ({ e with state := .retryWait, retryCount := c, releaseTick := some r } : Entry).legal := by
  obtain ⟨l1, l2, tag, tr, hq, rel, ab, ans, up, pay, nopay, len⟩ := h
  simp only [hs] at hq rel ab ans up pay
  exact ⟨l1, l2, tag, by simp, fun _ => hq (by simp), by simp, by simpa using ab, by simpa using ans,
    by simpa using up, fun _ => pay rfl, fun hf => by simp [EntryState.inFlight] at hf, len⟩

theorem Entry.legal.requeued (hs : e.state = .retryWait) :
    ({ e with state := .queued, releaseTick := none } : Entry).legal := by
  obtain ⟨l1, l2, tag, tr, hq, rel, ab, ans, up, pay, nopay, len⟩ := h
  simp only [hs] at hq ab ans up pay
  exact ⟨l1, l2, tag, by simp, fun _ => hq (by simp), by simp, by simpa using ab, by simpa using ans,
    by simpa using up, fun _ => pay rfl, fun hf => by simp [EntryState.inFlight] at hf, len⟩

theorem Entry.legal.retranslates (hs : e.state = .retryWait) :
    ({ e with state := .translating, marks := noMarks, hostAddr := none, releaseTick := none } : Entry).legal := by
  obtain ⟨l1, l2, tag, tr, hq, rel, ab, ans, up, pay, nopay, len⟩ := h
  simp only [hs] at ab ans up pay
  exact ⟨l1, l2, tag, by simp, by simp, by simp, by simpa using ab, by simpa using ans, by simpa using up,
    fun _ => pay rfl, fun hf => by simp [EntryState.inFlight] at hf, len⟩

theorem Entry.legal.issued (hs : e.state = .queued) : ({ e with state := .issued } : Entry).legal := by
  obtain ⟨l1, l2, tag, tr, hq, rel, ab, ans, up, pay, nopay, len⟩ := h
  simp only [hs] at hq rel ab ans up pay
  exact ⟨l1, l2, tag, by simp, fun _ => hq (by simp), by simpa using rel, by simpa using ab, by simpa using ans,
    by simpa using up, fun _ => pay rfl, fun hf => by simp [EntryState.inFlight] at hf, len⟩

theorem Entry.legal.abandons (hs : e.state = .issued) (now : Tick) :
    ({ e with state := .abandoned, abandonTick := some now, payload := [] } : Entry).legal := by
  obtain ⟨l1, l2, tag, tr, hq, rel, ab, ans, up, pay, nopay, len⟩ := h
  simp only [hs] at hq rel ans up
  exact ⟨l1, l2, tag, by simp, fun _ => hq (by simp), by simpa using rel, by simp, by simpa using ans,
    by simpa using up, fun hf => by simp [EntryState.inFlight] at hf, fun _ => rfl, len⟩

/-- The answer of an entry whose request stays open is sent or lost: the entry is ABANDONED (R56, R59). -/
theorem Entry.legal.leftOpen (hs : e.state = .answering) (hu : e.upstreamOpen = true) (now : Tick) :
    ({ e with state := .abandoned, abandonTick := some now, answer := none, upstreamOpen := false } : Entry).legal := by
  obtain ⟨l1, l2, tag, tr, hq, rel, ab, ans, up, pay, nopay, len⟩ := h
  simp only [hs] at rel nopay
  exact ⟨l1, l2, tag, by simp, fun _ => (up hu).2, by simpa using rel, by simp, by simp, by simp,
    fun hf => by simp [EntryState.inFlight] at hf, fun _ => nopay rfl, by simp⟩

end Legal

/-- The checks of R45 give an accepted request the fields of a TRANSLATING entry (R49, R51). -/
theorem acceptedEntry_legal {p : ReqPacket} (hm : malformedDetail p = none) (r : ReqId) (w : WinId) (s : State) :
    (acceptedEntry r p w s).legal := by
  have ok := malformedDetail_none.mp hm
  have tag : ¬31 < (headerTag p.h0).toNat := fun h => ok 2 (.inr (.inl ⟨rfl, h⟩))
  have length : ¬(headerLength p.h0 < 1 ∨ 64 < headerLength p.h0) := fun h => ok 3 (.inr (.inr (.inl ⟨rfl, h⟩)))
  have body : requestKind p = .write → p.body.length = headerLength p.h0 := fun hw => by
    by_contra hb
    exact ok 4 (.inr (.inr (.inr (.inl ⟨rfl, .inl ⟨hw, hb⟩⟩))))
  refine ⟨by simp only [acceptedEntry]; omega, by simp only [acceptedEntry]; omega, by simp only [acceptedEntry]; omega,
    fun _ => rfl, by simp [acceptedEntry], by simp [acceptedEntry], by simp [acceptedEntry], by simp [acceptedEntry],
    by simp [acceptedEntry], fun _ => ?_, fun hf => by simp [acceptedEntry, EntryState.inFlight] at hf,
    by simp [acceptedEntry]⟩
  show (if requestKind p = .write then p.body else []).length
    = if requestKind p = .write then headerLength p.h0 else 0
  split
  next hw => exact body hw
  · rfl

theorem sweepEntry_good {e : Entry} (h : e.good) : (sweepEntry e).good := by
  rw [sweepEntry_eq]
  split
  next hf =>
    refine Entry.legal.good ?_ (by simp [Entry.answered])
    exact (h.2 fun he => by rw [he] at hf; cases hf).answered hf (by simp [Entry.answerLength]) (by simp)
  split
  · exact Entry.good_empty
  split
  next hs =>
    obtain ⟨l1, l2, tag, tr, hq, rel, ab, ans, up, pay, nopay, len⟩ := h.2 (by simp [hs])
    have closed : ({ e with upstreamOpen := false } : Entry).legal :=
      ⟨l1, l2, tag, tr, hq, rel, ab, ans, by simp, pay, nopay, len⟩
    exact closed.good (by simp [hs])
  · exact h

theorem loseEntry_good {e : Entry} (h : e.good) (now : Tick) : (loseEntry now e).good := by
  cases hs : e.state with
  | free => simpa only [loseEntry, hs] using h
  | abandoned => simpa only [loseEntry, hs] using h
  | translating => simpa only [loseEntry, hs] using Entry.good_empty
  | queued => simpa only [loseEntry, hs] using Entry.good_empty
  | retryWait => simpa only [loseEntry, hs] using Entry.good_empty
  | issued => simpa only [loseEntry, hs] using ((h.2 (by simp [hs])).abandons hs now).good (by simp)
  | answering =>
    simp only [loseEntry, hs]
    split
    next hu => exact ((h.2 (by simp [hs])).leftOpen hs hu now).good (by simp)
    · exact Entry.good_empty

theorem sentEntry_good {e : Entry} (h : e.good) (hs : e.state = .answering) (now : Tick) :
    (sentEntry now e).good := by
  unfold sentEntry
  split
  next hu => exact ((h.2 (by simp [hs])).leftOpen hs hu now).good (by simp)
  · exact Entry.good_empty

/-! ### Every slot and entry -/

/-- Every FREE slot and entry is cleared, and every other entry has the fields of its state. -/
structure Tidy (s : State) : Prop where
  entries : ∀ i : EntryId, (s.entries[i]).good
  walks : ∀ k : WalkId, (s.walks[k]).state = .free → s.walks[k] = {}
  fences : ∀ k : FenceId, (s.fences[k]).state = .free → s.fences[k] = {}
  alert : s.alertSlot.state = .free → s.alertSlot = {}
  mgmt : ∀ m : MgmtId, (s.mgmt[m]).state = .free → s.mgmt[m] = {}

theorem tidy_iff {s : State} : FreeLaw s ∧ EntryLaw s ↔ Tidy s := by
  constructor
  · rintro ⟨⟨he, hw, hf, ha, hm⟩, legal⟩
    exact ⟨fun i => ⟨he i, legal i⟩, hw, hf, ha, hm⟩
  · rintro ⟨he, hw, hf, ha, hm⟩
    exact ⟨⟨fun i => (he i).1, hw, hf, ha, hm⟩, fun i => (he i).2⟩

theorem Tidy.of_same {s t : State} (h : Tidy s) (he : t.entries = s.entries) (hw : t.walks = s.walks)
    (hf : t.fences = s.fences) (ha : t.alertSlot = s.alertSlot) (hm : t.mgmt = s.mgmt) : Tidy t :=
  ⟨by rw [he]; exact h.entries, by rw [hw]; exact h.walks, by rw [hf]; exact h.fences,
    by rw [ha]; exact h.alert, by rw [hm]; exact h.mgmt⟩

theorem Tidy.setEntry {s : State} (h : Tidy s) (i : EntryId) {x : Entry} (hx : x.good) : Tidy (setEntry i x s) :=
  ⟨forall_set h.entries hx, h.walks, h.fences, h.alert, h.mgmt⟩

theorem Tidy.setWalk {s : State} (h : Tidy s) (k : WalkId) {x : WalkSlot} (hx : x.state = .free → x = {}) :
    Tidy (setWalk k x s) :=
  ⟨h.entries, forall_set (P := fun w : WalkSlot => w.state = .free → w = {}) h.walks hx, h.fences, h.alert, h.mgmt⟩

theorem Tidy.setFence {s : State} (h : Tidy s) (k : FenceId) {x : Fence} (hx : x.state = .free → x = {}) :
    Tidy (setFence k x s) :=
  ⟨h.entries, h.walks, forall_set (P := fun f : Fence => f.state = .free → f = {}) h.fences hx, h.alert, h.mgmt⟩

theorem Tidy.setAlert {s : State} (h : Tidy s) {x : AlertSlot} (hx : x.state = .free → x = {}) :
    Tidy { s with alertSlot := x } := ⟨h.entries, h.walks, h.fences, hx, h.mgmt⟩

/-- A fence's count is no field that FREE clears from a WAITING slot (R112, R119). -/
theorem Tidy.dropMarks {s : State} (h : Tidy s) (i : EntryId) : Tidy (dropMarks i s) := by
  refine ⟨forall_set h.entries (h.entries i).unmarked, h.walks, fun k hk => ?_, h.alert, h.mgmt⟩
  rw [dropMarks_fence] at hk ⊢
  rw [h.fences k hk, Nat.zero_sub]

theorem Tidy.leavePlaces {s : State} (h : Tidy s) (i : EntryId) : Tidy (leavePlaces i s) := by
  refine ⟨h.entries, fun k hk => ?_, h.fences, h.alert, h.mgmt⟩
  rw [leavePlaces_walk] at hk ⊢
  rw [h.walks k hk]
  rfl

theorem Tidy.replyDone {s : State} (h : Tidy s) (m : Option MgmtId) : Tidy (replyDone m s) := by
  cases m with
  | none => exact h
  | some m =>
    exact ⟨h.entries, h.walks, h.fences, h.alert,
      forall_set (P := fun x : MgmtSlot => x.state = .free → x = {}) h.mgmt (by simp)⟩

theorem Tidy.endFence {s : State} (h : Tidy s) (k : FenceId) : Tidy (endFence k s) := by
  rw [endFence_eq]
  refine Tidy.replyDone ?_ _
  exact (h.setFence k fun _ => rfl).of_same rfl rfl rfl rfl rfl

theorem Tidy.endDrain {s : State} (h : Tidy s) (r : ReqId) : Tidy (endDrain r s) := by
  rw [endDrain_eq]
  refine Tidy.replyDone ?_ _
  exact h.of_same rfl rfl rfl rfl rfl

theorem Tidy.answer {s : State} (h : Tidy s) (i : EntryId) {a : Answer} {o : Bool}
    (ha : a.data.length = (s.entries[i]).answerLength a) (ho : o = true → (s.entries[i]).state = .issued) :
    Tidy (answerEntry i a o s) := by
  by_cases hf : (s.entries[i]).state.inFlight = true
  · have good : ((s.entries[i]).answered a o).good := by
      refine Entry.legal.good ?_ (by simp [Entry.answered])
      exact ((h.entries i).2 fun he => by rw [he] at hf; cases hf).answered hf ha ho
    have answered := ((h.dropMarks i).leavePlaces i).setEntry i good
    simp only [answerEntry, hf, if_true]
    exact answered.of_same rfl rfl rfl rfl rfl
  · rw [answerEntry_of_not i a o s (by simpa using hf)]; exact h

/-- The entry of a state that is not FREE is legal. -/
theorem Tidy.legal {s : State} (h : Tidy s) {i : EntryId} {st : EntryState} (hs : (s.entries[i]).state = st)
    (hst : st ≠ .free) : (s.entries[i]).legal := (h.entries i).2 (by rw [hs]; exact hst)

theorem Tidy.queue {s : State} (h : Tidy s) (i : EntryId) (addr : HAddr) : Tidy (queueEntry i addr s) := by
  by_cases hs : (s.entries[i]).state = .translating
  · rw [queueEntry_of_translating i addr s hs]
    have queued := h.setEntry i (((h.legal hs (by simp)).queued hs addr).good (by simp))
    exact queued.of_same rfl rfl rfl rfl rfl
  · simpa only [queueEntry, hs, if_false] using h

theorem Tidy.move {c d : Point} (hm : Move c d) (h : Tidy c.1) : Tidy d.1 := by
  cases hm with
  | count c =>
    exact h.of_same (bump_entries ..) (bump_walks ..) (bump_fences ..) (bump_alertSlot ..) (bump_mgmt ..)
  | record r =>
    exact h.of_same (offerRecord_entries ..) (offerRecord_walks ..) (offerRecord_fences ..)
      (offerRecord_alertSlot ..) (offerRecord_mgmt ..)
  | stop kind r =>
    exact h.of_same (applyStop_entries ..) (applyStop_walks ..) (applyStop_fences ..) (applyStop_alertSlot ..)
      (applyStop_mgmt ..)
  | answer i a o ha ho => exact h.answer i ha ho
  | queue i addr => exact h.queue i addr
  | place i w p hs => exact h.setEntry i (((h.legal hs (by simp)).placed hs w p).good fun hf => absurd (hs.symm.trans hf) (by simp))
  | join k i hu => exact h.setWalk k fun hf => absurd hf (SlotState.ne_free_of_underWay hu)
  | start k i w p => exact (h.setWalk k (by simp)).of_same rfl rfl rfl rfl rfl
  | abandonWalk k => exact h.setWalk k (by simp)
  | waitWalk k => exact h.setWalk k (by simp)
  | queueWalk k => exact (h.setWalk k (by simp)).of_same rfl rfl rfl rfl rfl
  | waitEntry i c r hs => exact h.setEntry i (((h.legal hs (by simp)).waiting hs c r).good (by simp))
  | requeueEntry i hs =>
    exact (h.setEntry i (((h.legal hs (by simp)).requeued hs).good (by simp))).of_same rfl rfl rfl rfl rfl
  | unmark i hs =>
    exact (h.dropMarks i).setEntry i (((h.legal hs (by simp)).retranslates hs).good (by simp))
  | freeEntry i => exact (h.dropMarks i).setEntry i Entry.good_empty
  | freeAlert => exact (h.setAlert fun _ => rfl).of_same rfl rfl rfl rfl rfl
  | abandonAlert => exact h.setAlert (by simp)
  | waitAlert => exact h.setAlert (by simp)
  | queueAlert => exact (h.setAlert (by simp)).of_same rfl rfl rfl rfl rfl
  | @fireAlert s L hf =>
    have fired : Tidy { s with alertSlot := (fireAlert s).alertSlot } := h.setAlert fun hn => by cases hn
    exact fired.of_same rfl rfl rfl rfl rfl
  | endFence k => exact h.endFence k
  | _ => exact h.of_same rfl rfl rfl rfl rfl

theorem Tidy.freeWalk {s : State} (h : Tidy s) (k : WalkId) : Tidy (freeWalk k s) :=
  (h.setWalk k fun _ => rfl).of_same rfl rfl rfl rfl rfl

theorem Tidy.turns {c d : Point} (ht : Turns c d) (h : Tidy c.1) : Tidy d.1 :=
  ht.keeps (P := fun e => Tidy e.1) (fun _ _ hm h => h.move hm) (fun k _ _ _ _ h => h.freeWalk k) h

/-! ### Every act -/

theorem Tidy.opens {s : State} {c : Point} (ho : Opens s c) (h : Tidy s) : Tidy c.1 := by
  cases ho with
  | @accepted p rest i r w hq hi hm =>
    have accepted := h.setEntry i ((acceptedEntry_legal hm r w s).good (by simp [acceptedEntry]))
    exact accepted.of_same rfl rfl rfl rfl rfl
  | _ => exact h.of_same rfl rfl rfl rfl rfl

theorem Tidy.resetRotation {before s : State} (h : Tidy s) : Tidy (resetRotation before s) := by
  unfold Machine.resetRotation
  split
  · exact h.of_same rfl rfl rfl rfl rfl
  · exact h

theorem Tidy.loseUpstream {s : State} (h : Tidy s) : Tidy (loseUpstream s) := by
  obtain ⟨-, -, -, walks, entries⟩ := loseUpstream_places s
  have fences : (Machine.loseUpstream s).fences = Vector.replicate 4 {} := offerRecord_fences ..
  have mgmt : (Machine.loseUpstream s).mgmt = Vector.replicate 8 {} := offerRecord_mgmt ..
  have alertSlot : (Machine.loseUpstream s).alertSlot = {} := offerRecord_alertSlot ..
  refine ⟨fun i => ?_, fun k _ => ?_, fun k _ => ?_, fun _ => alertSlot, fun m _ => ?_⟩
  · rw [entries]; exact sweepEntry_good (h.entries i)
  · rw [walks, getElem_replicate]
  · rw [fences, getElem_replicate]
  · rw [mgmt, getElem_replicate]

theorem Tidy.loseDownstream {s : State} (h : Tidy s) : Tidy (loseDownstream s) := by
  refine ⟨fun i => ?_, fun k hk => ?_, fun k hk => ?_, h.alert, h.mgmt⟩
  · rw [Machine.loseDownstream, getElem_ofFn]; exact loseEntry_good (h.entries i) _
  · rw [Machine.loseDownstream, getElem_ofFn] at hk ⊢
    rw [h.walks k hk]
  · rw [Machine.loseDownstream, getElem_ofFn] at hk ⊢
    rw [h.fences k hk, Nat.zero_sub]

theorem EntryState.ne_free_of_markable {x : EntryState} (h : x.markable = true) : x ≠ .free := by
  rintro rfl; cases h

theorem Tidy.withdraw {s : State} (h : Tidy s) (k : FenceId) (cmd : FenceCommand) (scope : Scope) :
    Tidy (withdrawScope k cmd scope s) := by
  refine ⟨fun i => ?_, fun j hj => ?_, h.fences, h.alert, h.mgmt⟩
  · simp only [withdrawScope, getElem_ofFn]
    split
    next hm =>
      simp only [fenceMarks, Bool.and_eq_true] at hm
      have busy := EntryState.ne_free_of_markable hm.1
      have marked (m : Marks) : ({ s.entries[i] with marks := m } : Entry).legal := (h.entries i).2 busy
      exact (marked _).good busy
    · exact h.entries i
  · simp only [withdrawScope, getElem_ofFn] at hj ⊢
    split at hj
    next hu =>
      simp only [Bool.and_eq_true] at hu
      exact absurd hj (SlotState.ne_free_of_underWay hu.1)
    next hu => rw [if_neg hu]; exact h.walks j hj

theorem Tidy.act {s t : State} (ha : Act s t) (h : Tidy s) : Tidy t := by
  cases ha with
  | work ho ht => exact (Tidy.turns ht (h.opens ho)).resetRotation
  | loseUp hu => exact h.loseUpstream
  | loseDown =>
    exact endDrains_keeps (P := Tidy) (fun t r ht => ht.endDrain r)
      (endFences_keeps (P := Tidy) (fun t k ht => ht.endFence k) h.loseDownstream)
  | mgmt hv hq =>
    refine ⟨h.entries, h.walks, h.fences, h.alert, fun m hm => ?_⟩
    rcases hv m hm with hc | hc
    · exact hc
    · simp only [hc] at hm ⊢; exact h.mgmt m hm
  | issue hi hs hn =>
    exact (h.setEntry _ (((h.legal hs (by simp)).issued hs).good (by simp))).of_same rfl rfl rfl rfl rfl
  | grantWalk hl hs => exact (h.setWalk _ (by simp)).of_same rfl rfl rfl rfl rfl
  | grantAlert hl hs => exact (h.setAlert (by simp)).of_same rfl rfl rfl rfl rfl
  | answered hu hq hs => exact (h.setEntry _ (sentEntry_good (h.entries _) hs _)).of_same rfl rfl rfl rfl rfl
  | withdraw k cmd scope => exact h.withdraw k cmd scope
  | fence k f hf => exact h.setFence k fun he => absurd he hf
  | _ => exact h.of_same rfl rfl rfl rfl rfl

/-- Settles O57: every move writes an entry with the fields of its new state, and frees a slot by clearing it. -/
theorem entryFieldsKept : Obligations.EntryFieldsKept := fun _ _ hs h =>
  tidy_iff.mpr (step_keeps (P := Tidy) (fun aps => tidy_iff.mp ⟨powerOn_cleared aps, powerOn_entries aps⟩)
    (fun _ _ hu => hu.of_same rfl rfl rfl rfl rfl) (fun _ hu => hu.of_same rfl rfl rfl rfl rfl)
    (fun _ _ ha hu => hu.act ha) h (tidy_iff.mp hs))

end Sys2Proof.Machine
end

section
/-! SUPPORT. What stands in the bridge while a port is DOWN (R174, R176), kept by every command. -/

namespace Sys2Proof.Machine

/-! ### The D-port DOWN -/

/-- The queues, lists, entries and counts that the loss of the D-port empties, with no entry between two places. -/
structure Emptied (c : Point) : Prop where
  loose : c.2 = []
  answerQ : c.1.answerQ = []
  issueQ : c.1.issueQ = []
  backlog : c.1.backlog = []
  waiters : ∀ k : WalkId, (c.1.walks[k]).waiters = []
  entries : ∀ i : EntryId, (c.1.entries[i]).state = .free ∨ (c.1.entries[i]).state = .abandoned
  outstanding : ∀ r : ReqId, (c.1.contexts[r]).outstanding = 0

/-- No context drains. -/
def Undrained (s : State) : Prop := ∀ r : ReqId, (s.contexts[r]).state ≠ .draining

/-- What happenings do not touch while the D-port is DOWN. -/
structure Silent (s : State) : Prop where
  dHoldReq : s.dHoldReq = false
  dHoldCpl : s.dHoldCpl = false
  dReqIn : s.dReqIn = []
  dTx : s.dTx = none
  refusalQ : s.refusalQ = []

theorem downstreamDown_iff {s : State} :
    DownstreamDownLaw s ↔ (s.dUp = false → Silent s ∧ Emptied (s, []) ∧ Undrained s) := by
  constructor
  · intro h hd
    obtain ⟨h1, h2, h3, h4, h5, h6, h7, h8, h9, h10, h11⟩ := h hd
    exact ⟨⟨h1, h2, h3, h4, h5⟩, ⟨rfl, h6, h7, h8, h9, h10, fun r => (h11 r).1⟩, fun r => (h11 r).2⟩
  · intro h hd
    obtain ⟨⟨h1, h2, h3, h4, h5⟩, ⟨-, h6, h7, h8, h9, h10, h11⟩, h12⟩ := h hd
    exact ⟨h1, h2, h3, h4, h5, h6, h7, h8, h9, h10, fun r => ⟨h11 r, h12 r⟩⟩

theorem Silent.of_outside {s t : State} (h : Silent s) (ho : Outside s t) : Silent t :=
  ⟨ho.dHoldReq.trans h.dHoldReq, ho.dHoldCpl.trans h.dHoldCpl, ho.dReqIn.trans h.dReqIn, ho.dTx.trans h.dTx,
    ho.refusalQ.trans h.refusalQ⟩

theorem Emptied.of_same {s t : State} {L : List EntryId} (h : Emptied (s, L)) (ha : t.answerQ = s.answerQ)
    (hi : t.issueQ = s.issueQ) (hb : t.backlog = s.backlog) (hw : t.walks = s.walks) (he : t.entries = s.entries)
    (hc : t.contexts = s.contexts) : Emptied (t, L) :=
  ⟨h.loose, ha.trans h.answerQ, hi.trans h.issueQ, hb.trans h.backlog, by simp only [hw]; exact h.waiters,
    by simp only [he]; exact h.entries, by simp only [hc]; exact h.outstanding⟩

theorem Emptied.setWalk {s : State} {L : List EntryId} (h : Emptied (s, L)) (k : WalkId) {x : WalkSlot}
    (hx : x.waiters = []) : Emptied (setWalk k x s, L) :=
  { h with waiters := forall_set (P := fun w : WalkSlot => w.waiters = []) h.waiters hx }

theorem Emptied.setEntry {s : State} {L : List EntryId} (h : Emptied (s, L)) (i : EntryId) {x : Entry}
    (hx : x.state = .free ∨ x.state = .abandoned) : Emptied (setEntry i x s, L) :=
  { h with entries := forall_set (P := fun e : Entry => e.state = .free ∨ e.state = .abandoned) h.entries hx }

theorem Emptied.setContext {s : State} {L : List EntryId} (h : Emptied (s, L)) (r : ReqId) {x : Context}
    (hx : x.outstanding = 0) : Emptied (setContext r x s, L) :=
  { h with outstanding := forall_set (P := fun c : Context => c.outstanding = 0) h.outstanding hx }

theorem Emptied.replyDone {s : State} {L : List EntryId} (h : Emptied (s, L)) (m : Option MgmtId) :
    Emptied (replyDone m s, L) := by
  cases m with
  | none => exact h
  | some m => exact h.of_same rfl rfl rfl rfl rfl rfl

theorem Emptied.endFence {s : State} {L : List EntryId} (h : Emptied (s, L)) (k : FenceId) :
    Emptied (endFence k s, L) := by
  rw [endFence_eq]
  refine Emptied.replyDone ?_ _
  exact h.of_same rfl rfl rfl rfl rfl rfl

theorem Emptied.endDrain {s : State} {L : List EntryId} (h : Emptied (s, L)) (r : ReqId) :
    Emptied (endDrain r s, L) := by
  rw [endDrain_eq]
  refine Emptied.replyDone ?_ _
  exact h.setContext r (h.outstanding r)

theorem Emptied.not_loose {s : State} {L : List EntryId} {i : EntryId} (h : Emptied (s, i :: L)) : False := by
  cases h.loose

/-- No entry is in a state that is neither FREE nor ABANDONED. -/
theorem Emptied.not_state {c : Point} {st : EntryState} (h : Emptied c) {i : EntryId}
    (hs : (c.1.entries[i]).state = st) (hf : st ≠ .free) (ha : st ≠ .abandoned) : False := by
  rcases h.entries i with he | he
  · exact hf (hs.symm.trans he)
  · exact ha (hs.symm.trans he)

theorem Emptied.dropMarks {s : State} {L : List EntryId} (h : Emptied (s, L)) (i : EntryId) :
    Emptied (dropMarks i s, L) :=
  (h.setEntry i (x := { s.entries[i] with marks := noMarks }) (h.entries i)).of_same rfl rfl rfl rfl rfl rfl

theorem stoppedBy_outstanding (c : Context) (kind : FaultKind) :
    (c.stoppedBy kind).outstanding = c.outstanding := by
  unfold Context.stoppedBy
  split <;> rfl

theorem stoppedBy_state (c : Context) (kind : FaultKind) (h : c.state ≠ .draining) :
    (c.stoppedBy kind).state ≠ .draining := by
  unfold Context.stoppedBy
  split
  · simp
  · exact h

theorem Emptied.move {c d : Point} (hm : Move c d) (h : Emptied c) : Emptied d := by
  cases hm with
  | count c =>
    exact h.of_same (bump_answerQ ..) (bump_issueQ ..) (bump_backlog ..) (bump_walks ..) (bump_entries ..)
      (bump_contexts ..)
  | record r =>
    exact h.of_same (offerRecord_answerQ ..) (offerRecord_issueQ ..) (offerRecord_backlog ..)
      (offerRecord_walks ..) (offerRecord_entries ..) (offerRecord_contexts ..)
  | @stop s L kind r =>
    rw [applyStop_eq]
    exact h.setContext r ((stoppedBy_outstanding _ _).trans (h.outstanding r))
  | @answer s L i a o =>
    have idle : (s.entries[i]).state.inFlight = false := by
      rcases h.entries i with he | he <;> simp only at he <;> rw [he] <;> rfl
    have none : L = [] := h.loose
    rw [answerEntry_of_not i a o s idle, none, List.erase_nil]
    rw [none] at h
    exact h
  | queue => exact absurd h fun h => h.not_loose
  | place i w p hs => exact (h.not_state hs (by simp) (by simp)).elim
  | settled => exact absurd h fun h => h.not_loose
  | join => exact absurd h fun h => h.not_loose
  | start => exact absurd h fun h => h.not_loose
  | push => exact absurd h fun h => h.not_loose
  | @pull s L m l hp hs =>
    have none : m ++ l = [] := List.Perm.eq_nil (by rw [h.backlog] at hp; exact hp)
    obtain ⟨rfl, rfl⟩ := List.append_eq_nil_iff.mp none
    exact { h with backlog := rfl }
  | @abandonWalk s L k =>
    have none : (s.walks[k]).waiters = [] := h.waiters k
    rw [none]
    exact h.setWalk k rfl
  | waitWalk k => exact h.setWalk k (h.waiters k)
  | @queueWalk s L k c r =>
    have queued := h.setWalk k (x := { s.walks[k] with state := .queued, retryCount := c, releaseTick := r })
      (h.waiters k)
    exact queued.of_same rfl rfl rfl rfl rfl rfl
  | waitEntry i c r hs => exact (h.not_state hs (by simp) (by simp)).elim
  | requeueEntry i hs => exact (h.not_state hs (by simp) (by simp)).elim
  | unmark i hs => exact (h.not_state hs (by simp) (by simp)).elim
  | freeEntry i => exact (h.dropMarks i).setEntry i (.inl rfl)
  | endFence k => exact h.endFence k
  | _ => exact h.of_same rfl rfl rfl rfl rfl rfl

theorem Emptied.freeWalk {s : State} {L m : List EntryId} {k : WalkId} (h : Emptied (s, L)) (hm : Leaves s k m) :
    Emptied (freeWalk k s, m ++ L) := by
  have none : m = [] := by
    rcases hm with hm | ⟨hm, -⟩
    · exact hm.trans (h.waiters k)
    · exact hm
  rw [none]
  exact (h.setWalk k rfl).of_same rfl rfl rfl rfl rfl rfl

theorem Emptied.turns {c d : Point} (ht : Turns c d) (h : Emptied c) : Emptied d :=
  ht.keeps (P := Emptied) (fun _ _ hm h => h.move hm) (fun _ _ _ _ hm h => h.freeWalk hm) h

theorem Undrained.of_same {s t : State} (h : Undrained s) (hc : t.contexts = s.contexts) : Undrained t := fun r => by
  rw [hc]; exact h r

theorem Undrained.setContext {s : State} (h : Undrained s) (r : ReqId) {x : Context} (hx : x.state ≠ .draining) :
    Undrained (setContext r x s) := forall_set (P := fun c : Context => c.state ≠ .draining) h hx

theorem replyDone_contexts (m : Option MgmtId) (s : State) : (replyDone m s).contexts = s.contexts := by
  cases m <;> rfl

theorem endFence_contexts (k : FenceId) (s : State) : (endFence k s).contexts = s.contexts := by
  rw [endFence_eq, replyDone_contexts]

theorem Undrained.move {c d : Point} (hm : Move c d) (h : Undrained c.1) : Undrained d.1 := by
  cases hm with
  | count c => exact h.of_same (bump_contexts ..)
  | record r => exact h.of_same (offerRecord_contexts ..)
  | stop kind r =>
    simp only [applyStop_eq]
    exact h.setContext r (stoppedBy_state _ _ (h r))
  | answer i a o => exact h.of_same (answerEntry_contexts ..)
  | queue i addr => exact h.of_same (queueEntry_contexts ..)
  | endFence k => exact h.of_same (endFence_contexts ..)
  | _ => exact h.of_same rfl

theorem Undrained.turns {c d : Point} (ht : Turns c d) (h : Undrained c.1) : Undrained d.1 :=
  ht.keeps (P := fun e => Undrained e.1) (fun _ _ hm h => h.move hm) (fun _ _ _ _ _ h => h.of_same rfl) h

theorem endDrain_state (r q : ReqId) (s : State) :
    ((endDrain r s).contexts[q]).state = if q = r then .off else (s.contexts[q]).state := by
  rw [endDrain_eq, replyDone_contexts, set_getElem]
  split <;> rfl

/-- The loss of the D-port ends every drain (R78). -/
theorem endDrains_undrained (s : State) : Undrained (endDrains s) := by
  have ended (rs : List ReqId) (t : State) (r : ReqId) (h : r ∈ rs ∨ (t.contexts[r]).state ≠ .draining) :
      ((rs.foldl (fun t r => if (t.contexts[r]).state = .draining then endDrain r t else t) t).contexts[r]).state
        ≠ .draining := by
    induction rs generalizing t with
    | nil => exact h.resolve_left List.not_mem_nil
    | cons q rs ih =>
      refine ih _ ?_
      by_cases hr : r ∈ rs
      · exact .inl hr
      · refine .inr ?_
        simp only
        split
        next hq =>
          rw [endDrain_state]
          split
          · simp
          next hne =>
            exact h.resolve_left fun hm => (List.mem_cons.mp hm).elim hne hr
        next hq =>
          rcases h with hm | h
          · rw [(List.mem_cons.mp hm).resolve_right hr]; exact hq
          · exact h
  exact fun r => ended _ s r (.inl (List.mem_finRange r))

/-! ### Every act, with the D-port DOWN -/

/-- What stands while the D-port is DOWN. -/
def DownLaw (s : State) : Prop := s.dUp = false → Silent s ∧ Emptied (s, []) ∧ Undrained s

theorem DownLaw.of_up {s : State} (h : s.dUp = true) : DownLaw s := fun hd => by rw [h] at hd; cases hd

theorem DownLaw.of_same {s t : State} (h : DownLaw s) (hd : t.dUp = s.dUp) (hs : Silent s → Silent t)
    (ha : t.answerQ = s.answerQ) (hi : t.issueQ = s.issueQ) (hb : t.backlog = s.backlog) (hw : t.walks = s.walks)
    (he : t.entries = s.entries) (hc : t.contexts = s.contexts) : DownLaw t := fun hf => by
  obtain ⟨silent, emptied, undrained⟩ := h (hd.symm.trans hf)
  exact ⟨hs silent, emptied.of_same ha hi hb hw he hc, undrained.of_same hc⟩

/-- With the D-port DOWN no request is taken, and no other happening opens with an entry (R176). -/
theorem Opens.down {s : State} {c : Point} (ho : Opens s c) (hd : s.dUp = false) (h : DownLaw s) :
    Silent c.1 ∧ Emptied c ∧ Undrained c.1 := by
  obtain ⟨silent, emptied, undrained⟩ := h hd
  cases ho with
  | same => exact ⟨silent, emptied, undrained⟩
  | completion => exact ⟨{ silent with }, emptied.of_same rfl rfl rfl rfl rfl rfl, undrained⟩
  | due => exact ⟨{ silent with }, emptied.of_same rfl rfl rfl rfl rfl rfl, undrained⟩
  | refused x hq => rw [silent.dReqIn] at hq; cases hq
  | accepted i r w hq => rw [silent.dReqIn] at hq; cases hq

theorem Opens.dUp {s : State} {c : Point} (ho : Opens s c) : c.1.dUp = s.dUp := by cases ho <;> rfl

theorem DownLaw.resetRotation {before s : State} (h : DownLaw s) : DownLaw (resetRotation before s) := by
  unfold Machine.resetRotation
  split
  · exact h.of_same rfl (fun hs => { hs with }) rfl rfl rfl rfl rfl rfl
  · exact h

theorem DownLaw.work {s u : State} {c : Point} (h : DownLaw s) (ho : Opens s c) (ht : Turns c (u, [])) :
    DownLaw u := fun hd => by
  have outside := ht.outside
  obtain ⟨silent, emptied, undrained⟩ := ho.down (ho.dUp.symm.trans (outside.dUp.symm.trans hd)) h
  exact ⟨silent.of_outside outside, Emptied.turns ht emptied, undrained.turns ht⟩

theorem DownLaw.loseUpstream {s : State} (h : DownLaw s) : DownLaw (loseUpstream s) := fun hd => by
  have up : (Machine.loseUpstream s).dUp = s.dUp := offerRecord_dUp ..
  obtain ⟨silent, emptied, undrained⟩ := h (up.symm.trans hd)
  obtain ⟨issueQ, answerQ, backlog, walks, entries⟩ := loseUpstream_places s
  have contexts (r : ReqId) : (Machine.loseUpstream s).contexts[r] = { s.contexts[r] with quiesce := none } := by
    simp only [Machine.loseUpstream, offerRecord_contexts, getElem_ofFn]
  have idle (i : EntryId) : (s.entries[i]).state.inFlight = false ∧ (s.entries[i]).state ≠ .answering := by
    rcases emptied.entries i with he | he <;> simp only at he <;> rw [he] <;> exact ⟨rfl, by simp⟩
  have none : sweptEntries s = [] := List.filter_eq_nil_iff.mpr fun i _ => by rw [(idle i).1]; simp
  refine ⟨⟨?_, ?_, ?_, ?_, ?_⟩, ⟨rfl, ?_, issueQ, backlog, fun k => ?_, fun i => ?_, fun r => ?_⟩, fun r => ?_⟩
  · exact (offerRecord_dHoldReq ..).trans silent.dHoldReq
  · exact (offerRecord_dHoldCpl ..).trans silent.dHoldCpl
  · exact (offerRecord_dReqIn ..).trans silent.dReqIn
  · exact (offerRecord_dTx ..).trans silent.dTx
  · exact (offerRecord_refusalQ ..).trans silent.refusalQ
  · simp only [answerQ, none, List.append_nil]; exact emptied.answerQ
  · simp only [walks, getElem_replicate]
  · simp only [entries, sweepEntry_state, (idle i).1, (idle i).2]
    simp
  · simp only [contexts]; exact emptied.outstanding r
  · rw [contexts]; exact undrained r

theorem Emptied.loseDownstream (s : State) : Emptied (loseDownstream s, []) := by
  refine ⟨rfl, rfl, rfl, rfl, fun k => ?_, fun i => ?_, fun r => ?_⟩
  · simp only [Machine.loseDownstream, getElem_ofFn]
  · simp only [Machine.loseDownstream, getElem_ofFn]; exact loseEntry_state _ _
  · simp only [Machine.loseDownstream, getElem_ofFn]

theorem DownLaw.loseDown (s : State) : DownLaw (endDrains (endFences s (loseDownstream s))) := fun _ => by
  let P (t : State) : Prop := Silent t ∧ Emptied (t, [])
  have reply (m : Option MgmtId) (t : State) (ht : Silent t) : Silent (replyDone m t) :=
    ht.of_outside (replyDone_outside m t)
  have lost : P (loseDownstream s) := ⟨⟨rfl, rfl, rfl, rfl, rfl⟩, .loseDownstream s⟩
  have fenced : P (endFences s (loseDownstream s)) :=
    endFences_keeps (P := P) (fun t k ht => ⟨ht.1.of_outside (endFence_outside k t), ht.2.endFence k⟩) lost
  obtain ⟨silent, emptied⟩ : P (endDrains (endFences s (loseDownstream s))) :=
    endDrains_keeps (P := P)
      (fun t r ht => ⟨by rw [endDrain_eq]; exact reply _ _ { ht.1 with }, ht.2.endDrain r⟩) fenced
  exact ⟨silent, emptied, endDrains_undrained _⟩

theorem DownLaw.act {s t : State} (ha : Act s t) (h : DownLaw s) : DownLaw t := by
  cases ha with
  | downLink => exact .of_up rfl
  | work ho ht => exact (h.work ho ht).resetRotation
  | loseUp hu => exact h.loseUpstream
  | loseDown => exact .loseDown s
  | context r c hl hc =>
    intro hd
    obtain ⟨silent, emptied, undrained⟩ := h hd
    obtain ⟨count, drains⟩ := hc hd
    have none := emptied.outstanding r
    refine ⟨{ silent with }, emptied.setContext r (count.trans none), undrained.setContext r fun hs => ?_⟩
    exact (drains hs).elim (undrained r) fun hn => hn none
  | downstream hu => exact .of_up hu
  | issue hi => exact fun hd => absurd hi (by rw [(h hd).2.1.issueQ]; simp)
  | skipIssue hi => exact fun hd => absurd hi (by rw [(h hd).2.1.issueQ]; simp)
  | @grantWalk k rest hl hs =>
    intro hd
    obtain ⟨silent, emptied, undrained⟩ := h hd
    have granted := emptied.setWalk k (x := { s.walks[k] with state := .issued }) (emptied.waiters k)
    exact ⟨{ silent with }, granted.of_same rfl rfl rfl rfl rfl rfl, undrained⟩
  | answered hu => exact .of_up hu
  | skipAnswer hu => exact .of_up hu
  | run hu => exact .of_up hu
  | sendDown hu => exact .of_up hu
  | takeDown p hu => exact .of_up hu
  | withdraw k cmd scope =>
    intro hd
    obtain ⟨silent, emptied, undrained⟩ := h hd
    refine ⟨{ silent with }, ⟨rfl, emptied.answerQ, emptied.issueQ, emptied.backlog, fun j => ?_, fun i => ?_,
      emptied.outstanding⟩, undrained⟩
    · simp only [withdrawScope, getElem_ofFn]
      split <;> exact emptied.waiters j
    · simp only [withdrawScope, getElem_ofFn]
      split <;> exact emptied.entries i
  | _ => exact h.of_same rfl (fun hs => { hs with }) rfl rfl rfl rfl rfl rfl

theorem downstreamDown_kept {s t : State} (h : DownstreamDownLaw s) (hs : step s = .next t) : DownstreamDownLaw t :=
  downstreamDown_iff.mpr (step_keeps (P := DownLaw) (fun aps => downstreamDown_iff.mp (powerOn_downstreamDown aps))
    (fun _ _ hu => hu.of_same rfl (fun hs => { hs with }) rfl rfl rfl rfl rfl rfl)
    (fun _ hu => hu.of_same rfl (fun hs => { hs with }) rfl rfl rfl rfl rfl rfl)
    (fun _ _ ha hu => hu.act ha) hs (downstreamDown_iff.mp h))

end Sys2Proof.Machine
end

section
/-! SUPPORT. What stands in the bridge while the U-port is DOWN (R174), kept by every command. -/

namespace Sys2Proof.Machine

/-! ### With the U-port UP, only its loss and a power-on bring it DOWN -/

theorem Act.uUp {s t : State} (ha : Act s t) (h : s.uUp = true) : t.uUp = true := by
  cases ha with
  | upLink => rfl
  | @work c u ho ht =>
    have opened : c.1.uUp = s.uUp := by cases ho <;> rfl
    have worked : u.uUp = true := ht.outside.uUp.trans (opened.trans h)
    unfold resetRotation
    split
    · exact worked
    · exact worked
  | loseUp hu => exact (offerRecord_uUp ..).trans hu
  | loseDown =>
    refine endDrains_keeps (P := fun t => t.uUp = true) (fun t r ht => ?_)
      (endFences_keeps (P := fun t => t.uUp = true) (fun t k ht => (endFence_outside k t).uUp.trans ht) h)
    rw [endDrain_eq]
    exact (replyDone_outside _ _).uUp.trans ht
  | _ => exact h

/-! ### The U-port DOWN -/

/-- What the loss of the U-port empties or frees, and the entries that its sweep leaves. -/
structure UpClear (s : State) : Prop where
  uHoldReq : s.uHoldReq = false
  uHoldCpl : s.uHoldCpl = false
  uReqIn : s.uReqIn = []
  uCplIn : s.uCplIn = []
  uTx : s.uTx = none
  dCplIn : s.dCplIn = []
  downQ : s.downQ = []
  refusalCount : s.refusalCount = 0
  cache : s.cache = []
  backlog : s.backlog = []
  issueQ : s.issueQ = []
  ownList : s.ownList = []
  walks : ∀ k : WalkId, (s.walks[k]).state = .free
  entries : ∀ i : EntryId, ((s.entries[i]).state = .free ∨ (s.entries[i]).state = .answering)
    ∧ (s.entries[i]).upstreamOpen = false
  alert : s.alertSlot.state = .free
  fences : ∀ k : FenceId, (s.fences[k]).state = .free
  windows : ∀ w : WinId, (s.windows[w]).state ≠ .retiring
  mgmt : ∀ m : MgmtId, (s.mgmt[m]).state = .free
  mgmtOrder : s.mgmtOrder = []
  headWaiting : s.headWaiting = false
  replyOrder : s.replyOrder = []
  replyRefusals : s.replyRefusals = []
  quiesce : ∀ r : ReqId, (s.contexts[r]).quiesce = none

theorem upstreamDown_iff {s : State} : UpstreamDownLaw s ↔ (s.uUp = false → UpClear s) := by
  constructor
  · intro h hu
    obtain ⟨h1, h2, h3, h4, h5, h6, h7, h8, h9, h10, h11, h12, h13, h14, h15, h16, h17, h18, h19, h20, h21, h22, h23⟩ :=
      h hu
    exact ⟨h1, h2, h3, h4, h5, h6, h7, h8, h9, h10, h11, h12, h13, h14, h15, h16, h17, h18, h19, h20, h21, h22, h23⟩
  · intro h hu
    obtain ⟨h1, h2, h3, h4, h5, h6, h7, h8, h9, h10, h11, h12, h13, h14, h15, h16, h17, h18, h19, h20, h21, h22, h23⟩ :=
      h hu
    exact ⟨h1, h2, h3, h4, h5, h6, h7, h8, h9, h10, h11, h12, h13, h14, h15, h16, h17, h18, h19, h20, h21, h22, h23⟩

/-- The loss of the U-port clears it; a FREE entry has no open request (R42, R61, R174). -/
theorem UpClear.loseUpstream {s : State} (hf : ∀ i : EntryId, (s.entries[i]).state = .free → s.entries[i] = {}) :
    UpClear (loseUpstream s) := by
  obtain ⟨issueQ, -, backlog, walks, entries⟩ := loseUpstream_places s
  have swept (i : EntryId) : (sweepEntry s.entries[i]).upstreamOpen = false := by
    rw [sweepEntry_eq]
    split
    · rfl
    split
    · rfl
    split
    · rfl
    next hflight hab hans =>
      have free : (s.entries[i]).state = .free := by
        cases hs : (s.entries[i]).state <;> simp_all [EntryState.inFlight]
      rw [hf i free]
  refine ⟨offerRecord_uHoldReq .., offerRecord_uHoldCpl .., offerRecord_uReqIn .., offerRecord_uCplIn ..,
    offerRecord_uTx .., offerRecord_dCplIn .., offerRecord_downQ .., offerRecord_refusalCount ..,
    offerRecord_cache .., backlog, issueQ, offerRecord_ownList .., fun k => ?_, fun i => ⟨?_, ?_⟩, ?_, fun k => ?_,
    fun w => ?_, fun m => ?_, offerRecord_mgmtOrder .., offerRecord_headWaiting .., offerRecord_replyOrder ..,
    offerRecord_replyRefusals .., fun r => ?_⟩
  · rw [walks, getElem_replicate]
  · rw [entries, sweepEntry_state]
    split
    · exact .inr rfl
    · exact .inl rfl
  · rw [entries]; exact swept i
  · simp only [Machine.loseUpstream, offerRecord_alertSlot]
  · simp only [Machine.loseUpstream, offerRecord_fences, getElem_replicate]
  · simp only [Machine.loseUpstream, offerRecord_windows, getElem_ofFn]
    split
    · simp
    next h => exact h
  · simp only [Machine.loseUpstream, offerRecord_mgmt, getElem_replicate]
  · simp only [Machine.loseUpstream, offerRecord_contexts, getElem_ofFn]

theorem tickWalk_of_quiet {s : State} {k : WalkId} (hq : WalkQuiet s k) : tickWalk k s = s := by
  obtain ⟨ht, hr, hc⟩ := hq
  simp only [tickWalk, ht, hr, hc, Bool.false_eq_true, if_false]

section Clear

variable {s : State} (h : UpClear s)

include h

/-- Fields that no part of the law reads. -/
theorem UpClear.aside {pending : List Instr} {uUp : Bool} {answerTurn : AnswerTurn} {now : Tick} {tickTiming : Timing}
    {tableDue walkDue alertDue : Bool} :
    UpClear
      { s with
        pending := pending, uUp := uUp, answerTurn := answerTurn, now := now, tickTiming := tickTiming
        tableDue := tableDue, walkDue := walkDue, alertDue := alertDue } := { h with }

theorem UpClear.bump (c : Counter) : UpClear (bump c s) := by
  cases c <;> exact { h with }

theorem UpClear.setContext (r : ReqId) {c : Context} (hc : c.quiesce = none) : UpClear (setContext r c s) :=
  { h with quiesce := forall_set (P := fun c : Context => c.quiesce = none) h.quiesce hc }

theorem UpClear.setEntry (i : EntryId) {e : Entry} (he : (e.state = .free ∨ e.state = .answering)
    ∧ e.upstreamOpen = false) : UpClear (setEntry i e s) :=
  { h with entries := forall_set (P := fun e : Entry => (e.state = .free ∨ e.state = .answering)
      ∧ e.upstreamOpen = false) h.entries he }

/-- No drain is awaited, so its end makes no reply (R71). -/
theorem UpClear.endDrain (r : ReqId) : UpClear (endDrain r s) := by
  rw [endDrain_eq, h.quiesce r]
  exact h.setContext r rfl

theorem UpClear.conclude {before : State} (hb : UpClear before) (hf : s.fences = before.fences)
    (hr : s.faults = before.faults) (ha : s.alertSlot = before.alertSlot) : UpClear (conclude before s) := by
  rw [conclude_same hf hr ha fun _ => hb.ownList]
  exact h

/-- No entry is in flight, RETRY_WAIT or ABANDONED, so no timer of the table has run out (R102). -/
theorem UpClear.entryQuiet (i : EntryId) : EntryQuiet s i := by
  rcases (h.entries i).1 with hs | hs <;>
    simp [EntryQuiet, entryExpires, entryReleases, entryReclaims, hs, EntryState.inFlight, -Fin.getElem_fin]

theorem UpClear.walkQuiet (k : WalkId) : WalkQuiet s k := by
  simp [WalkQuiet, walkTimesOut, walkReleases, walkReclaims, h.walks k, SlotState.underWay, -Fin.getElem_fin]

theorem UpClear.alertQuiet :
    alertTimesOut s = false ∧ alertReleases s = false ∧ alertReclaims s = false := by
  simp [alertTimesOut, alertReleases, alertReclaims, h.alert, SlotState.underWay]

theorem UpClear.takeTableTick : UpClear (takeTableTick s) := by
  have taken : UpClear { s with tableDue := false } := { h with }
  have still := List.foldl_fixed' (f := fun (t : State) i => tickEntry i t) (a := { s with tableDue := false })
    (fun i => tickEntry_of_quiet (taken.entryQuiet i)) (List.finRange 64)
  unfold Machine.takeTableTick
  rw [still]
  split
  · exact taken.conclude h rfl rfl rfl
  · exact h

theorem UpClear.takeWalkTick : UpClear (takeWalkTick s) := by
  have taken : UpClear { s with walkDue := false } := { h with }
  have still := List.foldl_fixed' (f := fun (t : State) k => tickWalk k t) (a := { s with walkDue := false })
    (fun k => tickWalk_of_quiet (taken.walkQuiet k)) (List.finRange 4)
  unfold Machine.takeWalkTick
  rw [still]
  split
  · exact taken.conclude h rfl rfl rfl
  · exact h

theorem UpClear.takeAlertTick : UpClear (takeAlertTick s) := by
  have taken : UpClear { s with alertDue := false } := { h with }
  obtain ⟨ht, hr, hc⟩ := taken.alertQuiet
  unfold Machine.takeAlertTick tickAlert
  simp only [ht, hr, hc, Bool.false_eq_true, if_false]
  split
  · exact taken.conclude h rfl rfl rfl
  · exact h

/-- Nothing waits at the head of the management order (R152). -/
theorem UpClear.executable_none : executable s = none := by
  simp [executable, h.mgmtOrder]

theorem UpClear.whenHead (op : MgmtOp) (body : MgmtId → List Word → State → State) : whenHead op body s = s := by
  rw [Machine.whenHead, h.executable_none]

theorem UpClear.answerQuery (words : MgmtOp → Option (List Word)) : answerQuery words s = s := by
  rw [Machine.answerQuery, h.executable_none]

/-- The loss of the D-port frees the entries, none of which has an open request (R59). -/
theorem UpClear.loseDown : UpClear (endDrains (endFences s (loseDownstream s))) := by
  have entry (i : EntryId) : loseEntry s.now s.entries[i] = s.entries[i] ∨ loseEntry s.now s.entries[i] = {} := by
    obtain ⟨hs | hs, ho⟩ := h.entries i
    · exact .inl (by simp only [loseEntry, hs])
    · exact .inr (by simp only [loseEntry, hs, ho, Bool.false_eq_true, if_false])
  have lost : UpClear (loseDownstream s) :=
    { h with
      backlog := rfl
      issueQ := rfl
      refusalCount := by rw [loseDownstream, h.downQ]; rfl
      walks := fun k => by rw [loseDownstream, getElem_ofFn]; exact h.walks k
      entries := fun i => by
        rw [loseDownstream, getElem_ofFn]
        rcases entry i with he | he <;> rw [he]
        · exact h.entries i
        · exact ⟨.inl rfl, rfl⟩
      fences := fun k => by rw [loseDownstream, getElem_ofFn]; exact h.fences k
      quiesce := fun r => by rw [loseDownstream, getElem_ofFn]; exact h.quiesce r }
  have quiet : endFences s (loseDownstream s) = loseDownstream s :=
    endFences_of_quiet _ _ fun k => by simp [fenceEnds, lost.fences k, -Fin.getElem_fin]
  rw [quiet]
  exact endDrains_keeps (P := UpClear) (fun t r ht => ht.endDrain r) lost

theorem UpClear.lowerOutstanding (r : ReqId) : UpClear (lowerOutstanding r s) := by
  unfold Machine.lowerOutstanding
  simp only
  have lowered := h.setContext r (c := { s.contexts[r] with outstanding := (s.contexts[r]).outstanding - 1 })
    (h.quiesce r)
  split
  · exact lowered.endDrain r
  · exact lowered

theorem UpClear.sendAnswer (i : EntryId) (rest : List EntryId) : UpClear (sendAnswer i rest s) := by
  unfold Machine.sendAnswer
  simp only
  split
  next a _ _ =>
    have sent : UpClear { s with answerQ := rest, dTx := some (.completion (answerPacket s.entries[i] a)) } :=
      { h with }
    refine ((sent.bump _).setEntry i ?_).lowerOutstanding _
    rw [sentEntry, (h.entries i).2]
    exact ⟨.inl rfl, rfl⟩
  · exact { h with }

theorem UpClear.sendRefusal (r : Refused) (rest : List Refused) : UpClear (sendRefusal r rest s) := { h with }

theorem UpClear.grantDeviceCompletion : UpClear (grantDeviceCompletion s) := by
  unfold Machine.grantDeviceCompletion
  split
  · exact h
  · exact (h.sendAnswer _ _).aside
  · exact (h.sendRefusal _ _).aside
  · split
    · exact (h.sendAnswer _ _).aside
    · exact (h.sendRefusal _ _).aside

/-- No host request waits for the D-port (R172, R174). -/
theorem UpClear.answerArbiterGrant {t : State} (ht : execAnswerArbiterGrant s = .next t) : UpClear t := by
  have waits : deviceRequestWaits s = false := by simp [deviceRequestWaits, h.downQ]
  have run : raiseRun s = s := by simp [raiseRun, requestsToSend, h.downQ]
  unfold execAnswerArbiterGrant at ht
  simp only [waits, Bool.and_false, Bool.false_and, Bool.false_eq_true, if_false, run] at ht
  cases ht
  split
  · exact h
  split
  · exact h.grantDeviceCompletion
  · exact h

/-- A device request is refused (R44, check 1). -/
theorem UpClear.intake (hu : s.uUp = false) {t : State} (ht : execIntakeTakeRequest s = .next t) : UpClear t := by
  have refused (p : ReqPacket) (rest : List ReqPacket) :
      UpClear (Machine.conclude s (refuseRequest p .abort { s with dReqIn := rest })) := by
    have joined : UpClear { s with
        dReqIn := rest, refusalQ := s.refusalQ ++ [{ source := headerSource p.h0, tag := headerTag p.h0, status := .abort }] } :=
      { h with }
    have counted := joined.bump intakeRefusals
    unfold refuseRequest bumpRefused
    split
    · exact counted.conclude h rfl rfl rfl
    · exact (counted.bump _).conclude h rfl rfl rfl
  unfold execIntakeTakeRequest at ht
  cases ht
  split
  next p rest i _ _ =>
    split
    · rw [checkRequest, if_pos hu]; exact refused p rest
    · exact h
  · exact h
  · exact h

/-- While the U-port is DOWN, what its loss has cleared stays clear. -/
theorem UpClear.exec (hu : s.uUp = false) {c : Instr} {t : State} (ht : exec c s = .next t) (hd : t.uUp = false) :
    UpClear t := by
  cases c with
  | powerOn aps =>
    cases ht
    have clear := upstreamDown_iff.mp (powerOn_upstreamDown aps) hd
    exact clear.aside
  | uPortDown => cases ht; rw [if_neg (by simp [hu])]; exact h
  | uPortUp => cases ht; rw [if_neg (by simp [hu]), evalTrigger_uUp] at hd; cases hd
  | resetMessage => cases ht; rw [if_neg (by simp [hu])]; exact h
  | dPortDown =>
    cases ht
    split
    · exact h.loseDown
    · exact h
  | dPortUp => cases ht; exact { h with }
  | holdLineChange port cls on =>
    cases ht
    split
    · rw [if_neg (by simp [hu])]; exact h
    · rw [if_neg (by simp [hu])]; exact h
    · split
      · exact { h with }
      · exact h
    · split
      · exact { h with }
      · exact h
  | deviceRequestArrival p =>
    cases ht
    split
    · exact { h with }
    · exact h
  | deviceCompletionArrival p => cases ht; rw [if_neg (by simp [hu])]; exact h
  | hostRequestArrival p => cases ht; rw [if_neg (by simp [hu])]; exact h
  | hostCompletionArrival p => cases ht; rw [if_neg (by simp [hu])]; exact h
  | intakeTakeRequest => exact h.intake hu ht
  | issueArbiterGrant => cases ht; rw [if_pos hu]; exact h
  | answerArbiterGrant => exact h.answerArbiterGrant ht
  | passThroughRefusal => cases ht; rw [h.downQ]; exact h
  | managementDecode => cases ht; rw [h.uReqIn]; exact h
  | completionMatching => cases ht; rw [h.uCplIn]; exact h
  | tick => cases ht; exact h.takeTableTick.takeWalkTick.takeAlertTick.aside
  | requestAgeExpiry e => cases ht; split; exacts [h.takeTableTick, h]
  | entryRelease e => cases ht; split; exacts [h.takeTableTick, h]
  | entryReclaim e => cases ht; split; exacts [h.takeTableTick, h]
  | walkTimeout k => cases ht; split; exacts [h.takeWalkTick, h]
  | walkRelease k => cases ht; split; exacts [h.takeWalkTick, h]
  | walkReclaim k => cases ht; split; exacts [h.takeWalkTick, h]
  | alertTimeout => cases ht; split; exacts [h.takeAlertTick, h]
  | alertRelease => cases ht; split; exacts [h.takeAlertTick, h]
  | alertReclaim => cases ht; split; exacts [h.takeAlertTick, h]
  | fenceCommandResumption => cases ht; rw [if_neg (by simp [h.headWaiting])]; exact h
  | window => cases ht; rw [h.answerQuery]; exact h
  | requester => cases ht; rw [h.answerQuery]; exact h
  | counters => cases ht; rw [h.answerQuery]; exact h
  | cacheStorageUpset w page => cases ht; exact { h with cache := by rw [h.cache]; rfl }
  | _ => cases ht; rw [h.whenHead]; exact h

end Clear

theorem upstreamDown_kept {s t : State} (hf : FreeLaw s) (h : UpstreamDownLaw s) (hs : step s = .next t) :
    UpstreamDownLaw t := by
  refine upstreamDown_iff.mpr fun hd => ?_
  unfold step at hs
  split at hs
  · cases hs; exact upstreamDown_iff.mp h hd
  next c rest _ =>
    by_cases hu : s.uUp = false
    · have clear := upstreamDown_iff.mp h hu
      have taken : UpClear { s with pending := rest } := clear.aside
      exact taken.exec hu hs hd
    · have up : s.uUp = true := by simpa using hu
      rcases exec_acts hs with acts | ⟨aps, rfl⟩ | ⟨-, rfl⟩
      · have still := acts.keeps (P := fun u => u.uUp = true) (fun _ _ ha hu => ha.uUp hu) up
        rw [hd] at still
        cases still
      · have clear := upstreamDown_iff.mp (powerOn_upstreamDown aps) hd
        exact clear.aside
      · have clear := UpClear.loseUpstream (s := { s with pending := rest }) hf.1
        exact clear.aside

/-- Settles O58: the loss of a port clears what its law names, and while the port is DOWN no command finds anything
there to work on; with the D-port DOWN, no entry is in flight and none enters. -/
theorem downPortsStayClear : Obligations.DownPortsStayClear := fun _ _ hf hd h =>
  ⟨upstreamDown_kept hf hd.1 h, downstreamDown_kept hd.2 h⟩

end Sys2Proof.Machine
end

section
/-! SUPPORT. What waits (R52, R80, R102, R145, R152, R171, R173), the request class of the Issue Arbiter (R83 to R87), and
stray completions (R97). -/

namespace Sys2Proof.Machine

/-! ### What waits -/

/-- The completion class of the U-port has nothing that it may send (R80, R81). -/
theorem completionClass_waits {s : State}
    (h : (s.replyOrder = [] ∧ s.replyRefusals = [] ∧ s.dCplIn = []) ∨ s.uHoldCpl = true) :
    ((managementWaits s || passThroughWaits s) && !s.uHoldCpl) = false := by
  rcases h with ⟨ho, hr, hp⟩ | hh
  · simp [managementWaits, passThroughWaits, ho, hr, hp]
  · simp [hh]

theorem executable_none_of_waits {s : State} (h : s.mgmtOrder = [] ∨ s.headWaiting = true) :
    executable s = none := by
  rcases h with h | h <;> simp [executable, h]

theorem whenHead_waits {s : State} (h : executable s = none) (op : MgmtOp)
    (body : MgmtId → List Word → State → State) : whenHead op body s = s := by
  rw [whenHead, h]

theorem answerQuery_waits {s : State} (h : executable s = none) (words : MgmtOp → Option (List Word)) :
    answerQuery words s = s := by
  rw [answerQuery, h]

/-- A row of a timer that has not run out, or whose block has taken the tick, does not come about (R102). -/
theorem row_waits {due row : Bool} {s t : State} (h : due = false ∨ row = false) :
    (if row = true then (if due = true then t else s) else s) = s := by
  rcases h with h | h <;> simp [h]

theorem intake_waits {s : State}
    (h : s.dReqIn = [] ∨ 16 ≤ s.refusalQ.length ∨ ∀ i : EntryId, (s.entries[i]).state ≠ .free) :
    exec .intakeTakeRequest s = .next s := by
  show execIntakeTakeRequest s = _
  unfold execIntakeTakeRequest
  congr 1
  split
  next p rest i hq hi =>
    have free : (s.entries[i]).state = .free := by simpa using List.find?_some hi
    rcases h with h | h | h
    · rw [hq] at h; cases h
    · exact if_neg (Nat.not_lt.mpr h)
    · exact absurd free (h i)
  · rfl
  · rfl

theorem issueArbiter_waits {s : State}
    (h : s.uUp = false
      ∨ (((s.replyOrder = [] ∧ s.replyRefusals = [] ∧ s.dCplIn = []) ∨ s.uHoldCpl = true)
        ∧ ((s.issueQ = [] ∧ s.ownList = []) ∨ s.uHoldReq = true))) :
    exec .issueArbiterGrant s = .next s := by
  show execIssueArbiterGrant s = _
  unfold execIssueArbiterGrant
  congr 1
  rcases h with h | ⟨hc, hr⟩
  · rw [if_pos h]
  · rw [completionClass_waits hc]
    split
    · rfl
    rcases hr with ⟨hi, ho⟩ | hr
    · simp [grantRequest, hi, ho]
    · simp [hr]

theorem answerArbiter_waits {s : State}
    (h : s.dUp = false
      ∨ (((s.answerQ = [] ∧ s.refusalQ = []) ∨ s.dHoldCpl = true)
        ∧ (s.downQ = [] ∨ 0 < s.refusalCount ∨ s.dHoldReq = true))) :
    exec .answerArbiterGrant s = .next s := by
  show execAnswerArbiterGrant s = _
  unfold execAnswerArbiterGrant
  congr 1
  rcases h with h | ⟨hc, hr⟩
  · rw [if_pos h]
  · have completion : (deviceCompletionWaits s && !s.dHoldCpl) = false := by
      rcases hc with ⟨ha, hq⟩ | hc
      · simp [deviceCompletionWaits, ha, hq]
      · simp [hc]
    have request : (deviceRequestWaits s && !s.dHoldReq) = false := by
      rcases hr with hr | hr | hr
      · simp [deviceRequestWaits, hr]
      · simp [deviceRequestWaits, Nat.pos_iff_ne_zero.mp hr]
      · simp [hr]
    rw [Bool.and_assoc, request, completion]
    simp

theorem passThroughRefusal_waits {s : State}
    (h : s.downQ = [] ∨ s.refusalCount = 0 ∨ 4 ≤ s.replyRefusals.length) :
    exec .passThroughRefusal s = .next s := by
  show execPassThroughRefusal s = _
  unfold execPassThroughRefusal
  congr 1
  split
  · rfl
  next p rest hq =>
    refine if_neg fun ⟨hc, hr⟩ => ?_
    rcases h with h | h | h
    · rw [hq] at h; cases h
    · omega
    · exact Nat.not_lt.mpr h hr

theorem management_waits {s : State} (h : s.mgmtOrder = [] ∨ s.headWaiting = true) {c : Instr}
    (hc : c ∈ [Instr.loadWindow, .retireWindow, .invalidate, .configureRequester, .enableRequester,
      .resumeRequester, .quiesceRequester, .setTiming, .setArbiter, .setAlert, .ackAlert,
      .clearCounters, .clearFaults, .moveAperture, .status, .window, .requester, .counters, .fault,
      .time, .fences]) : exec c s = .next s := by
  have none := executable_none_of_waits h
  have head (op : MgmtOp) (body : MgmtId → List Word → State → State) :
      (.next (whenHead op body s) : Host.Outcome State Fault Refusal) = .next s := by rw [whenHead_waits none]
  have query (words : MgmtOp → Option (List Word)) :
      (.next (answerQuery words s) : Host.Outcome State Fault Refusal) = .next s := by rw [answerQuery_waits none]
  simp only [List.mem_cons, List.not_mem_nil, or_false] at hc
  rcases hc with rfl | rfl | rfl | rfl | rfl | rfl | rfl | rfl | rfl | rfl | rfl | rfl | rfl | rfl | rfl | hc
  iterate 15 exact head _ _
  rcases hc with rfl | rfl | rfl | rfl | rfl | rfl
  iterate 3 exact query _
  iterate 3 exact head _ _

theorem resumption_waits {s : State} (h : s.headWaiting = false ∨ ∀ j : FenceId, (s.fences[j]).state ≠ .free) :
    exec .fenceCommandResumption s = .next s := by
  show execFenceCommandResumption s = _
  unfold execFenceCommandResumption
  congr 1
  refine if_neg fun ⟨hw, hf⟩ => ?_
  rcases h with h | h
  · rw [h] at hw; cases hw
  · obtain ⟨k, hk⟩ := Option.isSome_iff_exists.mp hf
    exact h k (lowestFreeFence_free hk)

/-- Settles O17: each row's guard stands in its `exec` function, so the state comes back as it was. -/
theorem happeningsWait : Obligations.HappeningsWait := by
  intro s e k
  have row {due row : Bool} {t : State} (h : due = false ∨ row = false) :
      (.next (if row = true then (if due = true then t else s) else s) : Host.Outcome State Fault Refusal)
        = .next s := by rw [row_waits h]
  refine ⟨intake_waits, issueArbiter_waits, answerArbiter_waits, passThroughRefusal_waits, fun h => ?_, fun h => ?_,
    row, row, row, row, row, row, row, row, row, fun h c hc => management_waits h hc, resumption_waits, fun h => ?_⟩
  · show execCompletionMatching s = _
    rw [execCompletionMatching, h]
  · show execManagementDecode s = _
    rw [execManagementDecode, h]
  · rw [step, h]

/-! ### The request class (R83 to R87) -/

/-- With no completion to send and HOLD_REQ off, the arbiter grants a request (R80). -/
theorem issueArbiter_request {s : State} (hu : s.uUp = true)
    (hc : (s.replyOrder = [] ∧ s.replyRefusals = [] ∧ s.dCplIn = []) ∨ s.uHoldCpl = true)
    (hr : s.uHoldReq = false) : exec .issueArbiterGrant s = .next (grantRequest s) := by
  show execIssueArbiterGrant s = _
  simp only [execIssueArbiterGrant, completionClass_waits hc, hu, hr, Bool.true_eq_false, Bool.false_eq_true, if_false]

/-- The head of the issue queue is granted with an empty own list or below the guarantee (R84). -/
theorem grantRequest_forward {s : State} {i : EntryId} {irest : List EntryId} (hi : s.issueQ = i :: irest)
    (h : s.ownList = [] ∨ s.rotation < s.guarantee) :
    grantRequest s
      = { grantForward i irest s with rotation := if s.ownList = [] then 0 else s.rotation + 1 } := by
  unfold grantRequest
  cases ho : s.ownList with
  | nil => simp [hi]
  | cons o orest =>
    rw [ho] at h
    simp [hi, h.resolve_left (by simp)]

/-- The head of the own list is granted with an empty issue queue or at the guarantee (R84). -/
theorem grantRequest_own {s : State} {o : OwnRequest} {orest : List OwnRequest} (ho : s.ownList = o :: orest)
    (h : s.issueQ = [] ∨ s.guarantee ≤ s.rotation) :
    grantRequest s = { grantOwn o orest s with rotation := 0 } := by
  unfold grantRequest
  cases hi : s.issueQ with
  | nil => simp [ho]
  | cons i irest =>
    rw [hi] at h
    simp [ho, Nat.not_lt.mpr (h.resolve_left (by simp))]

/-- Settles O14: the completion class has nothing to send, and the rotation counter chooses the source. -/
theorem requestClassGrant : Obligations.RequestClassGrant := by
  intro s i irest a k orest hu hc hr
  have granted := issueArbiter_request hu hc hr
  refine ⟨fun hi hs ha hrot => ?_, fun ho hs hrot => ?_, fun ho hs hrot => ?_⟩
  · rw [granted, grantRequest_forward hi hrot]
    simp only [grantForward, hs, if_true, forwardPacket, ha, Option.getD_some]
    split <;> rfl
  · rw [granted, grantRequest_own ho hrot]
    simp only [grantOwn, grantWalk, hs, if_true]
    split <;> rfl
  · rw [granted, grantRequest_own ho hrot]
    simp only [grantOwn, grantAlert, hs, if_true]
    rfl

/-! ### Stray completions (R97) -/

/-- A stray completion is counted and recorded, and leaves the ingress (R97). -/
theorem conclude_stray {s : State} (rest : List CplPacket) (o : Owner) :
    conclude s (strayCompletion o { s with uCplIn := rest })
      = noteRecords [strayRecord o s] (bump strayCompletions { s with uCplIn := rest }) :=
  conclude_offerAll [strayRecord o s] rfl rfl rfl id

theorem ownerOf_nobody {src : Source} {tag : Tag} (h : src ≠ 31 ∨ 69 ≤ tag.toNat) : ownerOf src tag = .nobody := by
  unfold ownerOf bridgeSource
  split
  · rfl
  next hs =>
    have beyond : 69 ≤ tag.toNat := h.resolve_left hs
    rw [dif_neg (by omega), dif_neg (by omega), if_neg (by omega)]

theorem ownerOf_alert {src : Source} {tag : Tag} (hs : src = 31) (ht : tag.toNat = 68) :
    ownerOf src tag = .alert := by
  unfold ownerOf bridgeSource
  rw [if_neg (by simp [hs]), dif_neg (by omega), dif_neg (by omega), if_pos ht]

/-- The completion that no tag claims is taken at no owner (R93). -/
theorem matching_of_nobody {s : State} {p : CplPacket} {rest : List CplPacket} (hq : s.uCplIn = p :: rest)
    (h : headerSource p.h0 ≠ 31 ∨ 69 ≤ (headerTag p.h0).toNat) :
    exec .completionMatching s
      = .next (noteRecords [strayRecord .nobody s] (bump strayCompletions { s with uCplIn := rest })) := by
  show execCompletionMatching s = _
  simp only [execCompletionMatching, hq, takeCompletion, ownerOf_nobody h, conclude_stray]

theorem matching_of_alert {s : State} {p : CplPacket} {rest : List CplPacket} (h : CompletionFor s p rest 68) :
    exec .completionMatching s = .next (conclude s (matchAlert p { s with uCplIn := rest })) := by
  obtain ⟨hq, hs, ht⟩ := h
  show execCompletionMatching s = _
  simp only [execCompletionMatching, hq, takeCompletion, ownerOf_alert hs ht]

section Strays

variable {s : State} {p : CplPacket} {rest : List CplPacket}

/-- An entry that is neither ISSUED nor ABANDONED awaits no completion (R97). -/
theorem stray_entry {i : EntryId} (h : CompletionFor s p rest i.val) (hi : (s.entries[i]).state ≠ .issued)
    (ha : (s.entries[i]).state ≠ .abandoned) :
    exec .completionMatching s
      = .next (noteRecords [strayRecord (.entry i) s] (bump strayCompletions { s with uCplIn := rest })) := by
  rw [matching_of_entry h, ← conclude_stray]
  unfold matchEntry
  simp only
  split
  next hs => exact absurd hs hi
  next hs => exact absurd hs ha
  all_goals rfl

theorem stray_walk {k : WalkId} (h : CompletionFor s p rest (64 + k.val)) (hi : (s.walks[k]).state ≠ .issued)
    (ha : (s.walks[k]).state ≠ .abandoned) :
    exec .completionMatching s
      = .next (noteRecords [strayRecord (.walk k) s] (bump strayCompletions { s with uCplIn := rest })) := by
  rw [matching_of_walk h, ← conclude_stray]
  unfold matchWalk
  simp only
  split
  next hs => exact absurd hs hi
  next hs => exact absurd hs ha
  all_goals rfl

theorem stray_alert (h : CompletionFor s p rest 68) (hi : s.alertSlot.state ≠ .issued)
    (ha : s.alertSlot.state ≠ .abandoned) :
    exec .completionMatching s
      = .next (noteRecords [strayRecord .alert s] (bump strayCompletions { s with uCplIn := rest })) := by
  rw [matching_of_alert h, ← conclude_stray]
  unfold matchAlert
  simp only
  split
  next hs => exact absurd hs hi
  next hs => exact absurd hs ha
  all_goals rfl

end Strays

/-- The states in which an entry awaits no completion, though it is not FREE (R97). -/
theorem entry_aside {x : EntryState} (h : x ∈ [EntryState.translating, .queued, .retryWait, .answering]) :
    x ≠ .issued ∧ x ≠ .abandoned ∧ x ≠ .free := by
  cases x <;> simp at h ⊢

theorem slot_aside {x : SlotState} (h : x ∈ [SlotState.queued, .retryWait]) :
    x ≠ .issued ∧ x ≠ .abandoned ∧ x ≠ .free := by
  cases x <;> simp at h ⊢

/-- Settles O20: every owner in a state that awaits no completion hands it to the stray case, whose record says what
the tag names. -/
theorem strayCompletionDiscarded : Obligations.StrayCompletionDiscarded := by
  intro s p rest hq joined dropped u stray
  have offered (r : FaultRecord) (v : State) : (v.faults.length < 16 → offerRecord r v = joined r v)
      ∧ (16 ≤ v.faults.length → offerRecord r v = dropped v) := ⟨offerRecord_of_room r v, offerRecord_of_full r v⟩
  have length : u.faults.length = s.faults.length := congrArg List.length (bump_faults ..)
  have noted (r : FaultRecord) : stray r = noteRecords [r] u := by
    rw [noteRecords_eq]
    show (if s.faults.length < 16 then evalTrigger (joined r u) else dropped u) = _
    by_cases hr : s.faults.length < 16
    · rw [if_pos hr, if_pos ⟨by simp, length.trans_lt hr⟩]
      exact congrArg evalTrigger ((offered r u).1 (length.trans_lt hr)).symm
    · rw [if_neg hr, if_neg fun h => hr (length.symm.trans_lt h.2)]
      exact ((offered r u).2 (length.symm ▸ Nat.not_lt.mp hr)).symm
  have outcome {o : Owner} {r : FaultRecord} (ho : strayRecord o s = r)
      (h : exec .completionMatching s = .next (noteRecords [strayRecord o s] u)) :
      exec .completionMatching s = .next (stray r) := by rw [h, ho, noted]
  refine ⟨fun h => outcome (o := .nobody) rfl (matching_of_nobody hq h), fun i h => ⟨fun hs => ?_, fun hs => ?_⟩,
    fun k h => ⟨fun hs => ?_, fun hs => ?_⟩, fun h => ⟨fun hs => ?_, fun hs => ?_⟩, offered⟩
  · exact outcome (o := .entry i) (if_pos hs) (stray_entry h (by rw [hs]; simp) (by rw [hs]; simp))
  · obtain ⟨hi, ha, hf⟩ := entry_aside hs
    exact outcome (o := .entry i) (if_neg hf) (stray_entry h hi ha)
  · exact outcome (o := .walk k) (if_pos hs) (stray_walk h (by rw [hs]; simp) (by rw [hs]; simp))
  · obtain ⟨hi, ha, hf⟩ := slot_aside hs
    exact outcome (o := .walk k) (if_neg hf) (stray_walk h hi ha)
  · exact outcome (o := .alert) (if_pos hs) (stray_alert h (by rw [hs]; simp) (by rw [hs]; simp))
  · obtain ⟨hi, ha, hf⟩ := slot_aside hs
    exact outcome (o := .alert) (if_neg hf) (stray_alert h hi ha)

end Sys2Proof.Machine
end

section
/-! SUPPORT. Failed walks (R37), the RETRY at a walk (R36), and the timers of a walk slot (R38, R39). -/

namespace Sys2Proof.Machine

/-! ### The end of a failed walk (R37)

The waiters are answered while they stand in the slot's list. What the slot becomes does not depend on that list, so the
answers are read off the state whose slot is cleared, where the waiters stand nowhere. -/

/-- The state with walk slot `k` cleared. -/
def bare (k : WalkId) (s : State) : State := { s with walks := s.walks.set k {} }

theorem bare_answerEntry (k : WalkId) (i : EntryId) (a : Answer) (o : Bool) (s : State) :
    bare k (answerEntry i a o s) = answerEntry i a o (bare k s) := by
  have walks : (leavePlaces i (dropMarks i s)).walks.set k {} = (leavePlaces i (dropMarks i (bare k s))).walks := by
    refine vector_ext fun j => ?_
    rw [set_getElem, leavePlaces_walk, leavePlaces_walk]
    show _ = { (bare k s).walks[j] with waiters := ((bare k s).walks[j]).waiters.filter (· ≠ i) }
    rw [bare, set_getElem]
    split <;> rfl
  by_cases hf : (s.entries[i]).state.inFlight = true
  · have hf' : ((bare k s).entries[i]).state.inFlight = true := hf
    simp only [answerEntry, hf, hf', if_true]
    rw [bare, walks]
    rfl
  · rw [answerEntry_of_not i a o s (by simpa using hf), answerEntry_of_not i a o (bare k s) (by simpa [bare] using hf)]

theorem bare_answerAll (k : WalkId) (is : List EntryId) (st : Status) (s : State) :
    bare k (answerAll is st s) = answerAll is st (bare k s) := by
  induction is generalizing s with
  | nil => rfl
  | cons i is ih => exact (ih (answerWith i st s)).trans (congrArg (answerAll is st) (bare_answerEntry k i _ _ s))

theorem answerEntry_slot (i : EntryId) (a : Answer) (o : Bool) (s : State) (k : WalkId) :
    ∃ ws, (answerEntry i a o s).walks[k] = { s.walks[k] with waiters := ws } := by
  rw [answerEntry_walks]
  split
  · exact ⟨_, leavePlaces_walk i k s⟩
  · exact ⟨_, rfl⟩

theorem answerAll_slot (is : List EntryId) (st : Status) (s : State) (k : WalkId) :
    ∃ ws, (answerAll is st s).walks[k] = { s.walks[k] with waiters := ws } := by
  induction is generalizing s with
  | nil => exact ⟨_, rfl⟩
  | cons i is ih =>
    obtain ⟨ws, hws⟩ := ih (answerWith i st s)
    obtain ⟨vs, hvs⟩ := answerEntry_slot i { status := st } false s k
    have first : (answerWith i st s).walks[k] = { s.walks[k] with waiters := vs } := hvs
    exact ⟨ws, by rw [answerAll, List.foldl_cons]; exact hws.trans (by rw [first])⟩

/-- A failed walk's slot keeps its fields but for its waiters until it ends (R37). -/
theorem walkFailed_slot (d : Nat) (k : WalkId) (s : State) :
    ∃ ws, (walkFailed d k s).walks[k] = { s.walks[k] with waiters := ws } := by
  rw [walkFailed, (stopAll_frame _ _ _).1]
  obtain ⟨ws, hws⟩ := answerAll_slot (s.walks[k]).waiters .unmapped
    (offerRecord (walkRecord .walkFailed d k s) (bump walkFailures s)) k
  refine ⟨ws, hws.trans ?_⟩
  rw [offerRecord_walks, bump_walks]

/-- A failed walk but for its slot: the record, the count, the answers and the stops (R37). -/
theorem walkFailed_bare {d : Nat} {k : WalkId} {v : State} (hpl : PlaceLaw v) (hm : MarkLaw v) (hb : v.backlog = []) :
    bare k (walkFailed d k v)
      = offerAll [walkNote .walkFailed d k v] (bump walkFailures (unmappedWalk .walkFailed k v)) := by
  let is := (v.walks[k]).waiters
  let note := walkNote .walkFailed d k v
  let z : State := { offerRecord note (bump walkFailures v) with walks := v.walks.set k {} }
  have noted : bare k (offerRecord (walkRecord .walkFailed d k v) (bump walkFailures v)) = z := by
    rw [walkRecord_eq, bare, offerRecord_walks, bump_walks]
  have entries : z.entries = v.entries := (offerRecord_entries note _).trans (bump_entries ..)
  have answerQ : z.answerQ = v.answerQ := (offerRecord_answerQ note _).trans (bump_answerQ ..)
  have contexts : z.contexts = v.contexts := (offerRecord_contexts note _).trans (bump_contexts ..)
  have loose : ∀ i ∈ is, Loose z i := fun i hi =>
    loose_waiter hpl hm hi entries ((offerRecord_issueQ note _).trans (bump_issueQ ..))
      (((offerRecord_backlog note _).trans (bump_backlog ..)).trans hb) rfl
  have answered : answerAll is .unmapped z
      = { z with entries := unmappedEntries is v, answerQ := v.answerQ ++ is } := by
    rw [answerAll_of_loose (hpl.waiters k).1 loose, entries, answerQ]
    rfl
  have stopped : stopAll .walkFailed (waiterRequesters k v) (answerAll is .unmapped z)
      = { z with
          entries := unmappedEntries is v
          answerQ := v.answerQ ++ is
          contexts := stoppedContexts .walkFailed is v } := by
    rw [answered]
    exact stopAll_waiters .walkFailed is (s := v) contexts
  have gathered : offerAll [note] (bump walkFailures (unmappedWalk .walkFailed k v))
      = { z with
          entries := unmappedEntries is v
          answerQ := v.answerQ ++ is
          contexts := stoppedContexts .walkFailed is v } :=
    offerAll_comm
      (g := fun u => { u with
        walks := v.walks.set k {}
        entries := unmappedEntries is v
        answerQ := v.answerQ ++ is
        contexts := stoppedContexts .walkFailed is v })
      (fun _ _ _ _ => rfl) (fun _ => ⟨rfl, rfl, rfl, rfl⟩) [note] (bump walkFailures v)
  have stops (t : State) : bare k (stopAll .walkFailed (waiterRequesters k v) t)
      = stopAll .walkFailed (waiterRequesters k v) (bare k t) := by
    rw [stopAll, stopAll, foldl_applyStop, foldl_applyStop]
    rfl
  rw [gathered, ← stopped, ← noted, ← bare_answerAll, ← stops]
  rfl

/-- The slot's fields after the failure depend on nothing that the answers wrote but what they leave (R38). -/
theorem abandonWalk_walkFailed (d : Nat) (k : WalkId) (v : State) :
    abandonWalk k (walkFailed d k v)
      = { bare k (walkFailed d k v) with
          walks := (bare k (walkFailed d k v)).walks.set k
            { v.walks[k] with
              state := .abandoned, waiters := [], releaseTick := none
              abandonTick := some (walkFailed d k v).now } } := by
  obtain ⟨ws, hws⟩ := walkFailed_slot d k v
  rw [abandonWalk, hws]
  simp only [setWalk, bare, Vector.set_set]

theorem freeWalk_bare (k : WalkId) (t : State) : freeWalk k (bare k t) = freeWalk k t := by
  simp only [freeWalk, setWalk, bare, Vector.set_set]

/-- The end of a failed walk whose slot becomes FREE, with nothing in the backlog (R37). -/
theorem failWalk_freed {d : Nat} {k : WalkId} {v : State} (hpl : PlaceLaw v) (hm : MarkLaw v) (hb : v.backlog = []) :
    failWalk d false k v
      = offerAll [walkNote .walkFailed d k v]
          (bump walkFailures
            { unmappedWalk .walkFailed k v with ownList := v.ownList.filter (· ≠ .walk k) }) := by
  have freed : freeWalk k (walkFailed d k v)
      = offerAll [walkNote .walkFailed d k v]
          (bump walkFailures
            { unmappedWalk .walkFailed k v with ownList := v.ownList.filter (· ≠ .walk k) }) := by
    rw [← freeWalk_bare, walkFailed_bare hpl hm hb]
    have cleared : freeWalk k (bump walkFailures (unmappedWalk .walkFailed k v))
        = bump walkFailures
          { unmappedWalk .walkFailed k v with ownList := v.ownList.filter (· ≠ .walk k) } := by
      simp only [freeWalk, setWalk, unmappedWalk, bump_walks, bump_ownList, Vector.set_set]
      rfl
    rw [← cleared]
    exact (offerAll_comm (g := freeWalk k) (fun _ _ _ _ => rfl) (fun _ => ⟨rfl, rfl, rfl, rfl⟩) _ _).symm
  have served : (freeWalk k (walkFailed d k v)).backlog = [] := by
    rw [freed, offerAll_backlog, bump_backlog]; exact hb
  rw [failWalk_eq, if_neg (by simp), serveBacklog_nil k served, freed]

/-- The end of a failed walk whose slot becomes ABANDONED (R37, R38). -/
theorem failWalk_abandoned {d : Nat} {k : WalkId} {v : State} (hpl : PlaceLaw v) (hm : MarkLaw v)
    (hb : v.backlog = []) :
    failWalk d true k v
      = offerAll [walkNote .walkFailed d k v]
          (bump walkFailures
            { unmappedWalk .walkFailed k v with
              walks := v.walks.set k
                { v.walks[k] with
                  state := .abandoned, waiters := [], releaseTick := none, abandonTick := some v.now } }) := by
  have now : (walkFailed d k v).now = v.now := by
    have bared := congrArg State.now (walkFailed_bare (d := d) (k := k) hpl hm hb)
    exact bared.trans ((congrArg State.now (offerAll_eq _ _)).trans (bump_now ..))
  let x : WalkSlot :=
    { v.walks[k] with state := .abandoned, waiters := [], releaseTick := none, abandonTick := some v.now }
  rw [failWalk_eq, if_pos rfl, abandonWalk_walkFailed, walkFailed_bare hpl hm hb, now]
  show setWalk k x (offerAll [walkNote .walkFailed d k v] (bump walkFailures (unmappedWalk .walkFailed k v)))
    = offerAll [walkNote .walkFailed d k v]
        (bump walkFailures { unmappedWalk .walkFailed k v with walks := v.walks.set k x })
  rw [← offerAll_comm (g := setWalk k x) (fun _ _ _ _ => rfl) (fun _ => ⟨rfl, rfl, rfl, rfl⟩)]
  refine congrArg (offerAll _) ?_
  simp only [setWalk, unmappedWalk, bump_walks, Vector.set_set]
  rfl

/-! ### Completions at an ISSUED walk that fail it or back it off (R31, R36, R37) -/

/-- A status that is neither OK with one word nor RETRY fails an ISSUED walk (R31). -/
theorem matchWalk_error {s : State} {k : WalkId} {p : CplPacket} (hs : (s.walks[k]).state = .issued)
    (hr : headerStatus p.h0 ≠ 1) (he : headerStatus p.h0 ≠ 0 ∨ p.body.length ≠ 1) :
    matchWalk k p s = failWalk 1 false k s := by
  have status : hostStatus (headerStatus p.h0) ≠ .retry := by
    unfold hostStatus
    split
    · simp
    next h => exact absurd h hr
    · simp
  have word : hostStatus (headerStatus p.h0) = .ok → wordOf p = none := by
    intro hok
    have zero : headerStatus p.h0 = 0 := by
      unfold hostStatus at hok
      split at hok
      next h => exact h
      · cases hok
      · cases hok
    unfold wordOf
    split
    next w hb => exact absurd (by rw [hb]; rfl) (he.resolve_left (by simp [zero]))
    · rfl
  unfold matchWalk
  simp only [hs]
  split
  next w hok hw => rw [word hok] at hw; cases hw
  next hok => exact absurd hok status
  · rfl

theorem matchWalk_retry {s : State} {k : WalkId} {p : CplPacket} (hs : (s.walks[k]).state = .issued)
    (hr : headerStatus p.h0 = 1) : matchWalk k p s = retryWalk k s := by
  have status : hostStatus (headerStatus p.h0) = .retry := by rw [hr]; rfl
  simp only [matchWalk, hs, status]

/-- A failed walk whose slot becomes FREE closes with its record (R37, R141). -/
theorem conclude_failed {s : State} {d : Nat} {k : WalkId} {rest : List CplPacket} (hpl : PlaceLaw s) (hm : MarkLaw s)
    (hown : OwnListLaw s) (hb : s.backlog = []) (hs : (s.walks[k]).state = .issued) :
    conclude s (failWalk d false k { s with uCplIn := rest })
      = noteRecords [walkNote .walkFailed d k s]
          (bump walkFailures (unmappedWalk .walkFailed k { s with uCplIn := rest })) := by
  have unlisted : s.ownList.filter (· ≠ .walk k) = s.ownList :=
    List.filter_eq_self.mpr fun o ho => decide_eq_true fun e =>
      hown.not_listed (k := k) (by rw [hs]; simp) (by rw [← e]; exact ho)
  rw [failWalk_freed (v := { s with uCplIn := rest }) hpl hm hb]
  simp only [unlisted]
  exact conclude_offerAll [walkNote .walkFailed d k s] rfl rfl rfl id

/-- Settles O26: a failed walk ends with its slot FREE, and a RETRY below the limit waits or queues the slot. -/
theorem walkFailsOrRetries : Obligations.WalkFailsOrRetries := by
  intro s p rest k hpl hm hown hcpl hs
  have matched := matching_of_walk hcpl
  refine ⟨fun hb hr he => ?_, fun hb hr hl => ?_, fun hr hl hd => ?_, fun hr hl hd => ?_⟩
  · rw [matched, matchWalk_error (by exact hs) hr he, conclude_failed hpl hm hown hb hs]
    rfl
  · have exhausted : retryWalk k { s with uCplIn := rest } = failWalk 3 false k { s with uCplIn := rest } :=
      if_neg (Nat.not_lt.mpr hl)
    rw [matched, matchWalk_retry (by exact hs) hr, exhausted, conclude_failed hpl hm hown hb hs]
    rfl
  · have waits : backoff s.timing.walkBackoffBase ((s.walks[k]).retryCount + 1) ≠ 0 := Nat.pos_iff_ne_zero.mp hd
    have backed : retryWalk k { s with uCplIn := rest } = _ := (if_pos hl).trans (if_neg waits)
    rw [matched, matchWalk_retry (by exact hs) hr, backed]
    exact congrArg _ (conclude_same rfl rfl rfl id)
  · have backed : retryWalk k { s with uCplIn := rest } = _ := (if_pos hl).trans (if_pos hd)
    rw [matched, matchWalk_retry (by exact hs) hr, backed]
    exact congrArg _ (conclude_same rfl rfl rfl (by simp))

end Sys2Proof.Machine
end

section
/-! SUPPORT. The tick at which one walk slot's timer has run out (R36, R38, R39, R102). -/

namespace Sys2Proof.Machine

/-! ### The close with an emptied own list (R85, R141) -/

/-- A happening that ends no fence and frees no alert slot evaluates the trigger if it enqueued a record. -/
theorem closeEvents_offerAll {before s : State} (rs : List FaultRecord) (hf : s.fences = before.fences)
    (hr : s.faults = before.faults) (ha : s.alertSlot = before.alertSlot) :
    closeEvents before (offerAll rs s) = noteRecords rs s := by
  have fences : (offerAll rs s).fences = before.fences := (congrArg State.fences (offerAll_eq rs s)).trans hf
  have slot : (offerAll rs s).alertSlot = before.alertSlot := (congrArg State.alertSlot (offerAll_eq rs s)).trans ha
  have point : triggerPoint before (offerAll rs s) = true ↔ rs ≠ [] ∧ s.faults.length < 16 := by
    rw [triggerPoint, slot, ← hr, ← offerAll_grows rs s]
    by_cases hs : before.alertSlot.state = .free <;> simp [hs]
  unfold closeEvents
  simp only [endFences_of_same before _ fences, point]
  rw [noteRecords_eq]

/-! ### One slot whose timer has run out (R102) -/

/-- What the timers of the Walk Unit read at other slots than `k` is the same. -/
structure SameWalkTimers (k : WalkId) (s t : State) : Prop where
  walks : ∀ j : WalkId, j ≠ k → t.walks[j] = s.walks[j]
  now : t.now = s.now
  timing : t.tickTiming = s.tickTiming

theorem SameWalkTimers.quiet {k : WalkId} {s t : State} (h : SameWalkTimers k s t) {j : WalkId} (hj : j ≠ k)
    (hq : WalkQuiet s j) : WalkQuiet t j := by
  obtain ⟨hw, hn, ht⟩ := h
  simpa only [WalkQuiet, walkTimesOut, walkReleases, walkReclaims, reclaimReached, hw j hj, hn, ht] using hq

/-- Slots that are quiet, before and after, leave the work to slot `k`. -/
theorem foldl_tickWalk {k : WalkId} {s x : State} (hx : tickWalk k s = x)
    (hs : ∀ j : WalkId, j ≠ k → WalkQuiet s j) (hq : ∀ j : WalkId, j ≠ k → WalkQuiet x j) :
    (List.finRange 4).foldl (fun t j => tickWalk j t) s = x := by
  have still (l : List WalkId) (hl : k ∉ l) : l.foldl (fun t j => tickWalk j t) x = x := by
    induction l with
    | nil => rfl
    | cons j l ih =>
      rw [List.mem_cons, not_or] at hl
      rw [List.foldl_cons, tickWalk_of_quiet (hq j (Ne.symm hl.1)), ih hl.2]
  have acts (l : List WalkId) (hk : k ∈ l) (hnd : l.Nodup) : l.foldl (fun t j => tickWalk j t) s = x := by
    induction l with
    | nil => cases hk
    | cons j l ih =>
      obtain ⟨hj, hnd⟩ := List.nodup_cons.mp hnd
      rw [List.foldl_cons]
      by_cases hjk : j = k
      · subst hjk
        rw [hx, still l hj]
      · rw [tickWalk_of_quiet (hs j hjk)]
        exact ih ((List.mem_cons.mp hk).resolve_left (Ne.symm hjk)) hnd
  exact acts _ (List.mem_finRange k) (List.nodup_finRange 4)

/-- The Walk Unit takes the tick, and slot `k` alone acts (R38, R102). -/
theorem takeWalkTick_of {k : WalkId} {s x : State} (hd : s.walkDue = true)
    (hs : ∀ j : WalkId, j ≠ k → WalkQuiet s j) (hx : tickWalk k { s with walkDue := false } = x)
    (ht : SameWalkTimers k s x) : takeWalkTick s = conclude s x := by
  rw [takeWalkTick, if_pos hd, foldl_tickWalk hx hs fun j hj => ht.quiet hj (hs j hj)]

/-- A record and a count leave the timers of walk slots as they are. -/
theorem SameWalkTimers.recorded {k : WalkId} {s u : State} (rs : List FaultRecord) (c : Counter)
    (h : SameWalkTimers k s u) : SameWalkTimers k s (offerAll rs (bump c u)) := by
  have now : (offerAll rs (bump c u)).now = u.now := (congrArg State.now (offerAll_eq rs _)).trans (bump_now ..)
  have timing : (offerAll rs (bump c u)).tickTiming = u.tickTiming :=
    (congrArg State.tickTiming (offerAll_eq rs _)).trans (bump_tickTiming ..)
  exact ⟨fun j hj => by rw [offerAll_walks, bump_walks]; exact h.walks j hj, now.trans h.now, timing.trans h.timing⟩

/-- A write to slot `k` leaves the timers of the others as they are. -/
theorem SameWalkTimers.ofSet {k : WalkId} {s u : State} {x : WalkSlot} (hw : u.walks = s.walks.set k x)
    (hn : u.now = s.now) (ht : u.tickTiming = s.tickTiming) : SameWalkTimers k s u :=
  ⟨fun j hj => by rw [hw, set_getElem, if_neg hj], hn, ht⟩

/-- An ABANDONED slot neither times out nor is released (R38). -/
theorem walkReclaims_state {s : State} {k : WalkId} (h : walkReclaims s k = true) :
    (s.walks[k]).state = .abandoned := by
  simp only [walkReclaims, Bool.and_eq_true, decide_eq_true_eq] at h
  exact h.1

theorem tickWalk_timeout {s : State} {k : WalkId} (h : walkTimesOut s k = true) :
    tickWalk k s = failWalk 2 (decide ((s.walks[k]).state = .issued)) k s := if_pos h

theorem tickWalk_release {s : State} {k : WalkId} (ht : walkTimesOut s k = false) (h : walkReleases s k = true) :
    tickWalk k s = releaseWalk k s := by
  simp only [tickWalk, ht, h, Bool.false_eq_true, if_false, if_true]

theorem tickWalk_reclaim {s : State} {k : WalkId} (h : walkReclaims s k = true) :
    tickWalk k s = reclaimWalk k s := by
  have abandoned := walkReclaims_state h
  have timeout : walkTimesOut s k = false := by rw [walkTimesOut, abandoned]; rfl
  have release : walkReleases s k = false := by simp only [walkReleases, abandoned]; rfl
  simp only [tickWalk, timeout, release, h, Bool.false_eq_true, if_false, if_true]

/-- The reclaim of a slot with no read in the own list, with nothing in the backlog (R39). -/
theorem reclaimWalk_eq {s : State} {k : WalkId} (hl : OwnRequest.walk k ∉ s.ownList) (hb : s.backlog = []) :
    reclaimWalk k s
      = offerAll [abandonedWalkRecord .reclaimed k s] (bump reclaims { s with walks := s.walks.set k {} }) := by
  let note := abandonedWalkRecord .reclaimed k s
  have freed : freeWalk k (offerRecord note (bump reclaims s))
      = { offerRecord note (bump reclaims s) with walks := s.walks.set k {} } := by
    rw [freeWalk_of_notListed (by rw [offerRecord_ownList, bump_ownList]; exact hl), offerRecord_walks, bump_walks]
  have served : ({ offerRecord note (bump reclaims s) with walks := s.walks.set k {} } : State).backlog = [] :=
    (offerRecord_backlog note _).trans ((bump_backlog ..).trans hb)
  have noted : { offerAll [note] (bump reclaims s) with walks := s.walks.set k {} }
      = offerAll [note] (bump reclaims { s with walks := s.walks.set k {} }) :=
    (offerAll_comm (g := fun u => { u with walks := s.walks.set k {} }) (fun _ _ _ _ => rfl)
      (fun _ => ⟨rfl, rfl, rfl, rfl⟩) [note] (bump reclaims s)).symm
  unfold reclaimWalk
  rw [freed, serveBacklog_nil k served]
  exact noted

/-- Settles O32: the one slot that is not quiet acts, and the close clears the rotation counter when its withdrawn read
empties the own list. -/
theorem walkTimers : Obligations.WalkTimers := by
  intro s k hpl hm hown hb hdue hq x u failed withdrawn
  refine ⟨fun ht hs => ?_, fun ht hs => ?_, fun ht hr => ?_, fun hr => ?_⟩
  · have acted : tickWalk k u = _ := (tickWalk_timeout (s := u) ht).trans
      ((congrArg (failWalk 2 · k u) (decide_eq_true hs)).trans (failWalk_abandoned (v := u) hpl hm hb))
    have taken := takeWalkTick_of hdue hq acted (.recorded _ _ (.ofSet rfl rfl rfl))
    show Host.Outcome.next (if walkTimesOut s k = true then takeWalkTick s else s) = _
    rw [if_pos ht, taken]
    exact congrArg _ (conclude_offerAll [walkNote .walkFailed 2 k s] rfl rfl rfl id)
  · have acted : tickWalk k u = _ := (tickWalk_timeout (s := u) ht).trans
      ((congrArg (failWalk 2 · k u) (decide_eq_false hs)).trans (failWalk_freed (v := u) hpl hm hb))
    have taken := takeWalkTick_of hdue hq acted (.recorded _ _ (.ofSet rfl rfl rfl))
    show Host.Outcome.next (if walkTimesOut s k = true then takeWalkTick s else s) = _
    have closed : closeEvents s (offerAll [walkNote .walkFailed 2 k u] (bump walkFailures
        { unmappedWalk .walkFailed k u with ownList := u.ownList.filter (· ≠ .walk k) })) = withdrawn :=
      closeEvents_offerAll _ rfl rfl rfl
    rw [if_pos ht, taken, conclude_eq, closed, resetRotation]
    exact congrArg _ (if_congr and_comm rfl rfl)
  · have acted : tickWalk k u = releaseWalk k u := tickWalk_release ht hr
    have taken := takeWalkTick_of hdue hq acted (.ofSet rfl rfl rfl)
    show Host.Outcome.next (if walkReleases s k = true then takeWalkTick s else s) = _
    rw [if_pos hr, taken]
    exact congrArg _ (conclude_same rfl rfl rfl (by simp [releaseWalk]))
  · have unlisted : OwnRequest.walk k ∉ u.ownList :=
      hown.not_listed (k := k) (by rw [walkReclaims_state hr]; simp)
    have acted : tickWalk k u = _ := (tickWalk_reclaim (s := u) hr).trans (reclaimWalk_eq unlisted hb)
    have taken := takeWalkTick_of hdue hq acted (.recorded _ _ (.ofSet rfl rfl rfl))
    show Host.Outcome.next (if walkReclaims s k = true then takeWalkTick s else s) = _
    rw [if_pos hr, taken]
    exact congrArg _ (conclude_offerAll [abandonedWalkRecord .reclaimed k u] rfl rfl rfl id)

end Sys2Proof.Machine
end

section
/-! SUPPORT. A bad cache entry, from the upset to the lookup that meets it (R21, R22). -/

namespace Sys2Proof.Machine

/-- The record of a bad cache entry of page `p` that entry `e` meets (R22). -/
def upsetNote (s : State) (w : WinId) (p : Nat) (e : Entry) : FaultRecord where
  kind := .cacheCheck
  requester := some e.requester
  reqTag := some e.reqTag
  window := some w
  dAddr := some e.dAddr
  hostAddr := some ((s.windows[w]).mapRoot + BitVec.ofNat 50 (8 * p))

/-- A lookup that meets a bad entry goes to the Walk Unit with the entry removed (R21, R22). -/
theorem lookup_upset {t : State} {i : EntryId} {w : WinId} {p : Nat} {c : CacheEntry}
    (hf : t.cache.find? (cacheKey w p) = some c) (hu : c.upset = true) :
    lookup missEntry i w p t = missEntry i w p (bump cacheMisses (storageUpsetFound i w p t)) := by
  simp only [lookup, hf, hu, if_true]

/-- Two counters count in either order (R136). -/
theorem bump_translation_comm {i j : Fin 7} (hij : i ≠ j) (t : State) :
    bump (.translation i) (bump (.translation j) t) = bump (.translation j) (bump (.translation i) t) := by
  have ctrs : (t.translationCtrs.set j (t.translationCtrs[j] + 1)).set i
        ((t.translationCtrs.set j (t.translationCtrs[j] + 1))[i] + 1)
      = (t.translationCtrs.set i (t.translationCtrs[i] + 1)).set j
        ((t.translationCtrs.set i (t.translationCtrs[i] + 1))[j] + 1) := by
    rw [set_getElem, if_neg hij, set_getElem, if_neg hij.symm]
    exact Vector.set_comm _ _ (Fin.val_ne_of_ne hij.symm)
  exact congrArg (fun c => { t with translationCtrs := c }) ctrs

/-- The Map Cache without the page (R22). -/
def droppedPage (w : WinId) (p : Nat) (s : State) : State :=
  { s with cache := s.cache.filter fun x => !cacheKey w p x }

/-- A lookup that meets a bad entry, with no walk on the page and a slot FREE, removes the entry, counts and records
it, and starts a walk (R21, R22, R26). -/
theorem lookup_upset_start {t : State} {i : EntryId} {k : WalkId} {w : WinId} {p : Nat} {c : CacheEntry}
    (hf : t.cache.find? (cacheKey w p) = some c) (hu : c.upset = true) (hc : Uncovered t w p)
    (hk : LowestFreeWalk t k)
    (hb : ∀ j ∈ t.backlog, ¬((t.entries[j]).window = w ∧ (t.entries[j]).page = p)) :
    lookup missEntry i w p t
      = offerAll [upsetNote t w p t.entries[i]]
          (bump cacheCheckErrors (bump cacheMisses (startWalk k i w p (droppedPage w p t)))) := by
  let note := upsetNote t w p t.entries[i]
  let x := bump cacheMisses (bump cacheCheckErrors (droppedPage w p t))
  have found : bump cacheMisses (storageUpsetFound i w p t) = offerAll [note] x := (offerAll_bump [note] _ _).symm
  have walks : (offerAll [note] x).walks = t.walks := offerAll_walks _ _
  have starts : missEntry i w p (offerAll [note] x) = startWalk k i w p (offerAll [note] x) := by
    refine missEntry_start ?_ ?_ fun j hj => ?_
    · simpa only [Uncovered, covers, walks] using hc
    · simpa only [LowestFreeWalk, walks] using hk
    · rw [offerAll_backlog] at hj
      rw [offerAll_entries]
      exact hb j hj
  have counted : startWalk k i w p x
      = bump cacheMisses (bump cacheCheckErrors (startWalk k i w p (droppedPage w p t))) := rfl
  rw [lookup_upset hf hu, found, starts, ← offerAll_startWalk, counted, bump_translation_comm (by decide)]

/-- The close of a lookup that removed a bad entry and started a walk (R22, R26, R141). -/
theorem conclude_upset_start {before t : State} (rs : List FaultRecord) (i : EntryId) (k : WalkId) (w : WinId) (p : Nat)
    (hf : t.fences = before.fences) (hr : t.faults = before.faults) (ha : t.alertSlot = before.alertSlot) :
    conclude before
        (offerAll rs (bump cacheCheckErrors (bump cacheMisses (startWalk k i w p (droppedPage w p t)))))
      = noteRecords rs (bump cacheCheckErrors (bump cacheMisses
          { t with
            cache := t.cache.filter fun x => !(decide (x.window = w) && decide (x.page = p))
            walks := t.walks.set k (startedWalk t i w p)
            ownList := t.ownList ++ [.walk k] })) :=
  conclude_offerAll rs ((bump_fences ..).trans ((bump_fences ..).trans hf))
    ((bump_faults ..).trans ((bump_faults ..).trans hr)) ((bump_alertSlot ..).trans ((bump_alertSlot ..).trans ha))
    fun h => absurd h (by simp [startWalk])

/-- Acceptance writes no other entry (R49). -/
theorem acceptedTo_others {i j : EntryId} (hj : j ≠ i) (rest : List ReqPacket) (r : ReqId) (e : Entry) (s : State) :
    (acceptedTo rest i r e s).entries[j] = s.entries[j] := by
  rw [acceptedTo, bump_entries, set_getElem, if_neg hj]

/-- The upset marks the entry of its window and page, and every entry keeps its place (R22). -/
theorem getElem?_map_upset {l : List CacheEntry} {v : WinId} {page n : Nat} {c d : CacheEntry} (hc : l[n]? = some c)
    (hd : (l.map fun c => if cacheKey v page c then { c with upset := true } else c)[n]? = some d) :
    (c.window = v ∧ c.page = page → d = { c with upset := true })
      ∧ (¬(c.window = v ∧ c.page = page) → d = c) := by
  rw [List.getElem?_map, hc, Option.map_some, Option.some_inj] at hd
  subst hd
  by_cases hkey : c.window = v ∧ c.page = page <;> simp [cacheKey, hkey]

/-- Settles O44: the removed entry's page misses and starts a walk, and the record is offered at the close. -/
theorem storageUpsetFoundAtLookup : Obligations.StorageUpsetFoundAtLookup := by
  intro s p rest i r w k
  refine ⟨fun v page => ⟨s.cache.map fun c => if cacheKey v page c then { c with upset := true } else c, rfl,
    List.length_map .., fun _ _ _ => getElem?_map_upset⟩, fun hpl hcl h hd => ?_⟩
  intro e c hc hcw hcp hcu hno hk hbl
  obtain ⟨apart, -⟩ := hcl
  have ⟨⟨_, _, hfree, _⟩, _⟩ := h
  have hi : i ∉ s.backlog := (hpl.not_waiting (by rw [hfree]; decide)).1
  have backlog : ∀ j ∈ s.backlog, ¬(((acceptedTo rest i r e s).entries[j]).window = w
      ∧ ((acceptedTo rest i r e s).entries[j]).page = e.page) := fun j hj => by
    rw [acceptedTo_others (ne_of_mem_of_not_mem hj hi)]
    exact hbl j hj
  have looked := lookup_upset_start (t := acceptedTo rest i r e s) (i := i) (k := k)
    (find?_cacheKey_of_mem apart hc hcw hcp) hcu hno hk backlog
  rw [acceptedTo_entry] at looked
  rw [intake_of_mapped h hd, looked]
  exact congrArg _ (conclude_upset_start [upsetNote s w e.page e] i k w e.page rfl rfl rfl)

end Sys2Proof.Machine
end

section
/-! SUPPORT. What every happening but an acceptance leaves: the queue of commands, and to each live entry the
requester and the tag that it had (R46, R52). -/

namespace Sys2Proof.Machine

/-! ### Live entries keep their names -/

/-- An entry after a happening: live only if it was, and then under the same requester and tag (R46). -/
def Entry.HeirOf (x e : Entry) : Prop :=
  x.state.counted = true → e.state.counted = true ∧ x.requester = e.requester ∧ x.reqTag = e.reqTag

/-- The queue of commands stays, and no entry takes a requester tag. -/
structure Inherits (s t : State) : Prop where
  pending : t.pending = s.pending
  entries : ∀ i : EntryId, (t.entries[i]).HeirOf s.entries[i]

theorem Entry.HeirOf.refl (e : Entry) : e.HeirOf e := fun h => ⟨h, rfl, rfl⟩

theorem Entry.HeirOf.trans {x y e : Entry} (h : y.HeirOf x) (h' : x.HeirOf e) : y.HeirOf e := fun hy => by
  obtain ⟨hx, hr, ht⟩ := h hy
  obtain ⟨he, hr', ht'⟩ := h' hx
  exact ⟨he, hr.trans hr', ht.trans ht'⟩

/-- A live entry that changes its state to any other. -/
theorem Entry.HeirOf.of_live {x e : Entry} (he : e.state.counted = true) (hr : x.requester = e.requester)
    (ht : x.reqTag = e.reqTag) : x.HeirOf e := fun _ => ⟨he, hr, ht⟩

theorem Entry.HeirOf.of_dead {x : Entry} (e : Entry) (hx : x.state.counted = false) : x.HeirOf e := fun h => by
  rw [hx] at h; cases h

theorem Inherits.same {s t : State} (hp : t.pending = s.pending) (he : t.entries = s.entries) : Inherits s t :=
  ⟨hp, fun i => by rw [he]; exact .refl _⟩

theorem Inherits.refl (s : State) : Inherits s s := .same rfl rfl

theorem Inherits.trans {s t u : State} (h : Inherits s t) (h' : Inherits t u) : Inherits s u :=
  ⟨h'.pending.trans h.pending, fun i => (h'.entries i).trans (h.entries i)⟩

theorem Inherits.set {s t : State} {i : EntryId} {x : Entry} (hp : t.pending = s.pending)
    (he : t.entries = s.entries.set i x) (hx : x.HeirOf s.entries[i]) : Inherits s t :=
  ⟨hp, fun j => by
    rw [he, set_getElem]
    split
    next h => rw [h]; exact hx
    · exact .refl _⟩

theorem Inherits.ite {b : Prop} [Decidable b] {s t u : State} (ht : Inherits s t) (hu : Inherits s u) :
    Inherits s (if b then t else u) := by
  split
  · exact ht
  · exact hu

/-! ### The work of a happening -/

theorem Inherits.dropMarks (i : EntryId) (s : State) : Inherits s (dropMarks i s) :=
  .set rfl rfl fun h => ⟨h, rfl, rfl⟩

theorem EntryState.counted_of_inFlight {x : EntryState} (h : x.inFlight = true) : x.counted = true := by
  rw [EntryState.counted, h]; rfl

theorem Inherits.answerEntry (i : EntryId) (a : Answer) (o : Bool) (s : State) : Inherits s (answerEntry i a o s) := by
  refine ⟨answerEntry_pending .., fun j => ?_⟩
  by_cases hj : j = i
  · subst hj
    by_cases hf : (s.entries[j]).state.inFlight = true
    · rw [(answerEntry_entry j a o s hf).1]
      exact .of_live (EntryState.counted_of_inFlight hf) rfl rfl
    · rw [answerEntry_of_not j a o s (by simpa using hf)]
      exact .refl _
  · rw [answerEntry_other i j a o s hj]
    exact .refl _

theorem Inherits.queueEntry (i : EntryId) (addr : HAddr) (s : State) : Inherits s (queueEntry i addr s) := by
  by_cases hs : (s.entries[i]).state = .translating
  · rw [queueEntry_of_translating i addr s hs]
    exact .set rfl rfl (.of_live (by rw [hs]; rfl) rfl rfl)
  · simpa only [Machine.queueEntry, hs, if_false] using Inherits.refl s

theorem Inherits.endFence (k : FenceId) (s : State) : Inherits s (endFence k s) := by
  rw [endFence_eq, replyDone_eq]
  exact .same rfl rfl

theorem Inherits.bump (c : Counter) (s : State) : Inherits s (bump c s) := .same (bump_pending ..) (bump_entries ..)

theorem Move.inherits {c d : Point} (h : Move c d) : Inherits c.1 d.1 := by
  cases h with
  | count c => exact .bump c _
  | record r => exact .same (offerRecord_pending ..) (offerRecord_entries ..)
  | stop kind r => exact .same (applyStop_pending ..) (applyStop_entries ..)
  | answer i a o => exact .answerEntry i a o _
  | queue i addr => exact .queueEntry i addr _
  | place i w p hs => exact .set rfl rfl (.of_live (by rw [hs]; rfl) rfl rfl)
  | waitEntry i c r hs => exact .set rfl rfl (.of_live (by rw [hs]; rfl) rfl rfl)
  | requeueEntry i hs => exact .set rfl rfl (.of_live (by rw [hs]; rfl) rfl rfl)
  | unmark i hs =>
    exact .set rfl (Vector.set_set _ i.isLt) (.of_live (by rw [hs]; rfl) rfl rfl)
  | freeEntry i hs => exact .set rfl (Vector.set_set _ i.isLt) (.of_dead _ rfl)
  | endFence k => exact .endFence k _
  | _ => exact .same rfl rfl

theorem Moves.inherits {s t : State} {L M : List EntryId} (h : Moves (s, L) (t, M)) : Inherits s t :=
  h.keeps (P := fun e => Inherits s e.1) (fun _ _ hm hs => hs.trans hm.inherits) (.refl _)

theorem Turns.inherits {s t : State} {L M : List EntryId} (h : Turns (s, L) (t, M)) : Inherits s t :=
  h.keeps (P := fun e => Inherits s e.1) (fun _ _ hm hs => hs.trans hm.inherits)
    (fun _ _ _ _ _ hs => hs.trans (.same rfl rfl)) (.refl _)

theorem Inherits.conclude (before s : State) : Inherits s (conclude before s) := by
  have reset (t : State) : Inherits t (resetRotation before t) := by
    rw [resetRotation_eq]
    exact .ite (.same rfl rfl) (.refl t)
  rw [conclude_eq]
  exact (Moves.closeEvents before s []).inherits.trans (reset _)

/-- The taking of a tick, or of a completion: what opens it and its work inherit, and so does its close. -/
theorem Inherits.close {s u t : State} (h : Inherits s u) (ht : Turns (u, []) (t, [])) :
    Inherits s (Machine.conclude s t) := (h.trans ht.inherits).trans (.conclude s t)

/-! ### Links (R174 to R177) -/

theorem sweepEntry_heir (e : Entry) : (sweepEntry e).HeirOf e := by
  rw [sweepEntry_eq]
  split
  next hf => exact .of_live (EntryState.counted_of_inFlight hf) rfl rfl
  split
  · exact .of_dead e rfl
  split
  · exact fun h => ⟨h, rfl, rfl⟩
  · exact .refl e

theorem loseEntry_heir (now : Tick) (e : Entry) : (loseEntry now e).HeirOf e :=
  .of_dead e (by rcases loseEntry_state now e with h | h <;> rw [h] <;> rfl)

theorem Inherits.loseUpstream (s : State) : Inherits s (loseUpstream s) := by
  obtain ⟨-, -, -, -, entries⟩ := loseUpstream_places s
  exact ⟨offerRecord_pending .., fun i => by rw [entries]; exact sweepEntry_heir _⟩

theorem Inherits.loseDown (s : State) : Inherits s (endDrains (endFences s (loseDownstream s))) := by
  have lost : Inherits s (loseDownstream s) := ⟨rfl, fun i => by
    rw [loseDownstream, getElem_ofFn]; exact loseEntry_heir _ _⟩
  have drained (t : State) (r : ReqId) : Inherits t (endDrain r t) := by
    rw [endDrain_eq, replyDone_eq]
    exact .same rfl rfl
  exact endDrains_keeps (P := Inherits s) (fun t r ht => ht.trans (drained t r))
    (endFences_keeps (P := Inherits s) (fun t k ht => ht.trans (.endFence k t)) lost)

theorem Inherits.evalTrigger (s : State) : Inherits s (evalTrigger s) := (Moves.evalTrigger s []).inherits

/-- The command answers, and what it leaves inherits from what it found. -/
def Answers (s : State) (o : Host.Outcome State Fault Refusal) : Prop :=
  ∃ t, o = .next t ∧ Inherits s t

theorem Answers.next {s t : State} (h : Inherits s t) : Answers s (.next t) := ⟨t, rfl, h⟩

theorem Answers.holdLine (port : Port) (cls : PktClass) (on : Bool) (s : State) :
    Answers s (execHoldLineChange port cls on s) := by
  refine .next ?_
  split
  · exact .ite (.same rfl rfl) (.refl s)
  · exact .ite (.same rfl rfl) (.refl s)
  · exact .ite (.same rfl rfl) (.refl s)
  · exact .ite (.same rfl rfl) (.refl s)

/-! ### Arbiters (R80, R171, R173) -/

theorem Inherits.grantForward (i : EntryId) (rest : List EntryId) (s : State) : Inherits s (grantForward i rest s) := by
  unfold Machine.grantForward
  simp only
  split
  next hs =>
    have issued {t : State} (ht : Inherits s t) (he : t.entries = s.entries) (tx : Option Packet) :
        Inherits s { t with entries := t.entries.set i { s.entries[i] with state := .issued }, uTx := tx } :=
      ht.trans (.set rfl rfl (.of_live (by rw [he, hs]; rfl) (by rw [he]) (by rw [he])))
    split
    · exact issued (t := Machine.bump forwarded { s with issueQ := rest }) (.same rfl rfl) rfl _
    · exact issued (t := { s with issueQ := rest }) (.same rfl rfl) rfl _
  · exact .same rfl rfl

theorem Inherits.grantOwn (o : OwnRequest) (rest : List OwnRequest) (s : State) : Inherits s (grantOwn o rest s) := by
  unfold Machine.grantOwn
  cases o with
  | walk k =>
    simp only [grantWalk]
    refine .ite ?_ (.same rfl rfl)
    split
    · exact .same rfl rfl
    · exact .same rfl rfl
  | alert =>
    simp only [grantAlert]
    exact .ite (.same rfl rfl) (.same rfl rfl)

theorem Inherits.grantRequest (s : State) : Inherits s (grantRequest s) := by
  have turned (t : State) (n : Nat) : Inherits t { t with rotation := n } := .same rfl rfl
  unfold Machine.grantRequest
  split
  · exact .refl s
  · exact (Inherits.grantForward _ _ s).trans (turned _ _)
  · exact (Inherits.grantOwn _ _ s).trans (turned _ _)
  · exact .ite ((Inherits.grantForward _ _ s).trans (turned _ _)) ((Inherits.grantOwn _ _ s).trans (turned _ _))

theorem Inherits.grantCompletion (s : State) : Inherits s (grantCompletion s) := by
  have turned (t : State) (x : CplTurn) : Inherits t { t with cplTurn := x } := .same rfl rfl
  have management : Inherits s (sendManagement s) := by
    unfold sendManagement
    split
    · exact .same rfl rfl
    · split
      · exact .same rfl rfl
      · exact .refl s
  have passThrough : Inherits s (sendPassThrough s) := by
    unfold sendPassThrough
    split
    · exact .same rfl rfl
    · exact .refl s
  exact .ite (management.trans (turned _ _)) (passThrough.trans (turned _ _))

theorem sentEntry_heir (now : Tick) (e : Entry) : (sentEntry now e).HeirOf e :=
  .of_dead e (by rcases sentEntry_state now e with h | h <;> rw [h] <;> rfl)

theorem Inherits.lowerOutstanding (r : ReqId) (s : State) : Inherits s (lowerOutstanding r s) := by
  refine .ite ?_ (.same rfl rfl)
  rw [endDrain_eq, replyDone_eq]
  exact .same rfl rfl

theorem Inherits.sendAnswer (i : EntryId) (rest : List EntryId) (s : State) : Inherits s (sendAnswer i rest s) := by
  unfold Machine.sendAnswer
  simp only
  split
  next a _ _ =>
    have sent : Inherits s (setEntry i (sentEntry s.now s.entries[i])
        (Machine.bump (answerCounter (s.entries[i]).requester a)
          { s with answerQ := rest, dTx := some (.completion (answerPacket s.entries[i] a)) })) :=
      .set (by rw [setEntry_pending, bump_pending]) (by rw [setEntry_entries, bump_entries]) (sentEntry_heir _ _)
    exact sent.trans (.lowerOutstanding _ _)
  · exact .same rfl rfl

theorem Inherits.grantDeviceCompletion (s : State) : Inherits s (grantDeviceCompletion s) := by
  have turned (t : State) (x : AnswerTurn) : Inherits t { t with answerTurn := x } := .same rfl rfl
  have refusal (r : Refused) (rest : List Refused) : Inherits s (sendRefusal r rest s) := .same rfl rfl
  unfold Machine.grantDeviceCompletion
  split
  · exact .refl s
  · exact (Inherits.sendAnswer _ _ s).trans (turned _ _)
  · exact (refusal _ _).trans (turned _ _)
  · split
    · exact (Inherits.sendAnswer _ _ s).trans (turned _ _)
    · exact (refusal _ _).trans (turned _ _)

theorem Answers.answerArbiterGrant (s : State) : Answers s (execAnswerArbiterGrant s) := by
  have request : Inherits s (grantDeviceRequest s) := by
    unfold grantDeviceRequest
    split
    · exact .same rfl rfl
    · exact .refl s
  have raised : Inherits s (raiseRun s) := .ite (.same rfl rfl) (.refl s)
  exact .next (.ite (.refl s) (.ite request (.ite (raised.trans (.grantDeviceCompletion _)) (.ite request (.refl s)))))

/-! ### Management (R148 to R158) -/

theorem Answers.managementDecode (s : State) : Answers s (execManagementDecode s) := by
  have taken (rest : List ReqPacket) : Inherits s { s with uReqIn := rest } := .same rfl rfl
  have refusal {p : ReqPacket} {st : Status} {b : Bool} {v u : State}
      (h : (if b = true then some (refuseHost p st v) else none) = some u) : Inherits v u := by
    split at h
    · cases h; exact .same rfl rfl
    · cases h
  have decoded {p : ReqPacket} {v u : State} (h : decodeHost p v = some u) : Inherits v u := by
    unfold decodeHost at h
    simp only at h
    split at h
    · split at h
      · split at h
        · cases h; exact .same rfl rfl
        · exact refusal h
      · exact refusal h
    · split at h
      · split at h
        · cases h; exact .same rfl rfl
        · cases h
      · exact refusal h
  refine .next ?_
  split
  · exact .refl s
  next p rest _ =>
    cases hd : decodeHost p { s with uReqIn := rest } with
    | none => exact .refl s
    | some u => exact (taken rest).trans (decoded hd)

theorem Inherits.resultHead (m : MgmtId) (r : Result) (s : State) : Inherits s (resultHead m r s) := .same rfl rfl

theorem Inherits.startFence (k : FenceId) (cmd : FenceCommand) (scope : Scope) (m : MgmtId) (s : State) :
    Inherits s (startFence k cmd scope m s) := by
  have withdrawn : Inherits s (withdrawScope k cmd scope s) := ⟨rfl, fun i => by
    simp only [withdrawScope, getElem_ofFn]
    split
    · exact fun h => ⟨h, rfl, rfl⟩
    · exact .refl _⟩
  unfold Machine.startFence
  refine .ite ?_ (withdrawn.trans (.same rfl rfl))
  rw [freeRetired_eq]
  exact withdrawn.trans (.same rfl rfl)

theorem Inherits.runFenceCommand (cmd : FenceCommand) (m : MgmtId) (c : Except Result Scope) (s : State) :
    Inherits s (runFenceCommand cmd m c s) := by
  unfold Machine.runFenceCommand
  split
  · exact .resultHead m _ s
  · split
    · exact .same rfl rfl
    · exact .startFence _ cmd _ m s

theorem Answers.fenceCommandResumption (s : State) : Answers s (execFenceCommandResumption s) := by
  refine .next (.ite ?_ (.refl s))
  split
  · exact .refl s
  · unfold resumeFence
    simp only
    split
    · exact .runFenceCommand _ _ _ s
    · exact .runFenceCommand _ _ _ s
    · exact .refl s

theorem Inherits.runLoadWindow (m : MgmtId) (ws : List Word) (s : State) : Inherits s (runLoadWindow m ws s) := by
  unfold Machine.runLoadWindow
  simp only
  split
  · exact .resultHead m _ s
  refine .ite (.resultHead m _ s) (.ite (.resultHead m _ s) ?_)
  split
  · exact .resultHead m _ s
  · exact .same rfl rfl

theorem Inherits.runConfigureRequester (m : MgmtId) (ws : List Word) (s : State) :
    Inherits s (runConfigureRequester m ws s) := by
  unfold Machine.runConfigureRequester
  simp only
  split
  · exact .resultHead m _ s
  refine .ite (.resultHead m _ s) ?_
  split
  · exact .resultHead m _ s
  · exact .same rfl rfl

theorem Inherits.runActivate (source : CtxState) (m : MgmtId) (ws : List Word) (s : State) :
    Inherits s (runActivate source m ws s) := by
  unfold Machine.runActivate
  split
  · exact .resultHead m _ s
  · exact .ite (.same rfl rfl) (.resultHead m _ s)

theorem Inherits.runQuiesce (m : MgmtId) (ws : List Word) (s : State) : Inherits s (runQuiesce m ws s) := by
  unfold Machine.runQuiesce
  simp only
  split
  · exact .resultHead m _ s
  split
  · exact .resultHead m _ s
  · exact .resultHead m _ s
  · exact .ite (.same rfl rfl) (.same rfl rfl)
  · exact .ite (.same rfl rfl) (.same rfl rfl)

theorem Inherits.runSetAlert (m : MgmtId) (ws : List Word) (s : State) : Inherits s (runSetAlert m ws s) := by
  have written (a : HAddr) (b : Bool) : Inherits s { s with alertAddress := a, alertEnabled := b } := .same rfl rfl
  unfold Machine.runSetAlert
  simp only
  split
  · exact .resultHead m _ s
  · exact .ite (.resultHead m _ s) (((written _ _).trans (.resultHead m _ _)).trans (.evalTrigger _))

theorem Inherits.clearGroup (g : Fin 18) (s : State) : Inherits s (clearGroup g s) := by
  unfold Machine.clearGroup
  exact .ite (.same rfl rfl) (.ite (.same rfl rfl) (.same rfl rfl))

theorem Inherits.answerQuery (words : MgmtOp → Option (List Word)) (s : State) :
    Inherits s (answerQuery words s) := by
  unfold Machine.answerQuery
  split
  · exact .refl s
  · split
    · exact .refl s
    · exact .same rfl rfl

/-! ### Takings (R93, R102) -/

theorem Answers.completionMatching (s : State) : Answers s (execCompletionMatching s) := by
  refine .next ?_
  split
  · exact .refl s
  next p rest _ =>
    have taken : Inherits s { s with uCplIn := rest } := .same rfl rfl
    exact taken.close (.takeCompletion p _)

theorem Inherits.takeTableTick (s : State) : Inherits s (takeTableTick s) := by
  have taken : Inherits s { s with tableDue := false } := .same rfl rfl
  unfold Machine.takeTableTick
  exact .ite (taken.close (Moves.foldl_same (fun i t => .tickEntry i t) _ _).turns) (.refl s)

theorem Inherits.takeWalkTick (s : State) : Inherits s (takeWalkTick s) := by
  have taken : Inherits s { s with walkDue := false } := .same rfl rfl
  unfold Machine.takeWalkTick
  exact .ite (taken.close (Turns.foldl_same (fun k t => .tickWalk k t) _ _)) (.refl s)

theorem Inherits.takeAlertTick (s : State) : Inherits s (takeAlertTick s) := by
  have taken : Inherits s { s with alertDue := false } := .same rfl rfl
  unfold Machine.takeAlertTick
  exact .ite (taken.close (Moves.tickAlert _ []).turns) (.refl s)

/-! ### Every command but the intake -/

theorem Answers.of_ite {b : Prop} [Decidable b] {s t : State} (h : Inherits s t) :
    Answers s (.next (if b then t else s)) := .next (.ite h (.refl s))

theorem Answers.head {op : MgmtOp} {body : MgmtId → List Word → State → State} {s : State}
    (hb : ∀ m ws, Inherits s (body m ws s)) : Answers s (.next (whenHead op body s)) := by
  rcases whenHead_cases op body s with he | ⟨m, _, _, he⟩
  · rw [he]; exact .next (.refl s)
  · rw [he]; exact .next (hb m _)

theorem exec_answers {c : Instr} (hc : c ≠ .intakeTakeRequest) (s : State) : Answers s (exec c s) := by
  cases c with
  | powerOn aps =>
    refine .next ⟨rfl, fun i => .of_dead _ ?_⟩
    show ((State.powerOn aps).entries[i]).state.counted = false
    rw [powerOn_entry]
    rfl
  | uPortDown => exact .of_ite ((Inherits.loseUpstream s).trans (.same rfl rfl))
  | uPortUp =>
    have up : Inherits s { s with uUp := true } := .same rfl rfl
    exact .next (.ite (.refl s) (up.trans (.evalTrigger _)))
  | resetMessage => exact .of_ite ((Inherits.loseUpstream s).trans (.evalTrigger _))
  | dPortDown => exact .of_ite (.loseDown s)
  | dPortUp => exact .next (.same rfl rfl)
  | holdLineChange port cls on => exact .holdLine port cls on s
  | deviceRequestArrival p => exact .of_ite (.same rfl rfl)
  | deviceCompletionArrival p => exact .of_ite (.same rfl rfl)
  | hostRequestArrival p => exact .of_ite (.same rfl rfl)
  | hostCompletionArrival p => exact .of_ite (.same rfl rfl)
  | intakeTakeRequest => exact absurd rfl hc
  | issueArbiterGrant =>
    exact .next (.ite (.refl s) (.ite (.grantCompletion s) (.ite (.refl s) (.grantRequest s))))
  | answerArbiterGrant => exact .answerArbiterGrant s
  | passThroughRefusal =>
    refine .next ?_
    split
    · exact .refl s
    · exact .ite (.same rfl rfl) (.refl s)
  | managementDecode => exact .managementDecode s
  | completionMatching => exact .completionMatching s
  | tick =>
    have advanced (t : State) : Inherits t (advanceTick t) := .same rfl rfl
    exact .next ((((Inherits.takeTableTick s).trans (.takeWalkTick _)).trans (.takeAlertTick _)).trans (advanced _))
  | requestAgeExpiry e => exact .of_ite (.takeTableTick s)
  | entryRelease e => exact .of_ite (.takeTableTick s)
  | entryReclaim e => exact .of_ite (.takeTableTick s)
  | walkTimeout k => exact .of_ite (.takeWalkTick s)
  | walkRelease k => exact .of_ite (.takeWalkTick s)
  | walkReclaim k => exact .of_ite (.takeWalkTick s)
  | alertTimeout => exact .of_ite (.takeAlertTick s)
  | alertRelease => exact .of_ite (.takeAlertTick s)
  | alertReclaim => exact .of_ite (.takeAlertTick s)
  | loadWindow => exact .head fun m ws => .runLoadWindow m ws s
  | retireWindow => exact .head fun m ws => .runFenceCommand _ m _ s
  | invalidate => exact .head fun m ws => .runFenceCommand _ m _ s
  | fenceCommandResumption => exact .fenceCommandResumption s
  | configureRequester => exact .head fun m ws => .runConfigureRequester m ws s
  | enableRequester => exact .head fun m ws => .runActivate .off m ws s
  | resumeRequester => exact .head fun m ws => .runActivate .stopped m ws s
  | quiesceRequester => exact .head fun m ws => .runQuiesce m ws s
  | setTiming => exact .head fun m ws => .ite (.same rfl rfl) (.resultHead m _ s)
  | setArbiter => exact .head fun m ws => .ite (.resultHead m _ s) (.same rfl rfl)
  | setAlert => exact .head fun m ws => .runSetAlert m ws s
  | ackAlert =>
    refine .head fun m ws => ?_
    have armed : Inherits s { s with alertArmed := true } := .same rfl rfl
    exact (armed.trans (.resultHead m _ _)).trans (.evalTrigger _)
  | clearCounters =>
    refine .head fun m ws => .ite (.same rfl rfl) ?_
    split
    · exact .resultHead m _ s
    next g _ => exact (Inherits.clearGroup g s).trans (.resultHead m _ _)
  | clearFaults => exact .head fun m ws => .same rfl rfl
  | moveAperture => exact .head fun m ws => .ite (.resultHead m _ s) (.same rfl rfl)
  | status => exact .head fun m ws => .same rfl rfl
  | window => exact .next (.answerQuery _ s)
  | requester => exact .next (.answerQuery _ s)
  | counters => exact .next (.answerQuery _ s)
  | fault =>
    refine .head fun m ws => ?_
    split
    · exact .same rfl rfl
    · exact .same rfl rfl
  | time => exact .head fun m ws => .same rfl rfl
  | fences => exact .head fun m ws => .same rfl rfl
  | cacheStorageUpset w page => exact .next (.same rfl rfl)

/-! ### The intake (R43 to R50) -/

theorem Inherits.refuseRequest (p : ReqPacket) (rest : List ReqPacket) (st : Status) (s : State) :
    Inherits s (refuseRequest p st { s with dReqIn := rest }) := by
  have joined : Inherits s { s with
      dReqIn := rest, refusalQ := s.refusalQ ++ [⟨headerSource p.h0, headerTag p.h0, st⟩] } := .same rfl rfl
  have counted (t : State) : Inherits t (bumpRefused (headerSource p.h0) t) :=
    (Moves.bumpRefused (headerSource p.h0) t []).inherits
  exact (joined.trans (.bump intakeRefusals _)).trans (counted _)

theorem Inherits.noted {s t : State} (h : Inherits s t) (r : FaultRecord) : Inherits s (offerRecord r t) :=
  h.trans (.same (offerRecord_pending ..) (offerRecord_entries ..))

theorem Inherits.stopped {s t : State} (h : Inherits s t) (f : FaultKind) (r : ReqId) : Inherits s (applyStop f r t) :=
  h.trans (.same (applyStop_pending ..) (applyStop_entries ..))

theorem Inherits.translateIn {i : EntryId} {s : State} (w : WinId) (hs : (s.entries[i]).state = .translating) :
    Inherits s (translateIn missEntry i w s) :=
  (Moves.translateIn (MissMoves.goToWalk 4) w (freeWalks_le_four s) hs []).inherits

/-- The acceptance writes the entry, and its translation renames none (R49, R50). -/
theorem Inherits.acceptRequest (i : EntryId) (r : ReqId) (p : ReqPacket) (w : WinId) (rest : List ReqPacket)
    (s : State) :
    Inherits { s with entries := s.entries.set i (acceptedAs s p r w) }
      (acceptRequest i r p w { s with dReqIn := rest }) := by
  have accepted : Inherits { s with entries := s.entries.set i (acceptedAs s p r w) }
      (acceptedTo rest i r (acceptedAs s p r w) s) := .same (bump_pending ..) (bump_entries ..)
  rw [acceptRequest_eq]
  exact accepted.trans (.translateIn w (by rw [acceptedTo_entry]; rfl))

/-- What the check of a request makes of the state: a refusal, or the work that follows its acceptance into an entry
under a tag that no live entry of its requester holds (R46, R49). -/
def TakesTag (i : EntryId) (s t : State) : Prop :=
  Inherits s t ∨ ∃ e : Entry, tagInUse s e.requester e.reqTag = false
    ∧ Inherits { s with entries := s.entries.set i e } t

theorem TakesTag.trans {i : EntryId} {s t u : State} (h : TakesTag i s t) (h' : Inherits t u) : TakesTag i s u := by
  rcases h with h | ⟨e, he, h⟩
  · exact .inl (h.trans h')
  · exact .inr ⟨e, he, h.trans h'⟩

theorem TakesTag.admitRequest (i : EntryId) (r : ReqId) (p : ReqPacket) (rest : List ReqPacket) (s : State) :
    TakesTag i s (admitRequest i r p { s with dReqIn := rest }) := by
  have refused (st : Status) := Inherits.refuseRequest p rest st s
  unfold Machine.admitRequest
  simp only
  split
  · exact .inl (refused _)
  split
  · exact .inl (refused _)
  split
  · exact .inl ((refused _).noted _)
  next unused =>
    split
    · exact .inl (refused _)
    split
    · exact .inl (((refused _).noted _).stopped _ _)
    next w _ =>
      split
      · exact .inl (refused _)
      split
      · refine .inr ⟨acceptedAs s p r w, (Bool.not_eq_true _).mp unused, ?_⟩
        exact .acceptRequest i r p w rest s
      · exact .inl (((refused _).noted _).stopped _ _)

theorem intake_takesTag (s : State) : ∃ t i, exec .intakeTakeRequest s = .next t ∧ TakesTag i s t := by
  have refused (p : ReqPacket) (rest : List ReqPacket) (st : Status) := Inherits.refuseRequest p rest st s
  have unmoved : TakesTag 0 s s := .inl (.refl s)
  show ∃ t i, execIntakeTakeRequest s = .next t ∧ TakesTag i s t
  unfold execIntakeTakeRequest
  split
  next p rest i _ _ =>
    refine ⟨_, i, rfl, ?_⟩
    split
    · refine TakesTag.trans ?_ (.conclude s _)
      unfold checkRequest
      split
      · exact .inl (refused _ _ _)
      split
      · exact .admitRequest i _ p rest s
      · exact .inl ((refused _ _ _).noted _)
      · exact .inl ((refused _ _ _).noted _)
    · exact .inl (.refl s)
  · exact ⟨s, 0, rfl, unmoved⟩
  · exact ⟨s, 0, rfl, unmoved⟩

/-! ### Every command answers, and every step keeps tags apart -/

/-- Settles O2: every meaning answers a state, and none of them writes the queue of commands. -/
theorem everyCommandAnswersNext : Obligations.EveryCommandAnswersNext := fun c s => by
  by_cases hc : c = .intakeTakeRequest
  · subst hc
    obtain ⟨t, i, ht, h | ⟨e, -, h⟩⟩ := intake_takesTag s
    · exact ⟨t, ht, h.pending⟩
    · exact ⟨t, ht, h.pending⟩
  · obtain ⟨t, ht, h⟩ := exec_answers hc s
    exact ⟨t, ht, h.pending⟩

theorem TagLaw.inherits {s t : State} (h : Inherits s t) (hs : TagLaw s) : TagLaw t := fun i j hij hi hj hr => by
  obtain ⟨hi', ri, ti⟩ := h.entries i hi
  obtain ⟨hj', rj, tj⟩ := h.entries j hj
  rw [ti, tj]
  exact hs i j hij hi' hj' (by rw [← ri, ← rj, hr])

/-- An entry under a tag that no live entry of its requester holds joins the others (R46). -/
theorem TagLaw.accept {s : State} (hs : TagLaw s) (i : EntryId) {e : Entry}
    (he : tagInUse s e.requester e.reqTag = false) : TagLaw { s with entries := s.entries.set i e } := by
  have unused (j : EntryId) (hj : (s.entries[j]).state.counted = true) (hr : (s.entries[j]).requester = e.requester) :
      (s.entries[j]).reqTag ≠ e.reqTag := fun ht => by
    rw [tagInUse_iff.mpr ⟨j, hj, hr, ht⟩] at he
    cases he
  intro j k hjk
  simp only [set_getElem]
  by_cases hj : j = i
  · rw [if_pos hj, if_neg (fun hk => hjk (hj.trans hk.symm))]
    exact fun _ hk hr => (unused k hk hr.symm).symm
  · rw [if_neg hj]
    split
    · exact fun hc _ hr => unused j hc hr
    · exact hs j k hjk

/-- Settles O52: a request is accepted only under a tag that no live entry of its requester holds, and nothing else
brings an entry to life or renames one. -/
theorem tagsKept : Obligations.TagsKept := fun s t hs h => by
  unfold step at h
  split at h
  · cases h; exact hs
  next c rest _ =>
    have taken : TagLaw { s with pending := rest } := hs
    by_cases hc : c = .intakeTakeRequest
    · subst hc
      obtain ⟨u, i, hu, hi | ⟨e, he, hi⟩⟩ := intake_takesTag { s with pending := rest }
      · rw [hu] at h; cases h; exact taken.inherits hi
      · rw [hu] at h; cases h; exact (taken.accept i he).inherits hi
    · obtain ⟨u, hu, hi⟩ := exec_answers hc { s with pending := rest }
      rw [hu] at h
      cases h
      exact taken.inherits hi

end Sys2Proof.Machine
end

section
/-! SUPPORT. The answer arbiter of the D-port: which class it grants, and what the grant of an answer, a refusal or a
host request does (R47, R48, R55, R56, R71, R171, R172). -/

namespace Sys2Proof.Machine

/-! ### The class and the source of a grant (R171) -/

/-- A request is due before the completions, after a run of 8 (R171). -/
def RequestDue (s : State) : Prop :=
  8 ≤ s.runCount ∧ s.downQ ≠ [] ∧ s.refusalCount = 0 ∧ s.dHoldReq = false

theorem deviceRequestWaits_iff (s : State) : deviceRequestWaits s = true ↔ s.downQ ≠ [] ∧ s.refusalCount = 0 := by
  simp [deviceRequestWaits]

theorem requestDue_iff (s : State) :
    (decide (Config.runLimit ≤ s.runCount) && deviceRequestWaits s && !s.dHoldReq) = true ↔ RequestDue s := by
  simp only [Bool.and_eq_true, decide_eq_true_eq, deviceRequestWaits_iff, Bool.not_eq_true', RequestDue,
    Config.runLimit, and_assoc]

/-- The run count after a completion grant (R171). -/
def raisedRun (s : State) : Nat :=
  if s.refusalCount < s.downQ.length then min (s.runCount + 1) 8 else s.runCount

theorem raiseRun_eq (s : State) : raiseRun s = { s with runCount := raisedRun s } := by
  unfold raiseRun raisedRun requestsToSend
  by_cases h : s.refusalCount < s.downQ.length
  · rw [if_pos h, if_pos (by omega)]
  · rw [if_neg h, if_neg (by omega)]

theorem answerArbiter_completion {s : State} (hu : s.dUp = true) (hh : s.dHoldCpl = false) (hd : ¬RequestDue s)
    (hw : s.answerQ ≠ [] ∨ s.refusalQ ≠ []) :
    exec .answerArbiterGrant s = .next (grantDeviceCompletion { s with runCount := raisedRun s }) := by
  have waits : (deviceCompletionWaits s && !s.dHoldCpl) = true := by simpa [deviceCompletionWaits, hh] using hw
  show execAnswerArbiterGrant s = _
  rw [execAnswerArbiterGrant, if_neg (by simp [hu]), if_neg (by rw [requestDue_iff]; exact hd), if_pos waits,
    raiseRun_eq]

theorem answerArbiter_request {s : State} (hu : s.dUp = true) (hq : s.downQ ≠ []) (hc : s.refusalCount = 0)
    (hh : s.dHoldReq = false)
    (hn : 8 ≤ s.runCount ∨ (s.answerQ = [] ∧ s.refusalQ = []) ∨ s.dHoldCpl = true) :
    exec .answerArbiterGrant s = .next (grantDeviceRequest s) := by
  have waits : (deviceRequestWaits s && !s.dHoldReq) = true := by
    rw [Bool.and_eq_true, deviceRequestWaits_iff, hh]
    exact ⟨⟨hq, hc⟩, rfl⟩
  show execAnswerArbiterGrant s = _
  rw [execAnswerArbiterGrant, if_neg (by simp [hu])]
  by_cases hd : RequestDue s
  · rw [if_pos ((requestDue_iff s).mpr hd)]
  · have idle : ¬(deviceCompletionWaits s && !s.dHoldCpl) = true := by
      rcases hn with hr | ⟨ha, hr⟩ | hh'
      · exact absurd ⟨hr, hq, hc, hh⟩ hd
      · simp [deviceCompletionWaits, ha, hr]
      · simp [hh']
    rw [if_neg (by rw [requestDue_iff]; exact hd), if_neg idle, if_pos waits]

theorem grantDeviceCompletion_answer {s : State} {i : EntryId} {rest : List EntryId} (hq : s.answerQ = i :: rest)
    (hr : s.refusalQ = [] ∨ s.answerTurn = .answer) :
    grantDeviceCompletion s = { sendAnswer i rest s with answerTurn := .refusal } := by
  unfold grantDeviceCompletion
  rw [hq]
  cases hq' : s.refusalQ with
  | nil => rfl
  | cons r rrest =>
    have turn : s.answerTurn = .answer := hr.resolve_left (by simp [hq'])
    simp only [turn]

theorem grantDeviceCompletion_refusal {s : State} {r : Refused} {rest : List Refused} (hq : s.refusalQ = r :: rest)
    (hr : s.answerQ = [] ∨ s.answerTurn = .refusal) :
    grantDeviceCompletion s = { sendRefusal r rest s with answerTurn := .answer } := by
  unfold grantDeviceCompletion
  rw [hq]
  cases hq' : s.answerQ with
  | nil => rfl
  | cons i arest =>
    have turn : s.answerTurn = .refusal := hr.resolve_left (by simp [hq'])
    simp only [turn]

theorem answerArbiter_answer {s : State} {i : EntryId} {rest : List EntryId} (hu : s.dUp = true)
    (hh : s.dHoldCpl = false) (hd : ¬RequestDue s) (hq : s.answerQ = i :: rest)
    (hr : s.refusalQ = [] ∨ s.answerTurn = .answer) :
    exec .answerArbiterGrant s
      = .next { sendAnswer i rest { s with runCount := raisedRun s } with answerTurn := .refusal } := by
  rw [answerArbiter_completion hu hh hd (.inl (by simp [hq]))]
  exact congrArg _ (grantDeviceCompletion_answer (s := { s with runCount := raisedRun s }) hq hr)

theorem answerArbiter_refusal {s : State} {r : Refused} {rest : List Refused} (hu : s.dUp = true)
    (hh : s.dHoldCpl = false) (hd : ¬RequestDue s) (hq : s.refusalQ = r :: rest)
    (hr : s.answerQ = [] ∨ s.answerTurn = .refusal) :
    exec .answerArbiterGrant s
      = .next { sendRefusal r rest { s with runCount := raisedRun s } with answerTurn := .answer } := by
  rw [answerArbiter_completion hu hh hd (.inr (by simp [hq]))]
  exact congrArg _ (grantDeviceCompletion_refusal (s := { s with runCount := raisedRun s }) hq hr)

/-! ### A refusal or a request sent (R47, R48, R172) -/

/-- Settles O16: with the grant's source found, its sending writes the queue, the register and the turn. -/
theorem refusalOrRequestSent : Obligations.RefusalOrRequestSent := by
  intro s r rest p prest hu
  refine ⟨fun hh hd hq hr => ?_, fun hq hc hh hn => ?_⟩
  · exact answerArbiter_refusal hu hh hd hq hr
  · rw [answerArbiter_request hu (by simp [hq]) hc hh hn, grantDeviceRequest, hq]

/-! ### An answer sent (R55, R56, R71) -/

/-- The count falls, and the drain that it brings to 0 ends (R66, R71). -/
theorem lowerOutstanding_eq (r : ReqId) (t : State) :
    lowerOutstanding r t =
      if (t.contexts[r]).state = .draining ∧ (t.contexts[r]).outstanding = 1 then
        replyDone (t.contexts[r]).quiesce
          { t with
            contexts := t.contexts.set r { t.contexts[r] with state := .off, outstanding := 0, quiesce := none } }
      else
        { t with
          contexts := t.contexts.set r { t.contexts[r] with outstanding := (t.contexts[r]).outstanding - 1 } } := by
  unfold lowerOutstanding
  simp only
  split
  next h =>
    obtain ⟨-, one⟩ := h
    rw [endDrain_eq]
    simp only [setContext, set_getElem, if_pos, one]
    rw [Vector.set_set]
  · rfl

/-- The turn is no part of what the end of a drain reads or writes. -/
theorem lowerOutstanding_turn (r : ReqId) (t : State) (x : AnswerTurn) :
    { lowerOutstanding r t with answerTurn := x } = lowerOutstanding r { t with answerTurn := x } := by
  rw [lowerOutstanding_eq, lowerOutstanding_eq]
  split
  · simp only [replyDone_eq]
  · rfl

/-- The answer of an ANSWERING entry is sent (R55, R56). -/
theorem sendAnswer_eq {s : State} {i : EntryId} {a : Answer} (hs : (s.entries[i]).state = .answering)
    (ha : (s.entries[i]).answer = some a) (rest : List EntryId) :
    sendAnswer i rest s =
      lowerOutstanding (s.entries[i]).requester
        (bump (answerCounter (s.entries[i]).requester a)
          { s with
            answerQ := rest, dTx := some (.completion (answerPacket s.entries[i] a))
            entries := s.entries.set i (sentEntry s.now s.entries[i]) }) := by
  unfold sendAnswer answerCounter
  simp only [hs, ha]
  split
  · rfl
  · rfl

/-- Settles O15: the grant's source is the head of the answer queue, whose entry and context it then writes. -/
theorem answerSentFreesOrAbandons : Obligations.AnswerSentFreesOrAbandons := by
  intro s i rest a hu hh hd hq hr hs ha e r c u
  have sent : { sendAnswer i rest { s with runCount := raisedRun s } with answerTurn := .refusal }
      = lowerOutstanding r u := by
    rw [sendAnswer_eq (s := { s with runCount := raisedRun s }) hs ha, lowerOutstanding_turn]
    refine congrArg (lowerOutstanding r) ?_
    simp only [u, answerCounter]
    split
    · rfl
    · rfl
  have contexts : u.contexts = s.contexts := bump_contexts ..
  have mgmt : u.mgmt = s.mgmt := bump_mgmt ..
  have replies : u.replyOrder = s.replyOrder := bump_replyOrder ..
  rw [answerArbiter_answer hu hh hd hq hr, sent, lowerOutstanding_eq]
  simp only [contexts]
  refine congrArg _ (if_congr Iff.rfl ?_ rfl)
  show replyDone c.quiesce _ = _
  cases c.quiesce with
  | none => rfl
  | some m =>
    simp only [replyDone, replySlot, mgmt, replies]
    rfl

end Sys2Proof.Machine
end

section
/-! SUPPORT. The loss of the D-port: the fences that lose their last marks, and the drains that end (R59, R60, R71, R78,
R127, R176). -/

namespace Sys2Proof.Machine

/-! ### The end of several drains (R71, R78) -/

/-- The management slots that the DRAINING contexts of a list hold, in the order of the list (R71). -/
def drainedSlots (rs : List ReqId) (t : State) : List MgmtId :=
  rs.filterMap fun r => if (t.contexts[r]).state = .draining then (t.contexts[r]).quiesce else none

/-- The drains of a list end: the contexts are OFF, and their slots REPLYING with DONE in the order of the list. -/
def drainAll (rs : List ReqId) (t : State) : State :=
  { t with
    contexts := Vector.ofFn fun r : Fin 16 =>
      if r ∈ rs ∧ (t.contexts[r]).state = .draining then { t.contexts[r] with state := .off, quiesce := none }
      else t.contexts[r]
    mgmt := Vector.ofFn fun m : Fin 8 =>
      if m ∈ drainedSlots rs t then
        { t.mgmt[m] with state := .replying, payload := [], reply := [resultWord .done] }
      else t.mgmt[m]
    replyOrder := t.replyOrder ++ drainedSlots rs t }

theorem drainAll_nil (t : State) : drainAll [] t = t := by
  have contexts : (Vector.ofFn fun r : Fin 16 =>
      if r ∈ ([] : List ReqId) ∧ (t.contexts[r]).state = .draining then
        { t.contexts[r] with state := .off, quiesce := none }
      else t.contexts[r]) = t.contexts := vector_ext fun r => by simp
  have mgmt : (Vector.ofFn fun m : Fin 8 =>
      if m ∈ drainedSlots [] t then
        { t.mgmt[m] with state := .replying, payload := [], reply := [resultWord .done] }
      else t.mgmt[m]) = t.mgmt := vector_ext fun m => by simp [drainedSlots]
  rw [drainAll, contexts, mgmt]
  simp only [drainedSlots, List.filterMap_nil, List.append_nil]

/-- A context that is not DRAINING ends no drain. -/
theorem drainAll_skip {r : ReqId} {rs : List ReqId} {t : State} (h : (t.contexts[r]).state ≠ .draining) :
    drainAll (r :: rs) t = drainAll rs t := by
  have slots : drainedSlots (r :: rs) t = drainedSlots rs t := by
    simp only [drainedSlots, List.filterMap_cons, if_neg h]
  have contexts : (drainAll (r :: rs) t).contexts = (drainAll rs t).contexts := by
    refine congrArg Vector.ofFn (funext fun q => if_congr ?_ rfl rfl)
    by_cases hq : q = r
    · subst hq; exact ⟨fun hc => absurd hc.2 h, fun hc => absurd hc.2 h⟩
    · simp [hq]
  simp only [drainAll] at contexts ⊢
  rw [slots, contexts]

/-- One drain ends, and then others. -/
theorem drainAll_endDrain {r : ReqId} {rs : List ReqId} (hr : r ∉ rs) {t : State}
    (h : (t.contexts[r]).state = .draining) : drainAll rs (endDrain r t) = drainAll (r :: rs) t := by
  have ended := (endDrain_eq r t).trans (replyDone_eq _ _)
  generalize hu : endDrain r t = u at ended
  have other {q : ReqId} (hq : q ≠ r) : u.contexts[q] = t.contexts[q] := by rw [ended, set_getElem, if_neg hq]
  have rest : drainedSlots rs u = drainedSlots rs t :=
    List.filterMap_congr fun q hq => by rw [other (fun e => hr (e ▸ hq))]
  have slots : drainedSlots (r :: rs) t = ((t.contexts[r]).quiesce).toList ++ drainedSlots rs t := by
    simp only [drainedSlots, List.filterMap_cons, if_pos h]
    cases (t.contexts[r]).quiesce <;> rfl
  have contexts : (drainAll rs u).contexts = (drainAll (r :: rs) t).contexts := by
    refine congrArg Vector.ofFn (funext fun q => ?_)
    by_cases hq : q = r
    · subst hq
      rw [if_neg (fun hc => hr hc.1), if_pos ⟨List.mem_cons_self, h⟩, ended, set_getElem, if_pos rfl]
    · rw [other hq]
      exact if_congr (by simp [hq]) rfl rfl
  have mgmt : (drainAll rs u).mgmt = (drainAll (r :: rs) t).mgmt := by
    refine congrArg Vector.ofFn (funext fun m => ?_)
    have um : u.mgmt[m] = if (t.contexts[r]).quiesce = some m then
        { t.mgmt[m] with state := .replying, payload := [], reply := [resultWord .done] } else t.mgmt[m] := by
      rw [ended]; simp only [Fin.getElem_fin, Vector.getElem_ofFn]
    rw [rest, slots, um]
    by_cases hm : (t.contexts[r]).quiesce = some m
    · simp only [hm, if_true, Option.toList_some, List.singleton_append, List.mem_cons_self, ite_self]
    · simp only [hm, if_false, List.mem_append, Option.mem_toList, false_or]
  have replies : (drainAll rs u).replyOrder = (drainAll (r :: rs) t).replyOrder := by
    have first : u.replyOrder = t.replyOrder ++ ((t.contexts[r]).quiesce).toList := by rw [ended]
    simp only [drainAll]
    rw [rest, slots, first, List.append_assoc]
  have frame : drainAll rs u = { t with
      contexts := (drainAll rs u).contexts, mgmt := (drainAll rs u).mgmt
      replyOrder := (drainAll rs u).replyOrder } := by
    have : u = { t with contexts := u.contexts, mgmt := u.mgmt, replyOrder := u.replyOrder } := by rw [ended]
    generalize u.contexts = a, u.mgmt = b, u.replyOrder = c at this
    rw [this]
    rfl
  rw [frame, contexts, mgmt, replies]
  rfl

/-- Every drain ends in order of requester id (R78). -/
theorem endDrains_eq (t : State) : endDrains t = drainAll (List.finRange 16) t := by
  have fold (rs : List ReqId) (hnd : rs.Nodup) (t : State) :
      rs.foldl (fun t r => if (t.contexts[r]).state = .draining then endDrain r t else t) t = drainAll rs t := by
    induction rs generalizing t with
    | nil => exact (drainAll_nil t).symm
    | cons r rs ih =>
      obtain ⟨hr, hnd⟩ := List.nodup_cons.mp hnd
      rw [List.foldl_cons, ih hnd]
      split
      next h => exact drainAll_endDrain hr h
      next h => exact (drainAll_skip h).symm
  exact fold _ (List.nodup_finRange 16) t

/-! ### The loss (R59, R60, R127) -/

/-- The loss of the D-port, but for the marks that its fences lose (R176). -/
def lostDown (s : State) : State :=
  { loseDownstream s with fences := s.fences }

theorem loseDownstream_eq (s : State) : loseDownstream s = lowerAll (marksLost · s) (lostDown s) := rfl

/-- The contexts after the loss: no outstanding count, and no drain (R60, R78). -/
def lostContexts (s : State) : Vector Context 16 :=
  Vector.ofFn fun r : Fin 16 =>
    if (s.contexts[r]).state = .draining then
      { s.contexts[r] with state := .off, outstanding := 0, quiesce := none }
    else { s.contexts[r] with outstanding := 0 }

theorem drainAll_lostDown (lost : FenceId → Nat) (s : State) :
    (drainAll (List.finRange 16) (shed lost (lostDown s))).contexts = lostContexts s := by
  refine congrArg Vector.ofFn (funext fun r => ?_)
  have zero : (shed lost (lostDown s)).contexts[r] = { s.contexts[r] with outstanding := 0 } := by
    simp only [shed, lostDown, loseDownstream, getElem_ofFn]
  rw [zero]
  exact if_congr (and_iff_right (List.mem_finRange r)) rfl rfl

theorem drainedSlots_lostDown (lost : FenceId → Nat) (s : State) :
    drainedSlots (List.finRange 16) (shed lost (lostDown s))
      = (List.finRange 16).filterMap fun r =>
          if (s.contexts[r]).state = .draining then (s.contexts[r]).quiesce else none := by
  refine List.filterMap_congr fun r _ => ?_
  simp only [shed, lostDown, loseDownstream, getElem_ofFn]

/-- Settles O7: the fences that lost their last mark end first, and then every drain. -/
theorem dPortDownFreesAndAbandons : Obligations.DPortDownFreesAndAbandons := by
  intro s hu lost u drained
  have ended : endFences s (loseDownstream s) = shed lost (lostDown s) := by
    rw [loseDownstream_eq]
    exact endFences_lowerAll _ rfl
  have settled : u = { shed lost (lostDown s) with contexts := lostContexts s } :=
    (congrArg (shed lost) rfl).trans (shed_comm (g := fun t => { t with contexts := lostContexts s }) lost
      (fun _ _ _ _ _ => rfl) (fun _ => ⟨rfl, rfl, rfl, rfl⟩) (lostDown s))
  have contexts := drainAll_lostDown lost s
  have slots : drainedSlots (List.finRange 16) (shed lost (lostDown s)) = drained := drainedSlots_lostDown lost s
  show execDPortDown s = _
  rw [execDPortDown, if_pos hu, settled]
  simp only [ended, endDrains_eq, drainAll, slots] at contexts ⊢
  rw [contexts]

end Sys2Proof.Machine
end

section
/-! SUPPORT. An entry in flight that is answered, its marks lost to their fences; the RETRY at an ISSUED entry (R54,
R88, R89, R92, R104, R119). -/

namespace Sys2Proof.Machine

/-! ### The answer of an entry in flight (R54, R119) -/

/-- The entry leaves its places, its fences lose its marks, and it joins the answer queue (R54). -/
theorem answerEntry_eq {t : State} {i : EntryId} (h : (t.entries[i]).state.inFlight = true) (a : Answer) (o : Bool) :
    answerEntry i a o t =
      lowerAll (marksOf t.entries[i])
        { leavePlaces i t with
          entries := t.entries.set i ((t.entries[i]).answered a o), answerQ := t.answerQ ++ [i] } := by
  have twice : (t.entries.set i { t.entries[i] with marks := noMarks }).set i ((t.entries[i]).answered a o)
      = t.entries.set i ((t.entries[i]).answered a o) := Vector.set_set _ i.isLt
  rw [← twice]
  simp only [answerEntry, h, if_true, dropMarks_eq]
  rfl

/-- The entry stands in no queue or list that an answer takes it from (R54). -/
structure Unplaced (t : State) (i : EntryId) : Prop where
  issueQ : i ∉ t.issueQ
  backlog : i ∉ t.backlog
  waiters : ∀ k : WalkId, i ∉ (t.walks[k]).waiters

/-- An ISSUED entry waits nowhere (R25, R28, R53). -/
theorem PlaceLaw.unplaced {s : State} (h : PlaceLaw s) {i : EntryId} (hi : (s.entries[i]).state = .issued) :
    Unplaced s i := by
  obtain ⟨nb, nw⟩ := h.not_waiting (i := i) (by rw [hi]; decide)
  obtain ⟨-, queued, -⟩ := h
  refine ⟨?_, nb, nw⟩
  rw [queued, hi]
  decide

/-- The close of a happening in which one entry was recorded and answered (R54, R120, R141). -/
theorem conclude_answered {before t : State} {i : EntryId} {e : Entry} (he : t.entries[i] = e)
    (hf : e.state.inFlight = true) (hp : Unplaced t i) (a : Answer) (o : Bool) (r : FaultRecord)
    (hfe : t.fences = before.fences) (hfa : t.faults = before.faults) (hal : t.alertSlot = before.alertSlot)
    (how : t.ownList = before.ownList) :
    conclude before (answerEntry i a o (offerRecord r t))
      = shed (marksOf e) (noteRecords [r]
          { t with entries := t.entries.set i (e.answered a o), answerQ := t.answerQ ++ [i] }) := by
  have here : (offerRecord r t).entries[i] = e := by rw [offerRecord_entries, he]
  have places : leavePlaces i (offerRecord r t) = offerRecord r t :=
    leavePlaces_of_absent i _ (by rw [offerRecord_issueQ]; exact hp.issueQ)
      (by rw [offerRecord_backlog]; exact hp.backlog) (by rw [offerRecord_walks]; exact hp.waiters)
  have answered : answerEntry i a o (offerRecord r t)
      = offerAll [r] (lowerAll (marksOf e)
          { t with entries := t.entries.set i (e.answered a o), answerQ := t.answerQ ++ [i] }) := by
    rw [answerEntry_eq (by rw [here]; exact hf), places, here, offerRecord_entries, offerRecord_answerQ]
    exact (offerAll_comm
      (g := fun u => lowerAll (marksOf e)
        { u with entries := t.entries.set i (e.answered a o), answerQ := t.answerQ ++ [i] })
      (fun _ _ _ _ => rfl) (fun _ => ⟨rfl, rfl, rfl, rfl⟩) [r] t).symm
  rw [answered]
  exact conclude_lowerAll (marksOf e) [r] hfe hfa hal fun h => by rw [← how]; exact h

/-! ### The release of an entry that backs off (R89, R104) -/

theorem releaseEntry_aged {t : State} {i : EntryId} (h : ageReached t i = true) :
    releaseEntry i t = expireEntry i t := by
  unfold releaseEntry
  simp only
  rw [if_pos h]

theorem releaseEntry_unmarked {t : State} {i : EntryId} (h : ageReached t i = false)
    (hm : (t.entries[i]).marks = noMarks) :
    releaseEntry i t =
      { t with
        entries := t.entries.set i { t.entries[i] with state := .queued, releaseTick := none }
        issueQ := t.issueQ ++ [i] } := by
  unfold releaseEntry
  simp only
  rw [if_neg (by rw [h]; exact Bool.false_ne_true), if_pos hm]

/-! ### The RETRY (R88, R92) -/

/-- The entry while the backoff of its next RETRY runs (R88). -/
def Entry.backedOff (e : Entry) (c : Context) (now : Tick) : Entry :=
  { e with
    state := .retryWait, retryCount := e.retryCount + 1
    releaseTick := some (now + BitVec.ofNat 32 (min (c.backoffBase * 2 ^ e.retryCount) 255)) }

section Retry

variable {s : State} {p : CplPacket} {rest : List CplPacket} {i : EntryId} {e : Entry} {c : Context}

/-- A RETRY is counted, and taken by the entry (R88). -/
theorem matching_of_retry (h : CompletionFor s p rest i.val) (hs : (s.entries[i]).state = .issued)
    (hr : headerStatus p.h0 = 1) :
    exec .completionMatching s = .next (conclude s (retryEntry i { s with uCplIn := rest })) := by
  have status : hostStatus (headerStatus p.h0) = .retry := by rw [hr]; rfl
  have state : (({ s with uCplIn := rest } : State).entries[i]).state = .issued := hs
  rw [matching_of_entry h]
  simp only [matchEntry, state, status]

variable (he : s.entries[i] = e) (hc : s.contexts[e.requester] = c)

include he hc

/-- Below the limit the entry backs off, and a backoff of 0 is over at once (R88). -/
theorem retryEntry_below (hl : e.retryCount < c.retryLimit) :
    retryEntry i s =
      if min (c.backoffBase * 2 ^ e.retryCount) 255 = 0 then
        releaseEntry i (setEntry i (e.backedOff c s.now) (bump retriesReceived s))
      else setEntry i (e.backedOff c s.now) (bump retriesReceived s) := by
  subst hc he
  simp only [retryEntry]
  rw [if_pos hl]
  rfl

/-- At the limit the retries are exhausted (R92). -/
theorem retryEntry_exhausted (hl : c.retryLimit ≤ e.retryCount) :
    retryEntry i s =
      answerEntry i (exhaustAnswer c.exhaustion e) false
        (offerRecord (entryRecord .retryExhausted (exhaustCode c.exhaustion) e) (bump retriesReceived s)) := by
  subst hc he
  simp only [retryEntry]
  rw [if_neg (Nat.not_lt.mpr hl)]

end Retry

theorem exhaustAnswer_eq (x : ExhaustPolicy) (e : Entry) :
    exhaustAnswer x e =
      if x = .fill ∧ e.kind = .read then
        { status := .ok, data := List.replicate e.length (BitVec.allOnes 64), filled := true }
      else { status := .abort } := by
  unfold exhaustAnswer
  cases x with
  | fail => rfl
  | fill => cases e.kind <;> rfl

theorem exhaustCode_eq (x : ExhaustPolicy) : exhaustCode x = if x = .fail then 1 else 2 := by cases x <;> rfl

/-- Settles O23: the count against the limit and the backoff against 0 choose the way of the entry. -/
theorem hostRetryAtEntry : Obligations.HostRetryAtEntry := by
  intro s p rest i hpl hcpl hs hr e c d aged u
  obtain ⟨nq, nb, nw⟩ := hpl.unplaced hs
  have taken := matching_of_retry hcpl hs hr
  have below := retryEntry_below (s := { s with uCplIn := rest }) (i := i) (e := e) (c := c) rfl rfl
  have exhausted := retryEntry_exhausted (s := { s with uCplIn := rest }) (i := i) (e := e) (c := c) rfl rfl
  -- the entry and the state during the backoff
  let x : Entry := e.backedOff c s.now
  let v : State := setEntry i x u
  have waits : v.entries[i] = x := by rw [setEntry_entries, set_getElem, if_pos rfl]
  have reached : ageReached v i = decide aged := ageReached_of (e := x) waits
  have twice (y : Entry) : (s.entries.set i x).set i y = s.entries.set i y := Vector.set_set _ i.isLt
  refine ⟨fun hl hd => ?_, fun hl hd hage => ?_, fun hl hd hage hm => ?_, fun hl => ?_⟩
  · rw [taken, below hl, if_neg (Nat.pos_iff_ne_zero.mp hd)]
    exact congrArg Host.Outcome.next (conclude_same rfl rfl rfl id)
  · have expired : releaseEntry i v
        = answerEntry i { status := .timeout } false (offerRecord (entryNote .timeout 4 e) (bump timeouts v)) := by
      rw [releaseEntry_aged (reached.trans (decide_eq_true hage)), expireEntry, waits]
      rfl
    have closed := conclude_answered (before := s) (t := bump timeouts v) (i := i) (e := x) waits rfl ⟨nq, nb, nw⟩
      { status := .timeout } false (entryNote .timeout 4 e) rfl rfl rfl rfl
    rw [taken, below hl, if_pos hd]
    refine congrArg Host.Outcome.next ((congrArg (conclude s) expired).trans (closed.trans ?_))
    show shed (marksOf e) (noteRecords _ { bump timeouts u with
      entries := (s.entries.set i x).set i _, answerQ := s.answerQ ++ [i] }) = _
    rw [twice]
    rfl
  · have requeued : releaseEntry i v = { u with
        entries := s.entries.set i
          { e with state := .queued, retryCount := e.retryCount + 1, releaseTick := none }
        issueQ := s.issueQ ++ [i] } := by
      rw [releaseEntry_unmarked (reached.trans (decide_eq_false hage)) (by rw [waits]; exact hm), waits, ← twice]
      rfl
    rw [taken, below hl, if_pos hd]
    exact congrArg Host.Outcome.next ((congrArg (conclude s) requeued).trans (conclude_same rfl rfl rfl id))
  · rw [taken, exhausted hl, exhaustAnswer_eq, exhaustCode_eq]
    have flight : e.state.inFlight = true := by rw [hs]; rfl
    exact congrArg Host.Outcome.next
      (conclude_answered (before := s) (t := u) (e := e) rfl flight ⟨nq, nb, nw⟩ _ false _ rfl rfl rfl rfl)

end Sys2Proof.Machine
end

section
/-! SUPPORT. What the Transaction Table's taking of a tick does to one entry, and the record and the marks that it costs
(R89, R102, R104 to R108, R119). -/

namespace Sys2Proof.Machine

/-! ### One entry at a tick (R102) -/

/-- The record that entry `i` makes at the tick (R104, R108). -/
def tickNote (t : State) (i : EntryId) : Option FaultRecord :=
  if entryExpires t i = true then some (entryNote .timeout (expiryDetail (t.entries[i]).state) t.entries[i])
  else if entryReclaims t i = true then some (entryNote .reclaimed 0 t.entries[i])
  else none

/-- Entry `i` loses its marks at the tick (R119). -/
def losesMarks (t : State) (i : EntryId) (k : FenceId) : Bool :=
  (t.entries[i]).marks[k] && (entryExpires t i || entryReclaims t i)

/-- The release of entry `i` that no expiry comes before (R89, R91). -/
def tickReleases (t : State) (i : EntryId) : Bool :=
  !entryExpires t i && entryReleases t i

/-- Entry `i` after the tick (R89, R104, R108). -/
def tickedEntry (t : State) (i : EntryId) : Entry :=
  if entryExpires t i = true then
    (t.entries[i]).answered { status := .timeout } (decide ((t.entries[i]).state = .issued))
  else if tickReleases t i = true then { t.entries[i] with state := .queued, releaseTick := none }
  else if entryReclaims t i = true then {}
  else t.entries[i]

/-- What the tick of entry `i` does but for its record and its fences' counts. -/
def tickActs (i : EntryId) (t : State) : State :=
  if entryExpires t i = true then
    { leavePlaces i (bump timeouts t) with
      entries := t.entries.set i (tickedEntry t i), answerQ := t.answerQ ++ [i] }
  else if tickReleases t i = true then
    { t with entries := t.entries.set i (tickedEntry t i), issueQ := t.issueQ ++ [i] }
  else if entryReclaims t i = true then { bump reclaims t with entries := t.entries.set i (tickedEntry t i) }
  else t

theorem expires_inFlight {t : State} {i : EntryId} (h : entryExpires t i = true) :
    (t.entries[i]).state.inFlight = true := by
  rw [entryExpires, Bool.and_eq_true] at h
  exact h.1

theorem releases_state {t : State} {i : EntryId} (h : entryReleases t i = true) :
    (t.entries[i]).state = .retryWait := by
  rw [entryReleases, Bool.and_eq_true, decide_eq_true_eq] at h
  exact h.1

theorem reclaims_state {t : State} {i : EntryId} (h : entryReclaims t i = true) :
    (t.entries[i]).state = .abandoned := by
  rw [entryReclaims, Bool.and_eq_true, decide_eq_true_eq] at h
  exact h.1

/-- An entry that is released waits in RETRY_WAIT, and so is not reclaimed. -/
theorem not_reclaims_of_releases {t : State} {i : EntryId} (h : entryReleases t i = true) :
    entryReclaims t i = false := by
  rw [entryReclaims, releases_state h]
  rfl

theorem lowerAll_none (t : State) : lowerAll (fun _ => 0) t = t := by
  have fences : (Vector.ofFn fun k : Fin 4 => { t.fences[k] with remaining := (t.fences[k]).remaining - 0 })
      = t.fences := vector_ext fun k => by simp
  rw [lowerAll, fences]

theorem lowerAll_lowerAll (a b : FenceId → Nat) (t : State) :
    lowerAll a (lowerAll b t) = lowerAll (fun k => b k + a k) t := by
  have fences : (lowerAll a (lowerAll b t)).fences = (lowerAll (fun k => b k + a k) t).fences :=
    vector_ext fun k => by simp only [lowerAll_getElem, Nat.sub_sub]
  exact congrArg (fun f => ({ t with fences := f } : State)) fences

/-- An entry in flight whose record is made: its answer passes by the record. -/
theorem answerEntry_offerRecord (i : EntryId) (a : Answer) (o : Bool) (r : FaultRecord) (t : State) :
    answerEntry i a o (offerRecord r t) = offerRecord r (answerEntry i a o t) :=
  (offerAll_comm (g := answerEntry i a o) (fun t f l b => by simp only [answerEntry]; split <;> rfl)
    (fun t => ⟨answerEntry_faults .., answerEntry_lost .., answerEntry_overflowPending .., answerEntry_now ..⟩)
    [r] t).symm

/-- A reclaimed entry is cleared, and its fences lose its marks (R108, R119). -/
theorem freeEntry_eq (i : EntryId) (t : State) :
    freeEntry i t = lowerAll (marksOf t.entries[i]) { t with entries := t.entries.set i {} } := by
  have twice : (t.entries.set i { t.entries[i] with marks := noMarks }).set i {} = t.entries.set i {} :=
    Vector.set_set _ i.isLt
  rw [← twice]
  simp only [freeEntry, dropMarks_eq]
  rfl

theorem freeEntry_offerRecord (i : EntryId) (r : FaultRecord) (t : State) :
    freeEntry i (offerRecord r t) = offerRecord r (freeEntry i t) :=
  (offerAll_comm (g := freeEntry i) (fun _ _ _ _ => rfl) (fun _ => ⟨rfl, rfl, rfl, rfl⟩) [r] t).symm

/-- The tick of one entry: its record, its fences' losses, and its tables (R102). -/
theorem tickEntry_eq {t : State} {i : EntryId}
    (h : entryReleases t i = true → entryExpires t i = true ∨ (t.entries[i]).marks = noMarks) :
    tickEntry i t
      = offerAll (tickNote t i).toList (lowerAll (fun k => (losesMarks t i k).toNat) (tickActs i t)) := by
  have loses (hl : (entryExpires t i || entryReclaims t i) = true) :
      (fun k => (losesMarks t i k).toNat) = marksOf t.entries[i] := funext fun k => by
    rw [losesMarks, hl, Bool.and_true, marksOf]
    cases (t.entries[i]).marks[k] <;> rfl
  have keeps (hl : (entryExpires t i || entryReclaims t i) = false) :
      (fun k => (losesMarks t i k).toNat) = fun _ => 0 := funext fun k => by
    rw [losesMarks, hl, Bool.and_false]
    rfl
  by_cases he : entryExpires t i = true
  · have flight : ((bump timeouts t).entries[i]).state.inFlight = true := expires_inFlight he
    rw [loses (by rw [he]; rfl)]
    simp only [tickEntry, tickNote, tickActs, tickedEntry, he, if_true]
    show answerEntry i _ _ (offerRecord (entryNote .timeout _ t.entries[i]) (bump timeouts t)) = _
    rw [answerEntry_offerRecord, answerEntry_eq flight]
    rfl
  have he' : entryExpires t i = false := (Bool.not_eq_true _).mp he
  by_cases hr : entryReleases t i = true
  · have calm := not_reclaims_of_releases hr
    have young : ageReached t i = false := by
      rw [entryExpires, releases_state hr] at he'
      exact he'
    rw [keeps (by rw [he', calm]; rfl), lowerAll_none]
    simp only [tickEntry, tickNote, tickActs, tickedEntry, tickReleases, he', hr, calm, Bool.not_false, Bool.and_self,
      Bool.false_eq_true, if_false, if_true]
    exact releaseEntry_unmarked young ((h hr).resolve_left he)
  have hr' : entryReleases t i = false := (Bool.not_eq_true _).mp hr
  by_cases hc : entryReclaims t i = true
  · rw [loses (by rw [hc, Bool.or_true])]
    simp only [tickEntry, tickNote, tickActs, tickedEntry, tickReleases, he', hr', hc, Bool.and_false,
      Bool.false_eq_true, if_false, if_true]
    show freeEntry i (offerRecord (entryNote .reclaimed 0 t.entries[i]) (bump reclaims t)) = _
    rw [freeEntry_offerRecord, freeEntry_eq]
    rfl
  have hc' : entryReclaims t i = false := (Bool.not_eq_true _).mp hc
  rw [keeps (by rw [he', hc']; rfl), lowerAll_none]
  simp only [tickEntry, tickNote, tickActs, tickReleases, he', hr', hc', Bool.and_false, Bool.false_eq_true, if_false]
  rfl

end Sys2Proof.Machine
end

section
/-! SUPPORT. The Transaction Table's taking of a tick, entry after entry, in one state (R102). -/

namespace Sys2Proof.Machine

/-! ### Some entries at a tick (R102) -/

/-- Entry `j` is among those that the tick has answered TIMEOUT (R104, R105). -/
def goneAt (is : List EntryId) (t : State) (j : EntryId) : Bool :=
  decide (j ∈ is) && entryExpires t j

/-- The transaction counters after `n` TIMEOUTS and `m` RECLAIMS (R136). -/
def tickedCounters (ctrs : Vector Count 8) (n m : Nat) : Vector Count 8 :=
  (ctrs.set 2 (ctrs[2] + BitVec.ofNat 32 n)).set 5 (ctrs[5] + BitVec.ofNat 32 m)

/-- The tables after the tick of a list of entries. -/
def tickedTables (is : List EntryId) (t : State) : State :=
  { t with
    entries := Vector.ofFn fun j : Fin 64 => if j ∈ is then tickedEntry t j else t.entries[j]
    issueQ := (t.issueQ.filter fun j => !goneAt is t j) ++ is.filter (tickReleases t)
    answerQ := t.answerQ ++ is.filter (entryExpires t)
    backlog := t.backlog.filter fun j => !goneAt is t j
    walks := Vector.ofFn fun k : Fin 4 =>
      { t.walks[k] with waiters := (t.walks[k]).waiters.filter fun j => !goneAt is t j }
    transactionCtrs :=
      tickedCounters t.transactionCtrs (is.countP (entryExpires t)) (is.countP (entryReclaims t)) }

/-- The whole state after the tick of a list of entries. -/
def tickedAll (is : List EntryId) (t : State) : State :=
  offerAll (is.filterMap (tickNote t))
    (lowerAll (fun k => is.countP fun i => losesMarks t i k) (tickedTables is t))

/-! ### The counters -/

theorem tickedCounters_timeouts (ctrs : Vector Count 8) (n m : Nat) :
    (tickedCounters ctrs n m).set 2 ((tickedCounters ctrs n m)[2] + 1) = tickedCounters ctrs (n + 1) m := by
  unfold tickedCounters
  refine Vector.ext fun j hj => ?_
  by_cases h2 : 2 = j
  · subst h2; simp [BitVec.ofNat_add, add_assoc]
  · simp [Vector.getElem_set, h2]

theorem tickedCounters_reclaims (ctrs : Vector Count 8) (n m : Nat) :
    (tickedCounters ctrs n m).set 5 ((tickedCounters ctrs n m)[5] + 1) = tickedCounters ctrs n (m + 1) := by
  unfold tickedCounters
  simp [BitVec.ofNat_add, add_assoc]

theorem tickedCounters_zero (ctrs : Vector Count 8) : tickedCounters ctrs 0 0 = ctrs := by
  unfold tickedCounters
  simp

/-! ### One entry more -/

/-- The timers read at entry `i` are the same. -/
structure SameTimer (i : EntryId) (s t : State) : Prop where
  entry : t.entries[i] = s.entries[i]
  contexts : t.contexts = s.contexts
  now : t.now = s.now
  timing : t.tickTiming = s.tickTiming

section SameTimer

variable {i : EntryId} {s t : State} (h : SameTimer i s t)

include h

theorem SameTimer.expires : entryExpires t i = entryExpires s i := by
  simp only [entryExpires, ageReached, h.entry, h.contexts, h.now]

theorem SameTimer.releases : entryReleases t i = entryReleases s i := by
  simp only [entryReleases, h.entry, h.now]

theorem SameTimer.reclaims : entryReclaims t i = entryReclaims s i := by
  simp only [entryReclaims, reclaimReached, h.entry, h.now, h.timing]

theorem SameTimer.tickReleases : tickReleases t i = tickReleases s i := by
  simp only [Machine.tickReleases, h.expires, h.releases]

theorem SameTimer.note : tickNote t i = tickNote s i := by
  simp only [tickNote, h.expires, h.reclaims, h.entry]

theorem SameTimer.losesMarks (k : FenceId) : losesMarks t i k = losesMarks s i k := by
  simp only [Machine.losesMarks, h.expires, h.reclaims, h.entry]

theorem SameTimer.ticked : tickedEntry t i = tickedEntry s i := by
  simp only [tickedEntry, h.expires, h.tickReleases, h.reclaims, h.entry]

end SameTimer

theorem sameTimer_tickedTables {is : List EntryId} {i : EntryId} (hi : i ∉ is) (t : State) :
    SameTimer i t (tickedTables is t) := by
  refine ⟨?_, rfl, rfl, rfl⟩
  simp only [tickedTables, getElem_ofFn, if_neg hi]

theorem sameTimer_offerAll (i : EntryId) (rs : List FaultRecord) (lost : FenceId → Nat) (t : State) :
    SameTimer i t (offerAll rs (lowerAll lost t)) := by
  rw [offerAll_eq]
  exact ⟨rfl, rfl, rfl, rfl⟩

theorem SameTimer.trans {i : EntryId} {s t u : State} (h : SameTimer i s t) (h' : SameTimer i t u) : SameTimer i s u :=
  ⟨h'.entry.trans h.entry, h'.contexts.trans h.contexts, h'.now.trans h.now, h'.timing.trans h.timing⟩

/-- An entry's tables pass by the records and the losses of the entries before it. -/
theorem tickActs_offerAll (i : EntryId) (rs : List FaultRecord) (lost : FenceId → Nat) (t : State) :
    tickActs i (offerAll rs (lowerAll lost t)) = offerAll rs (lowerAll lost (tickActs i t)) := by
  have lowered : tickActs i (lowerAll lost t) = lowerAll lost (tickActs i t) := by
    have he : entryExpires (lowerAll lost t) i = entryExpires t i := rfl
    have hr : tickReleases (lowerAll lost t) i = tickReleases t i := rfl
    have hc : entryReclaims (lowerAll lost t) i = entryReclaims t i := rfl
    simp only [tickActs, he, hr, hc]
    split
    · rfl
    split
    · rfl
    split
    · rfl
    · rfl
  have frame (u : State) : SameRecords u (tickActs i u) := by
    unfold tickActs
    split
    · exact ⟨rfl, rfl, rfl, rfl⟩
    split
    · exact ⟨rfl, rfl, rfl, rfl⟩
    split
    · exact ⟨rfl, rfl, rfl, rfl⟩
    · exact ⟨rfl, rfl, rfl, rfl⟩
  rw [← lowered]
  refine (offerAll_comm (g := tickActs i) (fun u f l o => ?_) frame rs _).symm
  have he : entryExpires { u with faults := f, lost := l, overflowPending := o } i = entryExpires u i := rfl
  have hr : tickReleases { u with faults := f, lost := l, overflowPending := o } i = tickReleases u i := rfl
  have hc : entryReclaims { u with faults := f, lost := l, overflowPending := o } i = entryReclaims u i := rfl
  simp only [tickActs, he, hr, hc]
  split
  · rfl
  split
  · rfl
  split
  · rfl
  · rfl

/-! ### The tables of one entry more -/

theorem goneAt_append (is : List EntryId) (t : State) (i j : EntryId) :
    goneAt (is ++ [i]) t j = (goneAt is t j || (decide (j = i) && entryExpires t i)) := by
  by_cases hj : j = i
  · subst hj; cases h : entryExpires t j <;> simp [goneAt, h]
  · simp [goneAt, hj]

theorem goneAt_append_of_not {is : List EntryId} {t : State} {i : EntryId} (h : entryExpires t i = false) :
    goneAt (is ++ [i]) t = goneAt is t := funext fun j => by
  rw [goneAt_append, h, Bool.and_false, Bool.or_false]

/-- An expired entry leaves a list (R105). -/
theorem filter_goneAt_append {is : List EntryId} {t : State} {i : EntryId} (h : entryExpires t i = true)
    (l : List EntryId) :
    (l.filter fun j => !goneAt (is ++ [i]) t j) = (l.filter fun j => !goneAt is t j).filter (· ≠ i) := by
  rw [List.filter_filter]
  refine List.filter_congr fun j _ => ?_
  rw [goneAt_append, h]
  by_cases hj : j = i <;> simp [hj]

theorem set_ofFn_mem {α : Type} {n : Nat} {is : List (Fin n)} {i : Fin n} (f g : Fin n → α) :
    (Vector.ofFn fun j : Fin n => if j ∈ is ++ [i] then f j else g j)
      = (Vector.ofFn fun j : Fin n => if j ∈ is then f j else g j).set i (f i) := by
  refine vector_ext fun j => ?_
  rw [set_getElem, getElem_ofFn, getElem_ofFn]
  by_cases hj : j = i
  · subst hj; simp
  · simp [hj]

/-- A state that differs from one after some entries' tick in the tables of the tick alone. -/
theorem eq_tickedTables {is js : List EntryId} {t u : State} (he : (tickedTables is t).entries = u.entries)
    (hi : (tickedTables is t).issueQ = u.issueQ) (ha : (tickedTables is t).answerQ = u.answerQ)
    (hb : (tickedTables is t).backlog = u.backlog) (hw : (tickedTables is t).walks = u.walks)
    (hc : (tickedTables is t).transactionCtrs = u.transactionCtrs)
    (frame : u = { tickedTables js t with
      entries := u.entries, issueQ := u.issueQ, answerQ := u.answerQ, backlog := u.backlog, walks := u.walks
      transactionCtrs := u.transactionCtrs }) : u = tickedTables is t := by
  rw [frame, ← he, ← hi, ← ha, ← hb, ← hw, ← hc]
  rfl

theorem tickedTables_nil (t : State) : t = tickedTables [] t := by
  have kept (l : List EntryId) : (l.filter fun j => !goneAt [] t j) = l :=
    List.filter_eq_self.mpr fun j _ => by simp [goneAt]
  refine eq_tickedTables (js := []) (vector_ext fun j => ?_) ?_ ?_ (kept _) (vector_ext fun k => ?_)
    (tickedCounters_zero _) rfl
  · simp only [tickedTables, getElem_ofFn, List.not_mem_nil, if_false]
  · simp only [tickedTables, kept, List.filter_nil, List.append_nil]
  · simp only [tickedTables, List.filter_nil, List.append_nil]
  · simp only [tickedTables, getElem_ofFn, kept]

section OneMore

variable {is : List EntryId} {i : EntryId} {t : State}

theorem tickedTables_expired (hi : i ∉ is) (he : entryExpires t i = true) :
    { leavePlaces i (bump timeouts (tickedTables is t)) with
      entries := (tickedTables is t).entries.set i (tickedEntry t i), answerQ := (tickedTables is t).answerQ ++ [i] }
      = tickedTables (is ++ [i]) t := by
  have released : tickReleases t i = false := by rw [tickReleases, he]; rfl
  have reclaimed : entryReclaims t i = false := by
    by_contra hc
    have flight := expires_inFlight he
    rw [reclaims_state ((Bool.not_eq_false _).mp hc)] at flight
    cases flight
  have others : (is.filter (tickReleases t)).filter (· ≠ i) = is.filter (tickReleases t) :=
    List.filter_eq_self.mpr fun j hj => decide_eq_true fun e => hi (e ▸ List.mem_of_mem_filter hj)
  have entries : (tickedTables (is ++ [i]) t).entries = (tickedTables is t).entries.set i (tickedEntry t i) :=
    set_ofFn_mem _ _
  have issueQ : (tickedTables (is ++ [i]) t).issueQ = (tickedTables is t).issueQ.filter (· ≠ i) := by
    simp only [tickedTables, filter_goneAt_append he, List.filter_append, others]
    rw [List.filter_cons_of_neg (by simp [released]), List.filter_nil, List.append_nil]
  have answerQ : (tickedTables (is ++ [i]) t).answerQ = (tickedTables is t).answerQ ++ [i] := by
    simp only [tickedTables, List.filter_append, List.append_assoc, List.filter_cons_of_pos he, List.filter_nil]
  have backlog : (tickedTables (is ++ [i]) t).backlog = (tickedTables is t).backlog.filter (· ≠ i) :=
    filter_goneAt_append he _
  have walks : (tickedTables (is ++ [i]) t).walks = (leavePlaces i (bump timeouts (tickedTables is t))).walks :=
    vector_ext fun k => by
      rw [leavePlaces_walk, bump_walks]
      simp only [tickedTables, getElem_ofFn, filter_goneAt_append he]
  have counters : (tickedTables (is ++ [i]) t).transactionCtrs
      = (bump timeouts (tickedTables is t)).transactionCtrs := by
    show tickedCounters _ ((is ++ [i]).countP _) ((is ++ [i]).countP _) = (tickedCounters _ _ _).set 2 _
    rw [List.countP_append, List.countP_append, List.countP_singleton, List.countP_singleton, he, reclaimed, if_pos rfl,
      if_neg Bool.false_ne_true, Nat.add_zero]
    exact (tickedCounters_timeouts _ _ _).symm
  exact eq_tickedTables (js := is) entries issueQ answerQ backlog walks counters rfl

variable (he : entryExpires t i = false)

include he

theorem tickedTables_released (hr : entryReleases t i = true) :
    { tickedTables is t with
      entries := (tickedTables is t).entries.set i (tickedEntry t i), issueQ := (tickedTables is t).issueQ ++ [i] }
      = tickedTables (is ++ [i]) t := by
  have released : tickReleases t i = true := by rw [tickReleases, he, hr]; rfl
  have reclaimed := not_reclaims_of_releases hr
  refine eq_tickedTables (js := is) (set_ofFn_mem _ _) ?_ ?_ ?_ ?_ ?_ rfl
  · simp only [tickedTables, goneAt_append_of_not he, List.filter_append, List.append_assoc,
      List.filter_cons_of_pos released, List.filter_nil]
  · simp [tickedTables, List.filter_append, he]
  · simp only [tickedTables, goneAt_append_of_not he]
  · simp only [tickedTables, goneAt_append_of_not he]
  · simp [tickedTables, List.countP_append, he, reclaimed]

variable (hr : entryReleases t i = false)

include hr

theorem tickedTables_reclaimed (hc : entryReclaims t i = true) :
    { bump reclaims (tickedTables is t) with entries := (tickedTables is t).entries.set i (tickedEntry t i) }
      = tickedTables (is ++ [i]) t := by
  have released : tickReleases t i = false := by rw [tickReleases, hr, Bool.and_false]
  refine eq_tickedTables (js := is) (set_ofFn_mem _ _) ?_ ?_ ?_ ?_ ?_ rfl
  · simp [tickedTables, goneAt_append_of_not he, List.filter_append, released]
  · simp [tickedTables, List.filter_append, he]
  · simp only [tickedTables, goneAt_append_of_not he, bump_backlog]
  · simp only [tickedTables, goneAt_append_of_not he, bump_walks]
  · show tickedCounters _ ((is ++ [i]).countP _) ((is ++ [i]).countP _) = (tickedCounters _ _ _).set 5 _
    rw [List.countP_append, List.countP_append, List.countP_singleton, List.countP_singleton, he, hc, if_pos rfl,
      if_neg Bool.false_ne_true, Nat.add_zero]
    exact (tickedCounters_reclaims _ _ _).symm

theorem tickedTables_quiet (hi : i ∉ is) (hc : entryReclaims t i = false) :
    tickedTables is t = tickedTables (is ++ [i]) t := by
  have released : tickReleases t i = false := by rw [tickReleases, hr, Bool.and_false]
  have kept : tickedEntry t i = t.entries[i] := by simp [tickedEntry, he, released, hc]
  refine eq_tickedTables (js := is) ((set_ofFn_mem _ _).trans ?_) ?_ ?_ ?_ ?_ ?_ rfl
  · have same := (sameTimer_tickedTables hi t).entry
    rw [kept, ← same]
    exact set_getElem_self (tickedTables is t).entries i
  · simp [tickedTables, goneAt_append_of_not he, List.filter_append, released]
  · simp [tickedTables, List.filter_append, he]
  · simp only [tickedTables, goneAt_append_of_not he]
  · simp only [tickedTables, goneAt_append_of_not he]
  · simp [tickedTables, List.countP_append, he, hc]

end OneMore

/-- The tables of a list of entries, and then those of one entry more. -/
theorem tickActs_tickedTables {is : List EntryId} {i : EntryId} (hi : i ∉ is) (t : State) :
    tickActs i (tickedTables is t) = tickedTables (is ++ [i]) t := by
  have same := sameTimer_tickedTables hi t
  rw [tickActs, same.expires, same.tickReleases, same.reclaims, same.ticked]
  by_cases he : entryExpires t i = true
  · rw [if_pos he]
    exact tickedTables_expired hi he
  have he' : entryExpires t i = false := (Bool.not_eq_true _).mp he
  by_cases hr : entryReleases t i = true
  · rw [if_neg he, if_pos (by rw [tickReleases, he', hr]; rfl)]
    exact tickedTables_released he' hr
  have hr' : entryReleases t i = false := (Bool.not_eq_true _).mp hr
  rw [if_neg he, if_neg (by rw [tickReleases, hr', Bool.and_false]; exact Bool.false_ne_true)]
  by_cases hc : entryReclaims t i = true
  · rw [if_pos hc]
    exact tickedTables_reclaimed he' hr' hc
  · rw [if_neg hc]
    exact tickedTables_quiet he' hr' hi ((Bool.not_eq_true _).mp hc)

/-! ### The whole table -/

theorem tickedAll_append (is : List EntryId) (i : EntryId) (t : State) :
    tickedAll (is ++ [i]) t
      = offerAll (tickNote t i).toList (offerAll (is.filterMap (tickNote t))
          (lowerAll (fun k => (losesMarks t i k).toNat)
            (lowerAll (fun k => is.countP fun j => losesMarks t j k) (tickedTables (is ++ [i]) t)))) := by
  have notes : (is ++ [i]).filterMap (tickNote t) = is.filterMap (tickNote t) ++ (tickNote t i).toList := by
    rw [List.filterMap_append]
    cases h : tickNote t i <;> simp [h]
  have losses : (fun k => (is ++ [i]).countP fun j => losesMarks t j k)
      = fun k => (is.countP fun j => losesMarks t j k) + (losesMarks t i k).toNat := funext fun k => by
    rw [List.countP_append, List.countP_singleton]
    cases losesMarks t i k <;> rfl
  rw [tickedAll, notes, losses, offerAll_append, lowerAll_lowerAll]

/-- The entries of a list, of which none is released with marks, take the tick one after the other (R102). -/
theorem foldl_tickEntry_eq {t : State}
    (h : ∀ i : EntryId, entryReleases t i = true → entryExpires t i = true ∨ (t.entries[i]).marks = noMarks)
    (is : List EntryId) (hnd : is.Nodup) : is.foldl (fun u i => tickEntry i u) t = tickedAll is t := by
  induction is using List.reverseRecOn with
  | nil =>
    have none : (fun k => ([] : List EntryId).countP fun i => losesMarks t i k) = fun _ => 0 := rfl
    rw [tickedAll, List.filterMap_nil, offerAll_nil, none, lowerAll_none]
    exact tickedTables_nil t
  | append_singleton is i ih =>
    obtain ⟨hnd, -, hi⟩ := List.nodup_append.mp hnd
    have fresh : i ∉ is := fun hm => hi i hm i (List.mem_singleton_self i) rfl
    have same : SameTimer i t (tickedAll is t) := (sameTimer_tickedTables fresh t).trans (sameTimer_offerAll i _ _ _)
    have lowered (lost : FenceId → Nat) (rs : List FaultRecord) (u : State) :
        lowerAll lost (offerAll rs u) = offerAll rs (lowerAll lost u) :=
      (offerAll_comm (g := lowerAll lost) (fun _ _ _ _ => rfl) (fun _ => ⟨rfl, rfl, rfl, rfl⟩) rs u).symm
    rw [List.foldl_append, ih hnd, List.foldl_cons, List.foldl_nil,
      tickEntry_eq (by rw [same.releases, same.expires, same.entry]; exact h i), same.note]
    simp only [same.losesMarks]
    rw [tickedAll, tickActs_offerAll, tickActs_tickedTables fresh, lowered, tickedAll_append]

/-- Settles O30: the rows are the taking of the tick, whose tables, losses and records follow the index. -/
theorem tableTakesTick : Obligations.TableTakesTick := by
  intro s c j hdue hm hrow expired released reclaimed all records lost
  let u : State := { s with tableDue := false }
  have row : exec c s = .next (takeTableTick s) := by
    rcases hrow with ⟨rfl, h⟩ | ⟨rfl, h⟩ | ⟨rfl, h⟩
    · show execRequestAgeExpiry j s = _
      rw [execRequestAgeExpiry, if_pos h]
    · show execEntryRelease j s = _
      rw [execEntryRelease, if_pos h]
    · show execEntryReclaim j s = _
      rw [execEntryReclaim, if_pos h]
  have folded : all.foldl (fun t i => tickEntry i t) u = tickedAll all u :=
    foldl_tickEntry_eq (t := u) hm all (List.nodup_finRange 64)
  have closed : conclude s (tickedAll all u) = shed lost (noteRecords records (tickedTables all u)) :=
    conclude_lowerAll (before := s) (v := tickedTables all u) lost records rfl rfl rfl id
  have kept (l : List EntryId) : (l.filter fun i => !goneAt all u i) = l.filter fun i => !expired i :=
    List.filter_congr fun i _ => by
      rw [goneAt, decide_eq_true (List.mem_finRange i), Bool.true_and]
      rfl
  rw [row, takeTableTick, if_pos hdue, folded, closed]
  refine congrArg _ (congrArg _ (congrArg _ (Eq.symm ?_)))
  refine eq_tickedTables (js := all) (congrArg Vector.ofFn (funext fun i => if_pos (List.mem_finRange i)))
    (congrArg (· ++ all.filter released) (kept s.issueQ)) rfl (kept s.backlog)
    (congrArg Vector.ofFn (funext fun k => ?_)) rfl rfl
  exact congrArg (fun l => ({ s.walks[k] with waiters := l } : WalkSlot)) (kept _)

end Sys2Proof.Machine
end

section
/-! SUPPORT. The completion class of the Issue Arbiter: its two sources and their turn (R80, R81, R82). -/

namespace Sys2Proof.Machine

/-! ### The class and the source of a grant (R80, R81) -/

/-- With HOLD_CPL off, a completion that waits is granted before every request (R80). -/
theorem issueArbiter_completion {s : State} (hu : s.uUp = true) (hh : s.uHoldCpl = false)
    (hw : (managementWaits s || passThroughWaits s) = true) :
    exec .issueArbiterGrant s = .next (grantCompletion s) := by
  show execIssueArbiterGrant s = _
  rw [execIssueArbiterGrant, if_neg (by simp [hu]), if_pos (by rw [hw, hh]; rfl)]

theorem passThroughWaits_iff (s : State) : passThroughWaits s = true ↔ s.dCplIn ≠ [] := by
  simp [passThroughWaits]

theorem managementWaits_iff (s : State) :
    managementWaits s = true ↔ s.replyOrder ≠ [] ∨ s.replyRefusals ≠ [] := by
  simp [managementWaits]

/-- Management is granted alone, or at its turn, and gives the turn to pass-through (R81). -/
theorem grantCompletion_management {s : State} (hm : managementWaits s = true)
    (ht : s.dCplIn = [] ∨ s.cplTurn = .management) :
    grantCompletion s = { sendManagement s with cplTurn := .passThrough } := by
  have chosen : (!passThroughWaits s || decide (s.cplTurn = .management)) = true := by
    rcases ht with hp | ht
    · simp [passThroughWaits, hp]
    · simp [ht]
  rw [grantCompletion, if_pos (by rw [hm, chosen]; rfl)]

/-- Pass-through is granted alone, or at its turn, and gives the turn to management (R81). -/
theorem grantCompletion_passThrough {s : State} (hp : passThroughWaits s = true)
    (ht : managementWaits s = false ∨ s.cplTurn = .passThrough) :
    grantCompletion s = { sendPassThrough s with cplTurn := .management } := by
  have passed : (managementWaits s && (!passThroughWaits s || decide (s.cplTurn = .management))) = false := by
    rcases ht with hm | ht
    · rw [hm]; rfl
    · simp [hp, ht]
  rw [grantCompletion, if_neg (by rw [passed]; exact Bool.false_ne_true)]

/-- A grant of management, whichever of its two queues is sent (R81). -/
theorem issueArbiter_management {s : State} (hu : s.uUp = true) (hh : s.uHoldCpl = false)
    (hm : s.replyOrder ≠ [] ∨ s.replyRefusals ≠ []) (ht : s.dCplIn = [] ∨ s.cplTurn = .management) :
    exec .issueArbiterGrant s = .next { sendManagement s with cplTurn := .passThrough } := by
  have waits := (managementWaits_iff s).mpr hm
  rw [issueArbiter_completion hu hh (by rw [waits]; rfl), grantCompletion_management waits ht]

theorem issueArbiter_passThrough {s : State} (hu : s.uUp = true) (hh : s.uHoldCpl = false) (hp : s.dCplIn ≠ [])
    (ht : (s.replyOrder = [] ∧ s.replyRefusals = []) ∨ s.cplTurn = .passThrough) :
    exec .issueArbiterGrant s = .next { sendPassThrough s with cplTurn := .management } := by
  have waits := (passThroughWaits_iff s).mpr hp
  have turn : managementWaits s = false ∨ s.cplTurn = .passThrough :=
    ht.imp_left fun ⟨ho, hr⟩ => by rw [managementWaits, ho, hr]; rfl
  rw [issueArbiter_completion hu hh (by rw [waits, Bool.or_true]), grantCompletion_passThrough waits turn]

/-! ### What a source sends (R82) -/

theorem sendManagement_reply {s : State} {m : MgmtId} {rest : List MgmtId} (h : s.replyOrder = m :: rest) :
    sendManagement s =
      { s with
        mgmt := s.mgmt.set m {}
        replyOrder := rest
        uTx := some (.completion
          (buildCompletion (s.mgmt[m]).source (s.mgmt[m]).tag .ok (s.mgmt[m]).reply)) } := by
  rw [sendManagement, h]

theorem sendManagement_refusal {s : State} {r : Refused} {rest : List Refused} (ho : s.replyOrder = [])
    (h : s.replyRefusals = r :: rest) :
    sendManagement s =
      { s with
        replyRefusals := rest
        uTx := some (.completion (buildCompletion r.source r.tag r.status [])) } := by
  rw [sendManagement, ho, h]
  rfl

/-- Settles O13: the source is found by what waits and the turn, and it sends the head of its queue. -/
theorem completionClassGrant : Obligations.CompletionClassGrant := by
  intro s m mrest r rrest p prest hu hh
  refine ⟨fun ho ht => ?_, fun ho hr ht => ?_, fun hp ht => ?_⟩
  · rw [issueArbiter_management hu hh (.inl (by simp [ho])) ht, sendManagement_reply ho]
  · rw [issueArbiter_management hu hh (.inr (by simp [hr])) ht, sendManagement_refusal ho hr]
  · rw [issueArbiter_passThrough hu hh (by simp [hp]) ht, sendPassThrough, hp]

end Sys2Proof.Machine
end

section
/-! SUPPORT. Completions at an entry: the late one (R96), and those that end an ISSUED entry's request (R94, R95). -/

namespace Sys2Proof.Machine

/-! ### The late completion (R96) -/

theorem matchEntry_abandoned {t : State} {i : EntryId} (p : CplPacket) (h : (t.entries[i]).state = .abandoned) :
    matchEntry i p t = lateEntry i t := by
  simp only [matchEntry, h]

/-- A late completion frees the entry, and its marks are lost to their fences (R96, R119). -/
theorem lateEntry_eq (i : EntryId) (t : State) :
    lateEntry i t =
      offerAll [entryNote .lateCompletion 0 t.entries[i]]
        (lowerAll (marksOf t.entries[i]) (bump lateCompletions { t with entries := t.entries.set i {} })) := by
  show freeEntry i (offerRecord (entryNote .lateCompletion 0 t.entries[i]) (bump lateCompletions t)) = _
  rw [freeEntry_offerRecord, freeEntry_eq]
  rfl

/-- Settles O21: the entry is freed with its record, and the close ends the fences that wait for it alone. -/
theorem lateCompletionFreesEntry : Obligations.LateCompletionFreesEntry := by
  intro s p rest i hcpl hs
  rw [matching_of_entry hcpl, matchEntry_abandoned p (by exact hs), lateEntry_eq]
  exact congrArg _ (conclude_lowerAll (before := s) _ _ rfl rfl rfl id)

/-! ### The completion that ends the request (R94, R95) -/

theorem hostStatus_of_other {c : Nat} (h0 : c ≠ 0) (h1 : c ≠ 1) : hostStatus c = .error := by
  unfold hostStatus
  split
  · exact absurd rfl h0
  · exact absurd rfl h1
  · rfl

theorem matchEntry_ok {t : State} {i : EntryId} {p : CplPacket} (h : (t.entries[i]).state = .issued)
    (hr : headerStatus p.h0 = 0) : matchEntry i p t = okEntry i p.body t := by
  have status : hostStatus (headerStatus p.h0) = .ok := by rw [hr]; rfl
  simp only [matchEntry, h, status]

theorem matchEntry_error {t : State} {i : EntryId} {p : CplPacket} (h : (t.entries[i]).state = .issued)
    (h0 : headerStatus p.h0 ≠ 0) (h1 : headerStatus p.h0 ≠ 1) : matchEntry i p t = errorEntry 1 i t := by
  simp only [matchEntry, h, hostStatus_of_other h0 h1]

theorem okLength_eq (e : Entry) : okLength e = if e.kind = .read then e.length else 0 := by
  unfold okLength
  cases e.kind <;> rfl

/-- The close of a happening in which one entry was answered, without a record (R54, R120). -/
theorem conclude_answered_unrecorded {before t : State} {i : EntryId} (hf : (t.entries[i]).state.inFlight = true)
    (hp : Unplaced t i) (a : Answer) (o : Bool) (hfe : t.fences = before.fences) (hfa : t.faults = before.faults)
    (hal : t.alertSlot = before.alertSlot) (how : t.ownList = before.ownList) :
    conclude before (answerEntry i a o t)
      = shed (marksOf t.entries[i])
          { t with entries := t.entries.set i ((t.entries[i]).answered a o), answerQ := t.answerQ ++ [i] } := by
  rw [answerEntry_eq hf, leavePlaces_of_absent i t hp.issueQ hp.backlog hp.waiters]
  exact conclude_lowerAll _ [] hfe hfa hal fun h => by rw [← how]; exact h

/-- Settles O22: the status and the length choose the answer, and the close ends the fences that the marks leave. -/
theorem entryCompletionEnds : Obligations.EntryCompletionEnds := by
  intro s p rest i hpl hcpl hs e fits answered failed
  let u : State := { s with uCplIn := rest }
  have issued : (u.entries[i]).state = .issued := hs
  have flight : e.state.inFlight = true := by rw [hs]; rfl
  obtain ⟨nq, nb, nw⟩ := hpl.unplaced hs
  have matched := matching_of_entry hcpl
  have ended (d : Nat) : conclude s (errorEntry d i u) = failed d :=
    conclude_answered (before := s) (t := bump upstreamErrors u) (e := e) rfl flight ⟨nq, nb, nw⟩
      { status := .abort } false (entryNote .upstreamError d e) rfl rfl rfl rfl
  have fitting : p.body.length = okLength u.entries[i] ↔ fits := by rw [okLength_eq]
  refine ⟨fun h0 hl => ?_, fun h0 hl => ?_, fun h0 h1 => ?_⟩
  · rw [matched, matchEntry_ok issued h0, okEntry, if_pos (fitting.mpr hl)]
    exact congrArg _
      (conclude_answered_unrecorded (before := s) (t := u) flight ⟨nq, nb, nw⟩ _ false rfl rfl rfl rfl)
  · rw [matched, matchEntry_ok issued h0, okEntry, if_neg fun h => hl (fitting.mp h)]
    exact congrArg _ (ended 2)
  · rw [matched, matchEntry_error issued h0 h1]
    exact congrArg _ (ended 1)

end Sys2Proof.Machine
end

section
/-! SUPPORT. The alert slot: what a completion does to it (R143 to R145), and its three timers (R144, R145). -/

namespace Sys2Proof.Machine

/-! ### The close of a happening of the alert slot (R85, R141) -/

/-- A happening that frees the alert slot evaluates the trigger, once for all its records (R141). -/
theorem closeEvents_alertFreed {before t : State} (rs : List FaultRecord) (hf : t.fences = before.fences)
    (hb : before.alertSlot.state ≠ .free) (ha : t.alertSlot.state = .free) :
    closeEvents before (offerAll rs t) = evalTrigger (offerAll rs t) := by
  have fences : (offerAll rs t).fences = before.fences := (congrArg State.fences (offerAll_eq rs t)).trans hf
  have slot : (offerAll rs t).alertSlot.state = .free :=
    (congrArg (fun u => u.alertSlot.state) (offerAll_eq rs t)).trans ha
  have point : triggerPoint before (offerAll rs t) = true := by
    rw [triggerPoint, slot, decide_eq_true hb]
    exact Bool.or_true _
  unfold closeEvents
  simp only [endFences_of_same before _ fences]
  rw [if_pos point]

/-- A happening that frees the alert slot and empties no own list ends with that evaluation (R85, R141). -/
theorem conclude_alertFreed {before t : State} (rs : List FaultRecord) (hf : t.fences = before.fences)
    (hb : before.alertSlot.state ≠ .free) (ha : t.alertSlot.state = .free)
    (ho : t.ownList = [] → before.ownList = []) :
    conclude before (offerAll rs t) = evalTrigger (offerAll rs t) := by
  rw [conclude_eq, closeEvents_alertFreed rs hf hb ha]
  refine resetRotation_of before _ fun h => ho ?_
  rw [← offerAll_ownList rs t]
  exact evalTrigger_ownList _ h

/-- A happening that leaves the alert slot in use evaluates the trigger if it enqueued a record (R141). -/
theorem conclude_alertInUse {before t : State} (rs : List FaultRecord) (hf : t.fences = before.fences)
    (hr : t.faults = before.faults) (ha : t.alertSlot.state ≠ .free) (ho : t.ownList = [] → before.ownList = []) :
    conclude before (offerAll rs t) = noteRecords rs t := by
  have fences : (offerAll rs t).fences = before.fences := (congrArg State.fences (offerAll_eq rs t)).trans hf
  have slot : (offerAll rs t).alertSlot.state ≠ .free := by
    rw [congrArg State.alertSlot (offerAll_eq rs t)]
    exact ha
  have point : triggerPoint before (offerAll rs t) = true ↔ rs ≠ [] ∧ t.faults.length < 16 := by
    rw [triggerPoint, decide_eq_false slot, ← hr, ← offerAll_grows rs t, Bool.and_false, Bool.or_false,
      decide_eq_true_eq]
  rw [conclude_eq, closeEvents]
  simp only [endFences_of_same before _ fences, point]
  rw [← noteRecords_eq]
  refine resetRotation_of before _ fun h => ho ?_
  rw [noteRecords_eq] at h
  rw [← offerAll_ownList rs t]
  split at h
  · exact evalTrigger_ownList _ h
  · exact h

/-! ### The slot becomes FREE (R143 to R145) -/

/-- An alert slot that is not QUEUED has no write in the own list (R83). -/
theorem OwnListLaw.alert_not_listed {s : State} (h : OwnListLaw s) (ha : s.alertSlot.state ≠ .queued) :
    OwnRequest.alert ∉ s.ownList := by
  obtain ⟨-, -, -, own⟩ := h
  exact fun hm => ha (own.mp hm)

/-- An alert slot with no write in the own list becomes FREE, and nothing else changes. -/
theorem freeAlert_of_notListed {t : State} (h : OwnRequest.alert ∉ t.ownList) :
    freeAlert t = { t with alertSlot := {} } := by
  have unlisted : t.ownList.filter (· ≠ .alert) = t.ownList :=
    List.filter_eq_self.mpr fun o ho => decide_eq_true fun e => h (by rw [← e]; exact ho)
  rw [freeAlert, unlisted]

theorem freeAlert_offerRecord (r : FaultRecord) (t : State) :
    freeAlert (offerRecord r t) = offerAll [r] (freeAlert t) :=
  (offerAll_comm (g := freeAlert) (fun _ _ _ _ => rfl) (fun _ => ⟨rfl, rfl, rfl, rfl⟩) [r] t).symm

theorem failAlert_freed (t : State) :
    failAlert false t = offerAll [alertRecord .alertFailed t] (freeAlert t) :=
  freeAlert_offerRecord (alertRecord .alertFailed t) t

/-- The slot's fields are those it had before the record (R145). -/
theorem failAlert_abandoned (t : State) :
    failAlert true t =
      offerAll [alertRecord .alertFailed t]
        { t with
          alertSlot :=
            { t.alertSlot with state := .abandoned, releaseTick := none, abandonTick := some t.now } } := by
  simp only [failAlert, if_true, offerRecord_alertSlot]
  exact (offerAll_comm
    (g := fun u => { u with
      alertSlot := { t.alertSlot with state := .abandoned, releaseTick := none, abandonTick := some t.now } })
    (fun _ _ _ _ => rfl) (fun _ => ⟨rfl, rfl, rfl, rfl⟩) [alertRecord .alertFailed t] t).symm

/-- A count and a record at the end of an ABANDONED slot, late or reclaimed (R145). -/
theorem endAbandonedAlert_eq (c : Counter) (r : FaultRecord) {t : State} (h : OwnRequest.alert ∉ t.ownList) :
    (t |> bump c |> offerRecord r |> freeAlert) = offerAll [r] (bump c { t with alertSlot := {} }) := by
  rw [freeAlert_offerRecord, freeAlert_of_notListed (by rw [bump_ownList]; exact h)]
  cases c <;> rfl

/-! ### Completions (R143, R144) -/

section Completions

variable {t : State} {p : CplPacket}

theorem matchAlert_abandoned (h : t.alertSlot.state = .abandoned) : matchAlert p t = lateAlert t := by
  simp only [matchAlert, h]

variable (h : t.alertSlot.state = .issued)

include h

theorem matchAlert_ok (hr : headerStatus p.h0 = 0) (hb : p.body = []) : matchAlert p t = freeAlert t := by
  have status : hostStatus (headerStatus p.h0) = .ok := by rw [hr]; rfl
  simp only [matchAlert, h, status, hb, if_true]

theorem matchAlert_retry (hr : headerStatus p.h0 = 1) : matchAlert p t = retryAlert t := by
  have status : hostStatus (headerStatus p.h0) = .retry := by rw [hr]; rfl
  simp only [matchAlert, h, status]

/-- A status that is neither RETRY nor OK without data fails the alert (R144). -/
theorem matchAlert_error (hr : headerStatus p.h0 ≠ 1) (he : headerStatus p.h0 ≠ 0 ∨ p.body ≠ []) :
    matchAlert p t = failAlert false t := by
  by_cases h0 : headerStatus p.h0 = 0
  · have status : hostStatus (headerStatus p.h0) = .ok := by rw [h0]; rfl
    simp only [matchAlert, h, status, he.resolve_left (not_not_intro h0), if_false]
  · simp only [matchAlert, h, hostStatus_of_other h0 hr]

end Completions

/-- Settles O28: the status and the state of the slot choose its end, and each end but a backoff frees the slot. -/
theorem alertCompletion : Obligations.AlertCompletion := by
  intro s p rest hown hcpl x c d u freed failed
  have matched := matching_of_alert hcpl
  refine ⟨fun hs => ?_, fun hs => ?_⟩
  · have issued : u.alertSlot.state = .issued := hs
    have used : s.alertSlot.state ≠ .free := by rw [issued]; simp
    have unlisted : OwnRequest.alert ∉ u.ownList := hown.alert_not_listed (by rw [issued]; simp)
    have closed (rs : List FaultRecord) : conclude s (offerAll rs freed) = evalTrigger (offerAll rs freed) :=
      conclude_alertFreed rs rfl used rfl id
    have fails : conclude s (failAlert false u) = failed := by
      rw [failAlert_freed, freeAlert_of_notListed unlisted]
      exact closed _
    refine ⟨fun hr hb => ?_, fun hr he => ?_, fun hr hl => ?_, fun hr hl hd => ?_, fun hr hl hd => ?_⟩
    · rw [matched, matchAlert_ok issued hr hb, freeAlert_of_notListed unlisted]
      exact congrArg _ (closed [])
    · rw [matched, matchAlert_error issued hr he, fails]
    · have exhausted : retryAlert u = failAlert false u := if_neg (Nat.not_lt.mpr hl)
      rw [matched, matchAlert_retry issued hr, exhausted, fails]
    · have waits : backoff s.timing.walkBackoffBase c ≠ 0 := Nat.pos_iff_ne_zero.mp hd
      have backed : retryAlert u = _ := (if_pos hl).trans (if_neg waits)
      rw [matched, matchAlert_retry issued hr, backed]
      exact congrArg _ (conclude_alertInUse [] rfl rfl (by simp) id)
    · have backed : retryAlert u = _ := (if_pos hl).trans (if_pos hd)
      rw [matched, matchAlert_retry issued hr, backed]
      exact congrArg _ (conclude_alertInUse [] rfl rfl (by simp) (by simp))
  · have abandoned : u.alertSlot.state = .abandoned := hs
    have used : s.alertSlot.state ≠ .free := by rw [abandoned]; simp
    have unlisted : OwnRequest.alert ∉ u.ownList := hown.alert_not_listed (by rw [abandoned]; simp)
    rw [matched, matchAlert_abandoned abandoned, lateAlert, endAbandonedAlert_eq _ _ unlisted]
    exact congrArg _ (conclude_alertFreed _ rfl used rfl id)

/-! ### The timer that has run out (R102, R145) -/

/-- The alert slot takes the tick, and nothing else does (R102). -/
theorem takeAlertTick_of {s : State} (hd : s.alertDue = true) :
    takeAlertTick s = conclude s (tickAlert { s with alertDue := false }) := if_pos hd

/-- An alert slot whose reclaim time has run out is ABANDONED (R145). -/
theorem alertReclaims_state {s : State} (h : alertReclaims s = true) : s.alertSlot.state = .abandoned := by
  simp only [alertReclaims, Bool.and_eq_true, decide_eq_true_eq] at h
  exact h.1

/-- An alert slot that times out is under way (R145). -/
theorem alertTimesOut_state {s : State} (h : alertTimesOut s = true) : s.alertSlot.state ≠ .free := by
  intro hs
  rw [alertTimesOut, hs] at h
  cases h

theorem tickAlert_timeout {s : State} (h : alertTimesOut s = true) :
    tickAlert s = failAlert (decide (s.alertSlot.state = .issued)) s := if_pos h

theorem tickAlert_release {s : State} (ht : alertTimesOut s = false) (h : alertReleases s = true) :
    tickAlert s = releaseAlert s := by
  simp only [tickAlert, ht, h, Bool.false_eq_true, if_false, if_true]

/-- An ABANDONED slot neither times out nor is released (R145). -/
theorem tickAlert_reclaim {s : State} (h : alertReclaims s = true) : tickAlert s = reclaimAlert s := by
  have abandoned := alertReclaims_state h
  have timeout : alertTimesOut s = false := by rw [alertTimesOut, abandoned]; rfl
  have release : alertReleases s = false := by rw [alertReleases, abandoned]; rfl
  simp only [tickAlert, timeout, release, h, Bool.false_eq_true, if_false, if_true]

/-- Settles O33: the timer that has run out chooses what the slot becomes, and the close clears the rotation counter
when the withdrawn write empties the own list. -/
theorem alertTimers : Obligations.AlertTimers := by
  intro s hown hdue x u note freed
  refine ⟨fun ht hs => ?_, fun ht hs => ?_, fun ht hr => ?_, fun hr => ?_⟩
  · show Host.Outcome.next (if alertTimesOut s = true then takeAlertTick s else s) = _
    rw [if_pos ht, takeAlertTick_of hdue, tickAlert_timeout (s := u) ht, decide_eq_true (by exact hs),
      failAlert_abandoned]
    exact congrArg _ (conclude_alertInUse [note] rfl rfl (by simp) id)
  · have closed : closeEvents s (offerAll [note] (freeAlert u)) = freed :=
      closeEvents_alertFreed [note] rfl (alertTimesOut_state ht) rfl
    show Host.Outcome.next (if alertTimesOut s = true then takeAlertTick s else s) = _
    rw [if_pos ht, takeAlertTick_of hdue, tickAlert_timeout (s := u) ht, decide_eq_false (by exact hs),
      failAlert_freed, conclude_eq]
    refine congrArg _ ((congrArg (resetRotation s) closed).trans ?_)
    exact if_congr and_comm rfl rfl
  · show Host.Outcome.next (if alertReleases s = true then takeAlertTick s else s) = _
    rw [if_pos hr, takeAlertTick_of hdue, tickAlert_release (s := u) ht hr]
    exact congrArg _ (conclude_alertInUse [] rfl rfl (by simp) (by simp))
  · have abandoned := alertReclaims_state hr
    have unlisted : OwnRequest.alert ∉ u.ownList := hown.alert_not_listed (by rw [abandoned]; simp)
    show Host.Outcome.next (if alertReclaims s = true then takeAlertTick s else s) = _
    rw [if_pos hr, takeAlertTick_of hdue, tickAlert_reclaim (s := u) hr, reclaimAlert,
      endAbandonedAlert_eq _ _ unlisted]
    exact congrArg _ (conclude_alertFreed _ rfl (by rw [abandoned]; simp) rfl id)

end Sys2Proof.Machine
end

section
/-! SUPPORT. TICK: the blocks that are behind take the tick before, each once and in order, and the counter advances
(R100 to R103). -/

namespace Sys2Proof.Machine

/-! ### The blocks that have still to take the tick (R102) -/

/-- Whether the Transaction Table, the Walk Unit and the alert slot have still to take the latest tick. -/
def State.dues (s : State) : Bool × Bool × Bool := (s.tableDue, s.walkDue, s.alertDue)

theorem dues_eq_iff {s : State} {a b c : Bool} :
    s.dues = (a, b, c) ↔ s.tableDue = a ∧ s.walkDue = b ∧ s.alertDue = c := by
  rw [State.dues, Prod.mk.injEq, Prod.mk.injEq]

theorem dues_congr {s t : State} (ht : t.tableDue = s.tableDue) (hw : t.walkDue = s.walkDue)
    (ha : t.alertDue = s.alertDue) : t.dues = s.dues := dues_eq_iff.mpr ⟨ht, hw, ha⟩

theorem endFence_dues (k : FenceId) (s : State) : (endFence k s).dues = s.dues := by
  rw [endFence_eq, replyDone_eq]
  exact dues_congr rfl rfl rfl

/-- No move makes a block take a tick or owe one. -/
theorem Move.dues {c d : Point} (h : Move c d) : d.1.dues = c.1.dues := by
  cases h with
  | count c => exact dues_congr (bump_tableDue ..) (bump_walkDue ..) (bump_alertDue ..)
  | record r => exact dues_congr (offerRecord_tableDue ..) (offerRecord_walkDue ..) (offerRecord_alertDue ..)
  | stop kind r => exact dues_congr (applyStop_tableDue ..) (applyStop_walkDue ..) (applyStop_alertDue ..)
  | answer i a o => exact dues_congr (answerEntry_tableDue ..) (answerEntry_walkDue ..) (answerEntry_alertDue ..)
  | queue i addr => exact dues_congr (queueEntry_tableDue ..) (queueEntry_walkDue ..) (queueEntry_alertDue ..)
  | endFence k => exact endFence_dues k _
  | _ => exact dues_congr rfl rfl rfl

theorem Turns.dues {s t : State} {L M : List EntryId} (h : Turns (s, L) (t, M)) : t.dues = s.dues :=
  h.keeps (P := fun e => e.1.dues = s.dues) (fun _ _ hm hs => hm.dues.trans hs)
    (fun _ _ _ _ _ hs => (dues_congr rfl rfl rfl).trans hs) rfl

/-- Work and its close leave the blocks with the ticks to take that they had. -/
theorem conclude_dues (before : State) {u t : State} (h : Turns (u, []) (t, [])) :
    (conclude before t).dues = u.dues := by
  have reset (x : State) : (resetRotation before x).dues = x.dues := by
    rw [resetRotation_eq]
    split
    · exact dues_congr rfl rfl rfl
    · rfl
  rw [conclude_eq, reset]
  exact (h.trans (Moves.closeEvents before t []).turns).dues

theorem takeTableTick_dues (s : State) : (takeTableTick s).dues = (false, s.walkDue, s.alertDue) := by
  unfold takeTableTick
  split
  next =>
    exact conclude_dues s (u := { s with tableDue := false })
      (Moves.foldl_same (fun i t => .tickEntry i t) _ _).turns
  next h => rw [State.dues, (Bool.not_eq_true _).mp h]

theorem takeWalkTick_dues (s : State) : (takeWalkTick s).dues = (s.tableDue, false, s.alertDue) := by
  unfold takeWalkTick
  split
  next => exact conclude_dues s (u := { s with walkDue := false }) (Turns.foldl_same (fun k t => .tickWalk k t) _ _)
  next h => rw [State.dues, (Bool.not_eq_true _).mp h]

theorem takeAlertTick_dues (s : State) : (takeAlertTick s).dues = (s.tableDue, s.walkDue, false) := by
  unfold takeAlertTick
  split
  next => exact conclude_dues s (u := { s with alertDue := false }) (Moves.tickAlert _ []).turns
  next h => rw [State.dues, (Bool.not_eq_true _).mp h]

/-! ### A tick taken before, and a tick at which no timer has run out (R102) -/

theorem takeTableTick_of_taken {s : State} (h : s.tableDue = false) : takeTableTick s = s := by
  rw [takeTableTick, h]
  rfl

theorem takeWalkTick_of_taken {s : State} (h : s.walkDue = false) : takeWalkTick s = s := by
  rw [takeWalkTick, h]
  rfl

theorem takeAlertTick_of_taken {s : State} (h : s.alertDue = false) : takeAlertTick s = s := by
  rw [takeAlertTick, h]
  rfl

/-- A table with no timer that has run out only has the tick behind it. -/
theorem takeTableTick_of_quiet {s : State} (h : ∀ i : EntryId, EntryQuiet s i) :
    takeTableTick s = { s with tableDue := false } := by
  by_cases hd : s.tableDue = true
  · have still : (List.finRange 64).foldl (fun t i => tickEntry i t) { s with tableDue := false }
        = { s with tableDue := false } :=
      List.foldl_fixed' (fun i => tickEntry_of_quiet (t := { s with tableDue := false }) (h i)) _
    rw [takeTableTick, if_pos hd, still]
    exact conclude_same rfl rfl rfl id
  · have taken : s.tableDue = false := (Bool.not_eq_true _).mp hd
    rw [takeTableTick_of_taken taken, ← taken]

/-- A Walk Unit with no timer that has run out only has the tick behind it. -/
theorem takeWalkTick_of_quiet {s : State} (h : ∀ k : WalkId, WalkQuiet s k) :
    takeWalkTick s = { s with walkDue := false } := by
  by_cases hd : s.walkDue = true
  · have still : (List.finRange 4).foldl (fun t k => tickWalk k t) { s with walkDue := false }
        = { s with walkDue := false } :=
      List.foldl_fixed' (fun k => tickWalk_of_quiet (s := { s with walkDue := false }) (h k)) _
    rw [takeWalkTick, if_pos hd, still]
    exact conclude_same rfl rfl rfl id
  · have taken : s.walkDue = false := (Bool.not_eq_true _).mp hd
    rw [takeWalkTick_of_taken taken, ← taken]

theorem tickAlert_of_quiet {s : State}
    (h : alertTimesOut s = false ∧ alertReleases s = false ∧ alertReclaims s = false) : tickAlert s = s := by
  obtain ⟨timeout, release, reclaim⟩ := h
  simp only [tickAlert, timeout, release, reclaim, Bool.false_eq_true, if_false]

/-- An alert slot with no timer that has run out only has the tick behind it. -/
theorem takeAlertTick_of_quiet {s : State}
    (h : alertTimesOut s = false ∧ alertReleases s = false ∧ alertReclaims s = false) :
    takeAlertTick s = { s with alertDue := false } := by
  by_cases hd : s.alertDue = true
  · rw [takeAlertTick_of hd, tickAlert_of_quiet (s := { s with alertDue := false }) h]
    exact conclude_same rfl rfl rfl id
  · have taken : s.alertDue = false := (Bool.not_eq_true _).mp hd
    rw [takeAlertTick_of_taken taken, ← taken]

/-! ### The rows of the timers (R102) -/

/-- The row of an entry's timer that has run out is the table's taking of the tick. -/
theorem exec_entryTimer {s : State} {c : Instr} {j : EntryId}
    (h : (c = .requestAgeExpiry j ∧ entryExpires s j = true) ∨ (c = .entryRelease j ∧ entryReleases s j = true)
      ∨ (c = .entryReclaim j ∧ entryReclaims s j = true)) : exec c s = .next (takeTableTick s) := by
  rcases h with ⟨rfl, h⟩ | ⟨rfl, h⟩ | ⟨rfl, h⟩ <;> exact congrArg Host.Outcome.next (if_pos h)

/-- The row of a walk slot's timer that has run out is the Walk Unit's taking of the tick. -/
theorem exec_walkTimer {s : State} {c : Instr} {k : WalkId}
    (h : (c = .walkTimeout k ∧ walkTimesOut s k = true) ∨ (c = .walkRelease k ∧ walkReleases s k = true)
      ∨ (c = .walkReclaim k ∧ walkReclaims s k = true)) : exec c s = .next (takeWalkTick s) := by
  rcases h with ⟨rfl, h⟩ | ⟨rfl, h⟩ | ⟨rfl, h⟩ <;> exact congrArg Host.Outcome.next (if_pos h)

/-- The row of an alert timer that has run out is the alert slot's taking of the tick. -/
theorem exec_alertTimer {s : State} {c : Instr}
    (h : (c = .alertTimeout ∧ alertTimesOut s = true) ∨ (c = .alertRelease ∧ alertReleases s = true)
      ∨ (c = .alertReclaim ∧ alertReclaims s = true)) : exec c s = .next (takeAlertTick s) := by
  rcases h with ⟨rfl, h⟩ | ⟨rfl, h⟩ | ⟨rfl, h⟩ <;> exact congrArg Host.Outcome.next (if_pos h)

/-! ### The catch-up (R102) -/

/-- With no block behind, TICK only advances the counter. -/
theorem finishTick_of_taken {s : State} (h : s.dues = (false, false, false)) : finishTick s = s := by
  obtain ⟨table, walk, alert⟩ := dues_eq_iff.mp h
  rw [finishTick, takeTableTick_of_taken table, takeWalkTick_of_taken walk, takeAlertTick_of_taken alert]

/-- The table, the first in order, may as well have taken the tick by its own row. -/
theorem tick_takeTableTick (s : State) : exec .tick s = exec .tick (takeTableTick s) := by
  obtain ⟨table, -, -⟩ := dues_eq_iff.mp (takeTableTick_dues s)
  show Host.Outcome.next (advanceTick (finishTick s)) = .next (advanceTick (finishTick (takeTableTick s)))
  rw [finishTick, finishTick, takeTableTick_of_taken table]

/-- Behind a table that has taken the tick, the Walk Unit may as well have taken it by its own row. -/
theorem tick_takeWalkTick {s : State} (h : s.tableDue = false) : exec .tick s = exec .tick (takeWalkTick s) := by
  obtain ⟨table, walk, -⟩ := dues_eq_iff.mp (takeWalkTick_dues s)
  show Host.Outcome.next (advanceTick (finishTick s)) = .next (advanceTick (finishTick (takeWalkTick s)))
  rw [finishTick, finishTick, takeTableTick_of_taken h, takeTableTick_of_taken (table.trans h),
    takeWalkTick_of_taken walk]

/-- Behind the two others, the alert slot may as well have taken the tick by its own row. -/
theorem tick_takeAlertTick {s : State} (ht : s.tableDue = false) (hw : s.walkDue = false) :
    exec .tick s = exec .tick (takeAlertTick s) := by
  obtain ⟨table, walk, alert⟩ := dues_eq_iff.mp (takeAlertTick_dues s)
  have taken : finishTick (takeAlertTick s) = takeAlertTick s :=
    finishTick_of_taken (dues_eq_iff.mpr ⟨table.trans ht, walk.trans hw, alert⟩)
  show Host.Outcome.next (advanceTick (finishTick s)) = .next (advanceTick (finishTick (takeAlertTick s)))
  rw [taken, finishTick, takeTableTick_of_taken ht, takeWalkTick_of_taken hw]

/-- With no timer that has run out, every block only has the tick behind it. -/
theorem finishTick_of_quiet {s : State} (ht : ∀ i : EntryId, EntryQuiet s i) (hw : ∀ k : WalkId, WalkQuiet s k)
    (ha : alertTimesOut s = false ∧ alertReleases s = false ∧ alertReclaims s = false) :
    finishTick s = { s with tableDue := false, walkDue := false, alertDue := false } := by
  rw [finishTick, takeTableTick_of_quiet ht, takeWalkTick_of_quiet (s := { s with tableDue := false }) hw,
    takeAlertTick_of_quiet (s := { s with tableDue := false, walkDue := false }) ha]

/-- Settles O29: a block takes a tick once, so TICK after its row answers what TICK answers. -/
theorem tickAdvances : Obligations.TickAdvances := by
  intro s c j k tableQuiet walksQuiet alertQuiet
  refine ⟨fun h => ?_, fun _ quiet => ?_, fun _ row => ?_, fun table _ quiet => ?_, fun table _ row => ?_,
    fun table walk _ row => ?_⟩
  · show Host.Outcome.next (advanceTick (finishTick s)) = _
    rcases h with taken | ⟨ht, hw, ha⟩
    · rw [finishTick_of_taken (dues_eq_iff.mpr taken)]
      rfl
    · rw [finishTick_of_quiet ht hw ha]
      rfl
  · rw [tick_takeTableTick, takeTableTick_of_quiet quiet]
  · obtain ⟨table, -, -⟩ := dues_eq_iff.mp (takeTableTick_dues s)
    exact ⟨_, exec_entryTimer row, table, tick_takeTableTick s⟩
  · rw [tick_takeWalkTick table, takeWalkTick_of_quiet quiet]
  · obtain ⟨table', walk', -⟩ := dues_eq_iff.mp (takeWalkTick_dues s)
    exact ⟨_, exec_walkTimer row, table'.trans table, walk', tick_takeWalkTick table⟩
  · obtain ⟨table', walk', alert'⟩ := dues_eq_iff.mp (takeAlertTick_dues s)
    exact ⟨_, exec_alertTimer row, table'.trans table, walk'.trans walk, alert', tick_takeAlertTick table walk⟩

end Sys2Proof.Machine
end

section
/-! SUPPORT. The commands that write a setting of the whole bridge: SET_TIMING, SET_ARBITER, MOVE_APERTURE (R103, R150,
R158). -/

namespace Sys2Proof.Machine

/-- The five checks of SET_TIMING (R103). -/
theorem timingGood_iff (t : Timing) :
    timingGood t = true ↔ t.periodCode ≤ 4 ∧ t.walkTimeout ≠ 0 ∧ t.reclaimTime ≠ 0 ∧ t.walkRetryLimit ≤ 15
      ∧ t.walkBackoffBase ≤ 15 := by
  simp only [timingGood, Bool.and_eq_true, decide_eq_true_eq, and_assoc]

section Head

variable {s : State} {m : MgmtId} {rest : List MgmtId} {ws : List Word}

/-- The head replies with its result, after what its body has written (R155). -/
theorem resultHead_eq {t : State} (h : t.mgmtOrder = m :: rest) (r : Result) :
    resultHead m r t = replied m rest [resultWord r] t := completeHead_eq h _

theorem exec_setTiming (h : HeadHolds s m rest .setTiming ws) :
    exec .setTiming s = .next
      (if timingGood (timingFields ws) = true then
        replied m rest [resultWord .done] { s with timing := timingFields ws }
      else replied m rest [resultWord .badArgument] s) := by
  have order : s.mgmtOrder = m :: rest := h.1
  show Host.Outcome.next (whenHead .setTiming _ s) = _
  rw [whenHead_of_head h, resultHead_eq (t := { s with timing := timingFields ws }) order, resultHead_eq order]

theorem exec_setArbiter (h : HeadHolds s m rest .setArbiter ws) :
    exec .setArbiter s = .next
      (if field (payloadWord ws 0) 0 4 = 0 ∨ 8 < field (payloadWord ws 0) 0 4 then
        replied m rest [resultWord .badArgument] s
      else replied m rest [resultWord .done] { s with guarantee := field (payloadWord ws 0) 0 4 }) := by
  have order : s.mgmtOrder = m :: rest := h.1
  show Host.Outcome.next (whenHead .setArbiter _ s) = _
  rw [whenHead_of_head h]
  simp only [resultHead_eq (t := { s with guarantee := field (payloadWord ws 0) 0 4 }) order,
    resultHead_eq order]

theorem exec_moveAperture (h : HeadHolds s m rest .moveAperture ws) :
    exec .moveAperture s = .next
      (if (payloadWord ws 0).toNat % 0x10000 ≠ 0 ∨ 2 ^ 50 ≤ (payloadWord ws 0).toNat then
        replied m rest [resultWord .badArgument] s
      else
        replied m rest [resultWord .done] { s with apertureBase := (payloadWord ws 0).extractLsb' 0 50 }) := by
  have order : s.mgmtOrder = m :: rest := h.1
  show Host.Outcome.next (whenHead .moveAperture _ s) = _
  rw [whenHead_of_head h]
  have narrow : 50 ≤ 64 := by decide
  simp only [BitVec.setWidth_eq_extractLsb' narrow, resultHead_eq order,
    resultHead_eq (t := { s with apertureBase := (payloadWord ws 0).extractLsb' 0 50 }) order]

end Head

/-- Settles O39: each command's check chooses between the refusal and the one setting written. -/
theorem settingCommands : Obligations.SettingCommands := by
  intro s m rest ws w0 bad
  refine ⟨?timing, ?arbiter, ?aperture⟩
  case timing =>
    intro head t good
    rw [exec_setTiming head]
    exact ⟨fun h => congrArg _ (if_pos ((timingGood_iff _).mpr h)),
      fun h => congrArg _ (if_neg fun hg => h ((timingGood_iff _).mp hg))⟩
  case arbiter =>
    intro head n
    rw [exec_setArbiter head]
    exact ⟨fun low high => congrArg _ (if_neg (not_or.mpr ⟨Nat.ne_of_gt low, Nat.not_lt.mpr high⟩)),
      fun h => congrArg _ (if_pos h)⟩
  case aperture =>
    intro head
    rw [exec_moveAperture head]
    exact ⟨fun aligned below => congrArg _ (if_neg (not_or.mpr ⟨not_not.mpr aligned, Nat.not_le.mpr below⟩)),
      fun h => congrArg _ (if_pos h)⟩

end Sys2Proof.Machine
end

section
/-! SUPPORT. The marks of entries and the counts of the fences that wait for them (R112, R118, R119), through the moves
of a happening and its close. -/

namespace Sys2Proof.Machine

/-! ### Marks, counted -/

/-- A mark stands only on an entry that holds a translation (R118). -/
def MarksHeld (t : State) : Prop :=
  ∀ (i : EntryId) (k : FenceId), (t.entries[i]).marks[k] = true → (t.entries[i]).state.markable = true

/-- The marks of slot `k` are those that its fence counts; a FREE slot has none (R112, R119). -/
def Carried (t : State) (k : FenceId) : Prop :=
  markedEntries k t = if (t.fences[k]).state = .waiting then (t.fences[k]).remaining else 0

/-- The law of marks but for the fences that have lost their last mark and not ended (R120). -/
structure Balanced (t : State) : Prop where
  held : MarksHeld t
  carried : ∀ k : FenceId, Carried t k

theorem FenceState.eq_free {x : FenceState} (h : x ≠ .waiting) : x = .free := by
  cases x
  · rfl
  · exact absurd rfl h

theorem Carried.of_waiting {t : State} {k : FenceId} (h : (t.fences[k]).state = .waiting) :
    Carried t k ↔ (t.fences[k]).remaining = markedEntries k t := by
  rw [Carried, if_pos h, eq_comm]

theorem Carried.of_free {t : State} {k : FenceId} (h : (t.fences[k]).state ≠ .waiting) :
    Carried t k ↔ markedEntries k t = 0 := by
  rw [Carried, if_neg h]

theorem markLaw_iff {t : State} :
    MarkLaw t ↔ Balanced t ∧ ∀ k : FenceId, (t.fences[k]).state = .waiting → 0 < (t.fences[k]).remaining := by
  constructor
  · intro h
    refine ⟨⟨fun i k => (h k).2.2 i, fun k => ?_⟩, fun k hk => ((h k).1 hk).1⟩
    obtain ⟨waiting, free, -⟩ := h k
    by_cases hk : (t.fences[k]).state = .waiting
    · exact (Carried.of_waiting hk).mpr (waiting hk).2
    · exact (Carried.of_free hk).mpr (free (FenceState.eq_free hk))
  · rintro ⟨⟨held, carried⟩, positive⟩ k
    refine ⟨fun hk => ⟨positive k hk, (Carried.of_waiting hk).mp (carried k)⟩, fun hk => ?_, fun i => held i k⟩
    exact (Carried.of_free (by rw [hk]; decide)).mp (carried k)

/-- An entry without a translation has no mark. -/
theorem MarksHeld.unmarked {t : State} (h : MarksHeld t) {i : EntryId} (hi : (t.entries[i]).state.markable = false) :
    (t.entries[i]).marks = noMarks :=
  vector_ext fun k => by
    rw [getElem_replicate]
    by_contra hk
    rw [h i k (by simpa using hk)] at hi
    cases hi

theorem markedEntries_congr {s t : State} {k : FenceId}
    (h : ∀ i : EntryId, (t.entries[i]).marks[k] = (s.entries[i]).marks[k]) : markedEntries k t = markedEntries k s :=
  congrArg (List.countP · _) (funext h)

theorem markedEntries_eq_zero {t : State} {k : FenceId} :
    markedEntries k t = 0 ↔ ∀ i : EntryId, (t.entries[i]).marks[k] = false := by
  simp [markedEntries, List.countP_eq_zero]

/-- Two counts that differ at one index only. -/
theorem countP_finRange_of_ne {n : Nat} {p q : Fin n → Bool} (i : Fin n) (h : ∀ j, j ≠ i → q j = p j) :
    (List.finRange n).countP q + (if p i = true then 1 else 0)
      = (List.finRange n).countP p + if q i = true then 1 else 0 := by
  have front := List.perm_cons_erase (List.mem_finRange i)
  have rest : ((List.finRange n).erase i).countP q = ((List.finRange n).erase i).countP p :=
    List.countP_congr fun j hj => by rw [h j ((List.nodup_finRange n).mem_erase_iff.mp hj).1]
  rw [front.countP_eq q, front.countP_eq p, List.countP_cons, List.countP_cons, rest]
  omega

/-- A write to one entry that leaves it unmarked takes its marks from the count (R119). -/
theorem markedEntries_of_unmarked {s t : State} {i : EntryId} {x : Entry} (he : t.entries = s.entries.set i x)
    (hx : x.marks = noMarks) (k : FenceId) : markedEntries k t + marksOf s.entries[i] k = markedEntries k s := by
  have counts := countP_finRange_of_ne (p := fun j : EntryId => (s.entries[j]).marks[k])
    (q := fun j : EntryId => (t.entries[j]).marks[k]) i fun j hj => by rw [he, set_getElem, if_neg hj]
  have none : (t.entries[i]).marks[k] = false := by rw [he, set_getElem, if_pos rfl, hx, getElem_replicate]
  rw [none] at counts
  exact counts

/-- The fences are the same, and each entry has the marks it had, in a state that may carry them. -/
theorem Balanced.of_marks {s t : State} (h : Balanced s) (hf : t.fences = s.fences)
    (he : ∀ i : EntryId, (t.entries[i]).marks = (s.entries[i]).marks
      ∧ ((s.entries[i]).state.markable = true → (t.entries[i]).state.markable = true)) : Balanced t where
  held i k hk := (he i).2 (h.held i k (by rw [← (he i).1]; exact hk))
  carried k := by
    rw [Carried, hf, markedEntries_congr (s := s) fun i => by rw [(he i).1]]
    exact h.carried k

theorem MarkLaw.of_marks {s t : State} (h : MarkLaw s) (hf : t.fences = s.fences)
    (he : ∀ i : EntryId, (t.entries[i]).marks = (s.entries[i]).marks
      ∧ ((s.entries[i]).state.markable = true → (t.entries[i]).state.markable = true)) : MarkLaw t := by
  obtain ⟨balanced, positive⟩ := markLaw_iff.mp h
  exact markLaw_iff.mpr ⟨balanced.of_marks hf he, by rw [hf]; exact positive⟩

/-- A write to one entry that keeps its marks, in a state that may carry them. -/
theorem keptMarks_set {s t : State} {i : EntryId} {x : Entry} (he : t.entries = s.entries.set i x)
    (hm : x.marks = (s.entries[i]).marks) (hx : (s.entries[i]).state.markable = true → x.state.markable = true)
    (j : EntryId) : (t.entries[j]).marks = (s.entries[j]).marks
      ∧ ((s.entries[j]).state.markable = true → (t.entries[j]).state.markable = true) := by
  rw [he, set_getElem]
  split
  next h => subst h; exact ⟨hm, hx⟩
  · exact ⟨rfl, id⟩

/-! ### The work of a happening -/

/-- In the happening that began in `before`, each fence slot agrees with its marks, or its fence has ended. -/
structure Tracked (before t : State) : Prop where
  held : MarksHeld t
  slot : ∀ k : FenceId, (before.fences[k]).state = .waiting ∧ (t.fences[k]).state = .free
    ∨ (t.fences[k]).state = (before.fences[k]).state ∧ Carried t k

theorem Balanced.tracked {t : State} (h : Balanced t) : Tracked t t :=
  ⟨h.held, fun k => .inr ⟨rfl, h.carried k⟩⟩

/-- Where no fence has ended, every slot agrees with its marks. -/
theorem Tracked.balanced {before t : State} (h : Tracked before t) (hf : SameFences before t) : Balanced t where
  held := h.held
  carried k := by
    rcases h.slot k with ⟨hb, ht⟩ | ⟨-, hc⟩
    · rw [(hf k).1, hb] at ht; cases ht
    · exact hc

section Moves

variable {before s t : State} (h : Tracked before s)

include h

theorem Tracked.of_marks (hf : t.fences = s.fences)
    (he : ∀ i : EntryId, (t.entries[i]).marks = (s.entries[i]).marks
      ∧ ((s.entries[i]).state.markable = true → (t.entries[i]).state.markable = true)) : Tracked before t where
  held i k hk := (he i).2 (h.held i k (by rw [← (he i).1]; exact hk))
  slot k := by
    rw [Carried, hf, markedEntries_congr (s := s) fun i => by rw [(he i).1]]
    exact h.slot k

theorem Tracked.of_same (he : t.entries = s.entries) (hf : t.fences = s.fences) : Tracked before t :=
  h.of_marks hf fun i => by rw [he]; exact ⟨rfl, id⟩

theorem Tracked.write {i : EntryId} {x : Entry} (he : t.entries = s.entries.set i x) (hf : t.fences = s.fences)
    (hm : x.marks = (s.entries[i]).marks) (hx : (s.entries[i]).state.markable = true → x.state.markable = true) :
    Tracked before t := h.of_marks hf (keptMarks_set he hm hx)

/-- An entry loses its marks to their fences (R119). -/
theorem Tracked.drop {i : EntryId} {x : Entry} (he : t.entries = s.entries.set i x) (hx : x.marks = noMarks)
    (hf : t.fences = (lowerAll (marksOf s.entries[i]) s).fences) : Tracked before t where
  held j k hk := by
    rw [he, set_getElem] at hk ⊢
    by_cases hj : j = i
    · simp only [hj, if_true, hx, getElem_replicate] at hk
      cases hk
    · simp only [hj, if_false] at hk ⊢
      exact h.held j k hk
  slot k := by
    have counts := markedEntries_of_unmarked he hx k
    have fence : t.fences[k]
        = { s.fences[k] with remaining := (s.fences[k]).remaining - marksOf s.entries[i] k } := by
      rw [hf, lowerAll_getElem]
    rw [Carried, fence]
    refine (h.slot k).imp_right fun ⟨hs, hc⟩ => ⟨hs, ?_⟩
    simp only [Carried] at hc ⊢
    split
    next hw => rw [if_pos hw] at hc; omega
    next hw => rw [if_neg hw] at hc; omega

theorem Tracked.endFence {k : FenceId} (hk : (s.fences[k]).state = .waiting) : Tracked before (endFence k s) := by
  have ended := (endFence_eq k s).trans (replyDone_eq _ _)
  generalize Machine.endFence k s = u at ended
  have fence (j : FenceId) : u.fences[j] = if j = k then {} else s.fences[j] := by rw [ended, set_getElem]
  have entries : u.entries = s.entries := by rw [ended]
  refine ⟨by simpa only [MarksHeld, entries] using h.held, fun j => ?_⟩
  rw [Carried, fence, markedEntries_congr (s := s) fun i => by rw [entries]]
  by_cases hj : j = k
  · subst hj
    rw [if_pos rfl]
    rcases h.slot j with ⟨-, hs⟩ | ⟨hs, -⟩
    · rw [hk] at hs; cases hs
    · exact .inl ⟨hs.symm.trans hk, rfl⟩
  · rw [if_neg hj]
    exact h.slot j

theorem Tracked.answer (i : EntryId) (a : Answer) (o : Bool) : Tracked before (answerEntry i a o s) := by
  by_cases hf : (s.entries[i]).state.inFlight = true
  · rw [answerEntry_eq hf]
    exact h.drop rfl rfl rfl
  · rw [answerEntry_of_not i a o s (by simpa using hf)]
    exact h

theorem Tracked.queue (i : EntryId) (addr : HAddr) : Tracked before (queueEntry i addr s) := by
  by_cases hs : (s.entries[i]).state = .translating
  · rw [queueEntry_of_translating i addr s hs]
    exact h.write rfl rfl rfl fun _ => rfl
  · simpa only [queueEntry, hs, if_false] using h

/-- An entry loses its marks and is written without any (R90, R96, R108). -/
theorem Tracked.dropSet (i : EntryId) {x : Entry} (hx : x.marks = noMarks) :
    Tracked before (setEntry i x (dropMarks i s)) :=
  h.drop (x := x) (Vector.set_set _ i.isLt) hx (by rw [dropMarks_eq]; rfl)

end Moves

theorem Tracked.move {before : State} {c d : Point} (hm : Move c d) (h : Tracked before c.1) : Tracked before d.1 := by
  cases hm with
  | count c => exact h.of_same (bump_entries ..) (bump_fences ..)
  | record r => exact h.of_same (offerRecord_entries ..) (offerRecord_fences ..)
  | stop kind r => exact h.of_same (applyStop_entries ..) (applyStop_fences ..)
  | answer i a o => exact h.answer i a o
  | queue i addr => exact h.queue i addr
  | place i w p => exact h.write rfl rfl rfl id
  | waitEntry i c r => exact h.write rfl rfl rfl fun _ => rfl
  | requeueEntry i => exact h.write rfl rfl rfl fun _ => rfl
  | unmark i => exact h.dropSet i rfl
  | freeEntry i => exact h.dropSet i rfl
  | endFence k hk => exact h.endFence hk
  | _ => exact h.of_same rfl rfl

theorem Tracked.turns {before : State} {c d : Point} (ht : Turns c d) (h : Tracked before c.1) : Tracked before d.1 :=
  ht.keeps (P := fun e => Tracked before e.1) (fun _ _ hm h => h.move hm) (fun _ _ _ _ _ h => h.of_same rfl rfl) h

/-- A happening opens with the marks as they are; the entry that it accepts was FREE and has none (R49). -/
theorem Tracked.opens {s : State} {c : Point} (ho : Opens s c) (h : Balanced s) : Tracked s c.1 := by
  cases ho with
  | @accepted p rest i r w hq hi =>
    have bare := h.held.unmarked (i := i) (by rw [hi]; rfl)
    exact h.tracked.write rfl rfl bare.symm fun hm => by rw [hi] at hm; cases hm
  | _ => exact h.tracked.of_same rfl rfl

/-! ### The close of a happening (R120) -/

/-- The fences that have lost their last mark end, and the others count the marks that they have (R120). -/
theorem MarkLaw.endFences {before t : State} (h : Balanced t)
    (hb : ∀ k : FenceId, (t.fences[k]).state = .waiting → (before.fences[k]).remaining ≠ 0) :
    MarkLaw (endFences before t) := by
  rw [Machine.endFences, foldl_endFence before _ (List.nodup_finRange 4)]
  have ended (k : FenceId) : k ∈ (List.finRange 4).filter (fenceEnds before t)
      ↔ (t.fences[k]).state = .waiting ∧ (t.fences[k]).remaining = 0 := by
    rw [List.mem_filter]
    simp only [List.mem_finRange, true_and, fenceEnds, Bool.and_eq_true, decide_eq_true_eq]
    exact ⟨fun hk => hk.1, fun hk => ⟨hk, hb k hk.1⟩⟩
  generalize (List.finRange 4).filter (fenceEnds before t) = ks at ended
  have fence (k : FenceId) : (endAll ks t).fences[k] = if k ∈ ks then {} else t.fences[k] := by
    rw [endAll, getElem_ofFn]
  have entries : (endAll ks t).entries = t.entries := by rw [endAll]
  generalize endAll ks t = u at fence entries
  have carried (k : FenceId) := h.carried k
  refine markLaw_iff.mpr ⟨⟨by simpa only [MarksHeld, entries] using h.held, fun k => ?_⟩, fun k => ?_⟩
  · rw [Carried, fence, markedEntries_congr (s := t) fun i => by rw [entries]]
    split
    next hk =>
      obtain ⟨hw, hr⟩ := (ended k).mp hk
      exact ((Carried.of_waiting hw).mp (carried k)).symm.trans hr
    · exact carried k
  · rw [fence]
    split
    · exact fun hw => by cases hw
    next hk => exact fun hw => Nat.pos_of_ne_zero fun hr => hk ((ended k).mpr ⟨hw, hr⟩)

theorem MarkLaw.of_same {s t : State} (h : MarkLaw s) (he : t.entries = s.entries) (hf : t.fences = s.fences) :
    MarkLaw t := h.of_marks hf fun i => by rw [he]; exact ⟨rfl, id⟩

theorem MarkLaw.evalTrigger {s : State} (h : MarkLaw s) : MarkLaw (evalTrigger s) :=
  h.of_same (evalTrigger_entries s) (evalTrigger_fences s)

/-- The close of a happening that began under the law and ended no fence before (R120, R141). -/
theorem MarkLaw.conclude {s t : State} (hs : MarkLaw s) (h : Balanced t) (hf : SameFences s t) :
    MarkLaw (conclude s t) := by
  have positive := (markLaw_iff.mp hs).2
  have ended : MarkLaw (Machine.endFences s t) := .endFences h fun k hk =>
    Nat.ne_of_gt (positive k (by rw [← (hf k).1]; exact hk))
  have closed : MarkLaw (closeEvents s t) := by
    simp only [closeEvents]
    split
    · exact ended.evalTrigger
    · exact ended
  rw [conclude_eq, resetRotation_eq]
  generalize closeEvents s t = u at closed
  split
  · exact closed.of_same rfl rfl
  · exact closed

/-- A happening: it opens, its work is moves that end no fence, and it closes. -/
theorem MarkLaw.happening {s u : State} {c : Point} (hs : MarkLaw s) (ho : Opens s c) (ht : Turns c (u, []))
    (hf : SameFences s u) : MarkLaw (Machine.conclude s u) :=
  have balanced := (markLaw_iff.mp hs).1
  hs.conclude (((Tracked.opens ho balanced).turns ht).balanced hf) hf

end Sys2Proof.Machine
end

section
/-! SUPPORT. The law of marks, kept where fences start (R117) and at the losses of the ports (R59, R61, R127). -/

namespace Sys2Proof.Machine

/-! ### The start of a fence (R117, R118) -/

/-- An entry after the start of a fence of this scope in slot `k` (R118). -/
def Entry.fenced (k : FenceId) (scope : Scope) (e : Entry) : Entry :=
  if fenceMarks scope e = true then { e with marks := e.marks.set k true } else e

theorem withdrawScope_entry (k : FenceId) (cmd : FenceCommand) (scope : Scope) (s : State) (i : EntryId) :
    (withdrawScope k cmd scope s).entries[i] = (s.entries[i]).fenced k scope := by
  simp only [withdrawScope, getElem_ofFn, Entry.fenced]

theorem Entry.fenced_state (k : FenceId) (scope : Scope) (e : Entry) : (e.fenced k scope).state = e.state := by
  unfold Entry.fenced
  split <;> rfl

theorem Entry.fenced_marks (k : FenceId) (scope : Scope) (e : Entry) (j : FenceId) :
    (e.fenced k scope).marks[j] = (e.marks[j] || decide (j = k) && fenceMarks scope e) := by
  unfold Entry.fenced
  split
  next h =>
    rw [set_getElem, h]
    by_cases hj : j = k <;> simp [hj]
  next h => simp [Bool.eq_false_iff.mpr h]

section FenceStart

variable {s t : State} {k : FenceId} {scope : Scope}

/-- A fence that marks nothing changes no entry. -/
theorem MarkLaw.fence_unmarked (h : MarkLaw s) (hn : markCount scope s = 0)
    (he : ∀ i : EntryId, t.entries[i] = (s.entries[i]).fenced k scope) (hf : t.fences = s.fences) : MarkLaw t := by
  refine h.of_marks hf fun i => ?_
  rw [he, Entry.fenced, if_neg (List.countP_eq_zero.mp hn i (List.mem_finRange i))]
  exact ⟨rfl, id⟩

/-- A fence that marks an entry takes a FREE slot, of which no mark stands, and counts the marks that it sets. -/
theorem MarkLaw.fence_waiting (h : MarkLaw s) (hk : (s.fences[k]).state = .free) {f : Fence}
    (hw : f.state = .waiting) (hr : f.remaining = markCount scope s) (hn : markCount scope s ≠ 0)
    (he : ∀ i : EntryId, t.entries[i] = (s.entries[i]).fenced k scope) (hf : t.fences = s.fences.set k f) :
    MarkLaw t := by
  obtain ⟨⟨held, carried⟩, positive⟩ := markLaw_iff.mp h
  have bare := markedEntries_eq_zero.mp ((Carried.of_free (by rw [hk]; decide)).mp (carried k))
  have fence (j : FenceId) : t.fences[j] = if j = k then f else s.fences[j] := by rw [hf, set_getElem]
  have mark (i : EntryId) (j : FenceId) : (t.entries[i]).marks[j]
      = ((s.entries[i]).marks[j] || decide (j = k) && fenceMarks scope s.entries[i]) := by
    simp only [he, Entry.fenced_marks]
  refine markLaw_iff.mpr ⟨⟨fun i j hm => ?_, fun j => ?_⟩, fun j => ?_⟩
  · rw [he, Entry.fenced_state]
    rw [mark, Bool.or_eq_true, Bool.and_eq_true, fenceMarks, Bool.and_eq_true] at hm
    exact hm.elim (held i j) fun hm => hm.2.1
  · by_cases hj : j = k
    · subst hj
      have count : markedEntries j t = markCount scope s :=
        congrArg (List.countP · _) (funext fun i => by
          simp only [mark, bare, decide_true, Bool.true_and, Bool.false_or])
      rw [Carried, fence, if_pos rfl, if_pos hw, hr, count]
    · rw [Carried, fence, if_neg hj, markedEntries_congr (s := s) fun i => by
        simp only [mark, hj, decide_false, Bool.false_and, Bool.or_false]]
      exact carried j
  · rw [fence]
    split
    · exact fun _ => by rw [hr]; exact Nat.pos_of_ne_zero hn
    · exact positive j

theorem MarkLaw.startFence (h : MarkLaw s) (hk : (s.fences[k]).state = .free) (cmd : FenceCommand) (m : MgmtId) :
    MarkLaw (startFence k cmd scope m s) := by
  have entry := withdrawScope_entry k cmd scope s
  have fences : (withdrawScope k cmd scope s).fences = s.fences := rfl
  unfold Machine.startFence
  simp only
  generalize withdrawScope k cmd scope s = u at entry fences
  split
  next hn =>
    rw [freeRetired_eq]
    refine h.fence_unmarked (k := k) hn (fun i => ?_) ?_
    · simp only [replySlot_entries, popOrder_entries, entry]
    · simp only [replySlot_fences, popOrder_fences, fences]
  next hn =>
    refine h.fence_waiting hk (f := ⟨.waiting, some cmd, some scope, markCount scope s, some m⟩) rfl rfl hn
      (fun i => ?_) ?_
    · simp only [setMgmt_entries, setFence_entries, popOrder_entries, entry]
    · simp only [setMgmt_fences, setFence_fences, popOrder_fences, fences]

end FenceStart

/-! ### The losses of the ports -/

/-- The sweep leaves no mark (R61). -/
theorem sweepEntry_marks {e : Entry} (h : e.state.markable = false → e.marks = noMarks) :
    (sweepEntry e).marks = noMarks := by
  unfold sweepEntry
  split
  next hs => exact h (by rw [hs]; rfl)
  · rfl
  next hs => exact h (by rw [hs]; rfl)
  all_goals rfl

/-- With every fence slot FREE and no mark, the law says nothing. -/
theorem MarkLaw.of_none {t : State} (hf : ∀ k : FenceId, (t.fences[k]).state = .free)
    (hm : ∀ i : EntryId, (t.entries[i]).marks = noMarks) : MarkLaw t := fun k => by
  have bare (i : EntryId) : (t.entries[i]).marks[k] = false := by simp only [hm, getElem_replicate]
  refine ⟨fun hw => ?_, fun _ => markedEntries_eq_zero.mpr bare, fun i hi => ?_⟩
  · rw [hf] at hw; cases hw
  · rw [bare] at hi; cases hi

theorem MarkLaw.loseUpstream {s : State} (h : MarkLaw s) : MarkLaw (loseUpstream s) := by
  have held := (markLaw_iff.mp h).1.held
  obtain ⟨-, -, -, -, entries⟩ := loseUpstream_places s
  have fences : (Machine.loseUpstream s).fences = Vector.replicate 4 {} := offerRecord_fences ..
  refine .of_none (fun k => ?_) fun i => ?_
  · rw [fences, getElem_replicate]
  · rw [entries]; exact sweepEntry_marks held.unmarked

/-- An entry that waits to be issued takes its marks with it at the loss of the D-port (R59). -/
def Entry.losesMarks (e : Entry) : Bool :=
  decide (e.state = .queued) || decide (e.state = .retryWait)

/-- The other marks stay, on entries that are ABANDONED (R59). -/
theorem loseEntry_marks (now : Tick) {e : Entry} (h : e.state.markable = false → e.marks = noMarks) (k : FenceId) :
    (loseEntry now e).marks[k] = (e.marks[k] && !e.losesMarks) := by
  have bare (hs : e.state.markable = false) : e.marks[k] = false := by simp only [h hs, getElem_replicate]
  unfold loseEntry Entry.losesMarks
  cases hs : e.state with
  | issued => simp
  | abandoned => simp
  | queued => simp
  | retryWait => simp
  | free => simp
  | translating => rw [bare (by rw [hs]; rfl)]; simp
  | answering =>
    rw [bare (by rw [hs]; rfl)]
    simp only [Bool.false_and]
    split
    · exact bare (by rw [hs]; rfl)
    · rw [getElem_replicate]

/-- A mark that stays is on an entry that may carry it. -/
theorem loseEntry_markable (now : Tick) {e : Entry} (hs : e.state.markable = true) (hl : e.losesMarks = false) :
    (loseEntry now e).state.markable = true := by
  unfold loseEntry
  cases h : e.state <;> simp_all [EntryState.markable, Entry.losesMarks]

theorem loseDownstream_entry (s : State) (i : EntryId) :
    (loseDownstream s).entries[i] = loseEntry s.now s.entries[i] := by
  rw [loseDownstream, getElem_ofFn]

theorem loseDownstream_fence (s : State) (k : FenceId) : (loseDownstream s).fences[k]
    = { s.fences[k] with remaining := (s.fences[k]).remaining - marksLost k s } := by
  rw [loseDownstream, getElem_ofFn]

/-- The marks that the loss of the D-port leaves, and those that it takes (R127). -/
theorem markedEntries_loseDownstream {s : State} (h : MarksHeld s) (k : FenceId) :
    markedEntries k (loseDownstream s) + marksLost k s = markedEntries k s := by
  have kept : markedEntries k (loseDownstream s)
      = (List.finRange 64).countP fun i => (s.entries[i]).marks[k] && !(s.entries[i]).losesMarks := by
    simp only [markedEntries, loseDownstream_entry, loseEntry_marks _ h.unmarked]
  have lost : marksLost k s
      = (List.finRange 64).countP fun i => (s.entries[i]).marks[k] && (s.entries[i]).losesMarks := rfl
  have parts := List.countP_eq_countP_filter_add (List.finRange 64) (fun i => (s.entries[i]).marks[k])
    fun i => (s.entries[i]).losesMarks
  rw [List.countP_filter, List.countP_filter] at parts
  rw [kept, lost, Nat.add_comm]
  exact parts.symm

theorem Balanced.loseDownstream {s : State} (h : Balanced s) : Balanced (loseDownstream s) := by
  refine ⟨fun i k hm => ?_, fun k => ?_⟩
  · simp only [loseDownstream_entry, loseEntry_marks _ h.held.unmarked, Bool.and_eq_true, Bool.not_eq_true'] at hm ⊢
    exact loseEntry_markable _ (h.held i k hm.1) hm.2
  · have counts := markedEntries_loseDownstream h.held k
    have carried := h.carried k
    simp only [Carried, loseDownstream_fence] at carried ⊢
    split
    next hw => rw [if_pos hw] at carried; omega
    next hw => rw [if_neg hw] at carried; omega

/-- The fences that the loss leaves without a mark end at it, and then the drains, which touch no mark
(R127, R78). -/
theorem MarkLaw.loseDown {s : State} (h : MarkLaw s) :
    MarkLaw (endDrains (Machine.endFences s (loseDownstream s))) := by
  obtain ⟨balanced, positive⟩ := markLaw_iff.mp h
  have ended : MarkLaw (Machine.endFences s (loseDownstream s)) := .endFences balanced.loseDownstream fun k hw =>
    Nat.ne_of_gt (positive k (by rw [loseDownstream_fence] at hw; exact hw))
  refine endDrains_keeps (P := MarkLaw) (fun t r ht => ?_) ended
  rw [endDrain_eq, replyDone_eq]
  exact ht.of_same rfl rfl

end Sys2Proof.Machine
end

section
/-! SUPPORT. The law of marks, command by command (R119). -/

namespace Sys2Proof.Machine

/-- What happens between two states keeps the law of marks. -/
def KeepsMarks (s t : State) : Prop := MarkLaw s → MarkLaw t

theorem KeepsMarks.refl (s : State) : KeepsMarks s s := id

theorem KeepsMarks.trans {s t u : State} (h : KeepsMarks s t) (h' : KeepsMarks t u) : KeepsMarks s u :=
  fun hs => h' (h hs)

theorem KeepsMarks.same {s t : State} (he : t.entries = s.entries) (hf : t.fences = s.fences) : KeepsMarks s t :=
  fun hs => hs.of_same he hf

theorem KeepsMarks.ite {b : Prop} [Decidable b] {s t u : State} (ht : KeepsMarks s t) (hu : KeepsMarks s u) :
    KeepsMarks s (if b then t else u) := by
  split
  · exact ht
  · exact hu

theorem KeepsMarks.evalTrigger (s : State) : KeepsMarks s (evalTrigger s) := MarkLaw.evalTrigger

/-! ### Happenings (R43, R93, R102) -/

/-- The work of a happening that began in `s` leads to `u` (R43, R93, R102). -/
def Works (s u : State) : Prop := ∃ c, Opens s c ∧ Turns c (u, [])

theorem KeepsMarks.happening {s u : State} (h : Works s u) (hf : SameFences s u) : KeepsMarks s (conclude s u) :=
  let ⟨_, ho, ht⟩ := h
  fun hs => hs.happening ho ht hf

section Intake

variable {p : ReqPacket} {rest : List ReqPacket} {s : State}

theorem Works.refused {st : Status} {u : State} (h : s.dReqIn = p :: rest) (hr : s.refusalQ.length < 16)
    (hu : Moves (refuseRequest p st { s with dReqIn := rest }, []) (u, [])) : Works s u :=
  ⟨_, .refused _ h hr, (((Move.count intakeRefusals).moves.trans (.bumpRefused _ _ _)).trans hu).turns⟩

theorem Works.admitRequest {i : EntryId} {r : ReqId} (h : s.dReqIn = p :: rest) (hi : (s.entries[i]).state = .free)
    (hm : malformedDetail p = none) (hr : s.refusalQ.length < 16) :
    Works s (admitRequest i r p { s with dReqIn := rest }) := by
  unfold Machine.admitRequest
  simp only
  split
  · exact .refused h hr (.refl _)
  split
  · exact .refused h hr (.refl _)
  split
  · exact .refused h hr (Move.record _).moves
  split
  · exact .refused h hr (.refl _)
  split
  · exact .refused h hr ((Move.record _).moves.trans (Move.stop _ _).moves)
  next w _ =>
    split
    · exact .refused h hr (.refl _)
    split
    · refine ⟨_, .accepted i r w h hi hm, ((Move.count (accepted r)).moves.trans
        (.translateIn (MissMoves.goToWalk 4) w (freeWalks_le_four _) ?_ [])).turns⟩
      rw [bump_entries, set_getElem, if_pos rfl]
      rfl
    · exact .refused h hr ((Move.record _).moves.trans (Move.stop _ _).moves)

theorem Works.checkRequest {i : EntryId} (h : s.dReqIn = p :: rest) (hi : (s.entries[i]).state = .free)
    (hr : s.refusalQ.length < 16) : Works s (checkRequest i p { s with dReqIn := rest }) := by
  unfold Machine.checkRequest
  split
  · exact .refused h hr (.refl _)
  split
  next hm _ => exact .admitRequest h hi hm hr
  · exact .refused h hr (Move.record _).moves
  · exact .refused h hr (Move.record _).moves

end Intake

/-- A command answers a next state that meets the law of marks where the state that it found did. -/
def AnswersMarks (s : State) (o : Host.Outcome State Fault Refusal) : Prop :=
  ∃ t, o = .next t ∧ KeepsMarks s t

theorem AnswersMarks.next {s t : State} (h : KeepsMarks s t) : AnswersMarks s (.next t) := ⟨t, rfl, h⟩

theorem AnswersMarks.of_ite {b : Prop} [Decidable b] {s t : State} (h : KeepsMarks s t) :
    AnswersMarks s (.next (if b then t else s)) := .next (.ite h (.refl s))

theorem AnswersMarks.intake (s : State) : AnswersMarks s (execIntakeTakeRequest s) := by
  refine .next ?_
  split
  next p rest i hq hi =>
    have free : (s.entries[i]).state = .free := by simpa using List.find?_some hi
    have taken : NoInstall s { s with dReqIn := rest } := .of_same rfl rfl rfl rfl rfl
    split
    next hr => exact .happening (.checkRequest hq free hr) (taken.trans (.checkRequest i p _)).fences
    · exact .refl s
  · exact .refl s
  · exact .refl s

theorem AnswersMarks.completionMatching (s : State) : AnswersMarks s (execCompletionMatching s) := by
  refine .next ?_
  split
  · exact .refl s
  next p rest hq =>
    have taken : Inside s { s with uCplIn := rest } := .of_same rfl rfl rfl rfl
    exact .happening ⟨_, .completion hq, .takeCompletion p _⟩ (taken.trans (.takeCompletion p _)).fences

theorem KeepsMarks.takeTableTick (s : State) : KeepsMarks s (takeTableTick s) := by
  have begun : NoInstall s { s with tableDue := false } := .of_same rfl rfl rfl rfl rfl
  exact .ite (.happening
    ⟨_, .due false s.walkDue s.alertDue, (Moves.foldl_same (fun i t => .tickEntry i t) _ _).turns⟩
    (begun.trans (.foldl (fun t i => .tickEntry i t) _ _)).fences) (.refl s)

theorem KeepsMarks.takeWalkTick (s : State) : KeepsMarks s (takeWalkTick s) := by
  have begun : NoInstall s { s with walkDue := false } := .of_same rfl rfl rfl rfl rfl
  exact .ite (.happening ⟨_, .due s.tableDue false s.alertDue, Turns.foldl_same (fun k t => .tickWalk k t) _ _⟩
    (begun.trans (.foldl (fun t k => .tickWalk k t) _ _)).fences) (.refl s)

theorem KeepsMarks.takeAlertTick (s : State) : KeepsMarks s (takeAlertTick s) := by
  have begun : NoInstall s { s with alertDue := false } := .of_same rfl rfl rfl rfl rfl
  exact .ite (.happening ⟨_, .due s.tableDue s.walkDue false, (Moves.tickAlert _ []).turns⟩
    (begun.trans (.tickAlert _)).fences) (.refl s)

/-! ### Arbiters (R80, R171) -/

theorem KeepsMarks.write {s t : State} {i : EntryId} {x : Entry} (he : t.entries = s.entries.set i x)
    (hf : t.fences = s.fences) (hm : MarksHeld s → x.marks = (s.entries[i]).marks)
    (hx : (s.entries[i]).state.markable = true → x.state.markable = true) : KeepsMarks s t := fun hs =>
  hs.of_marks hf (keptMarks_set he (hm (markLaw_iff.mp hs).1.held) hx)

theorem KeepsMarks.grantForward (i : EntryId) (rest : List EntryId) (s : State) :
    KeepsMarks s (grantForward i rest s) := by
  unfold Machine.grantForward
  simp only
  split
  · have issued {t : State} (he : t.entries = s.entries) (hf : t.fences = s.fences) (tx : Option Packet) :
        KeepsMarks s { t with entries := t.entries.set i { s.entries[i] with state := .issued }, uTx := tx } :=
      .write (congrArg (Vector.set · i _) he) hf (fun _ => rfl) fun _ => rfl
    split
    · exact issued (t := bump forwarded { s with issueQ := rest }) (bump_entries ..) (bump_fences ..) _
    · exact issued (t := { s with issueQ := rest }) rfl rfl _
  · exact .same rfl rfl

theorem KeepsMarks.grantOwn (o : OwnRequest) (rest : List OwnRequest) (s : State) :
    KeepsMarks s (grantOwn o rest s) := by
  unfold Machine.grantOwn
  cases o with
  | walk k =>
    simp only [grantWalk]
    refine .ite ?_ (.same rfl rfl)
    exact .same (by rw [setWalk_entries, bump_entries]) (by rw [setWalk_fences, bump_fences])
  | alert =>
    simp only [grantAlert]
    exact .ite (.same rfl rfl) (.same rfl rfl)

theorem KeepsMarks.grantRequest (s : State) : KeepsMarks s (grantRequest s) := by
  have turned (t : State) (n : Nat) : KeepsMarks t { t with rotation := n } := .same rfl rfl
  unfold Machine.grantRequest
  split
  · exact .refl s
  · exact (KeepsMarks.grantForward _ _ s).trans (turned _ _)
  · exact (KeepsMarks.grantOwn _ _ s).trans (turned _ _)
  · exact .ite ((KeepsMarks.grantForward _ _ s).trans (turned _ _)) ((KeepsMarks.grantOwn _ _ s).trans (turned _ _))

theorem KeepsMarks.grantCompletion (s : State) : KeepsMarks s (grantCompletion s) := by
  have turned (t : State) (x : CplTurn) : KeepsMarks t { t with cplTurn := x } := .same rfl rfl
  have management : KeepsMarks s (sendManagement s) := by
    unfold sendManagement
    split
    · exact .same rfl rfl
    · split
      · exact .same rfl rfl
      · exact .refl s
  have passThrough : KeepsMarks s (sendPassThrough s) := by
    unfold sendPassThrough
    split
    · exact .same rfl rfl
    · exact .refl s
  exact .ite (management.trans (turned _ _)) (passThrough.trans (turned _ _))

/-- An entry whose answer is sent had no mark, and has none (R54, R56). -/
theorem sentEntry_marks (now : Tick) {e : Entry} (h : e.marks = noMarks) : (sentEntry now e).marks = noMarks := by
  unfold sentEntry
  split
  · exact h
  · rfl

theorem KeepsMarks.lowerOutstanding (r : ReqId) (s : State) : KeepsMarks s (lowerOutstanding r s) := by
  refine .ite ?_ (.same rfl rfl)
  rw [endDrain_eq, replyDone_eq]
  exact .same rfl rfl

theorem KeepsMarks.sendAnswer (i : EntryId) (rest : List EntryId) (s : State) : KeepsMarks s (sendAnswer i rest s) := by
  unfold Machine.sendAnswer
  simp only
  split
  next a hs _ =>
    have sent : KeepsMarks s (setEntry i (sentEntry s.now s.entries[i])
        (bump (answerCounter (s.entries[i]).requester a)
          { s with answerQ := rest, dTx := some (.completion (answerPacket s.entries[i] a)) })) := by
      refine .write (by rw [setEntry_entries, bump_entries]) (by rw [setEntry_fences, bump_fences]) (fun held => ?_)
        fun hm => by rw [hs] at hm; cases hm
      have bare := held.unmarked (i := i) (by rw [hs]; rfl)
      rw [bare, sentEntry_marks _ bare]
    exact sent.trans (.lowerOutstanding _ _)
  · exact .same rfl rfl

theorem KeepsMarks.grantDeviceCompletion (s : State) : KeepsMarks s (grantDeviceCompletion s) := by
  have turned (t : State) (x : AnswerTurn) : KeepsMarks t { t with answerTurn := x } := .same rfl rfl
  have refusal (r : Refused) (rest : List Refused) : KeepsMarks s (sendRefusal r rest s) := .same rfl rfl
  unfold Machine.grantDeviceCompletion
  split
  · exact .refl s
  · exact (KeepsMarks.sendAnswer _ _ s).trans (turned _ _)
  · exact (refusal _ _).trans (turned _ _)
  · split
    · exact (KeepsMarks.sendAnswer _ _ s).trans (turned _ _)
    · exact (refusal _ _).trans (turned _ _)

theorem AnswersMarks.answerArbiterGrant (s : State) : AnswersMarks s (execAnswerArbiterGrant s) := by
  have request : KeepsMarks s (grantDeviceRequest s) := by
    unfold grantDeviceRequest
    split
    · exact .same rfl rfl
    · exact .refl s
  have raised : KeepsMarks s (raiseRun s) := .ite (.same rfl rfl) (.refl s)
  exact .next (.ite (.refl s) (.ite request (.ite (raised.trans (.grantDeviceCompletion _)) (.ite request (.refl s)))))

/-! ### Management (R148, R152) -/

theorem KeepsMarks.decodeHost {p : ReqPacket} {s t : State} (h : decodeHost p s = some t) : KeepsMarks s t := by
  have refusal {st : Status} {b : Bool}
      (h : (if b = true then some (refuseHost p st s) else none) = some t) : KeepsMarks s t := by
    split at h
    · cases h; exact .same rfl rfl
    · cases h
  unfold Machine.decodeHost at h
  simp only at h
  split at h
  · split at h
    · split at h
      · cases h; exact .same rfl rfl
      · exact refusal h
    · exact refusal h
  · split at h
    · split at h
      · cases h; exact .same rfl rfl
      · cases h
    · exact refusal h

theorem AnswersMarks.managementDecode (s : State) : AnswersMarks s (execManagementDecode s) := by
  refine .next ?_
  split
  · exact .refl s
  next p rest _ =>
    have taken : KeepsMarks s { s with uReqIn := rest } := .same rfl rfl
    cases hd : Machine.decodeHost p { s with uReqIn := rest } with
    | none => exact .refl s
    | some u => exact taken.trans (.decodeHost hd)

theorem KeepsMarks.resultHead (m : MgmtId) (r : Result) (s : State) : KeepsMarks s (resultHead m r s) := .same rfl rfl

theorem KeepsMarks.runFenceCommand (cmd : FenceCommand) (m : MgmtId) (c : Except Result Scope) (s : State) :
    KeepsMarks s (runFenceCommand cmd m c s) := by
  unfold Machine.runFenceCommand
  split
  · exact .resultHead m _ s
  · split
    · exact .same rfl rfl
    next k hk => exact fun hs => hs.startFence (lowestFreeFence_free hk) cmd m

theorem AnswersMarks.fenceCommandResumption (s : State) : AnswersMarks s (execFenceCommandResumption s) := by
  refine .of_ite ?_
  split
  · exact .refl s
  · unfold resumeFence
    simp only
    split
    · exact .runFenceCommand _ _ _ s
    · exact .runFenceCommand _ _ _ s
    · exact .refl s

theorem KeepsMarks.runLoadWindow (m : MgmtId) (ws : List Word) (s : State) : KeepsMarks s (runLoadWindow m ws s) := by
  unfold Machine.runLoadWindow
  simp only
  split
  · exact .resultHead m _ s
  refine .ite (.resultHead m _ s) (.ite (.resultHead m _ s) ?_)
  split
  · exact .resultHead m _ s
  · exact .same rfl rfl

theorem KeepsMarks.runConfigureRequester (m : MgmtId) (ws : List Word) (s : State) :
    KeepsMarks s (runConfigureRequester m ws s) := by
  unfold Machine.runConfigureRequester
  simp only
  split
  · exact .resultHead m _ s
  refine .ite (.resultHead m _ s) ?_
  split
  · exact .resultHead m _ s
  · exact .same rfl rfl

theorem KeepsMarks.runActivate (source : CtxState) (m : MgmtId) (ws : List Word) (s : State) :
    KeepsMarks s (runActivate source m ws s) := by
  unfold Machine.runActivate
  split
  · exact .resultHead m _ s
  · exact .ite (.same rfl rfl) (.resultHead m _ s)

theorem KeepsMarks.runQuiesce (m : MgmtId) (ws : List Word) (s : State) : KeepsMarks s (runQuiesce m ws s) := by
  unfold Machine.runQuiesce
  simp only
  split
  · exact .resultHead m _ s
  split
  · exact .resultHead m _ s
  · exact .resultHead m _ s
  · exact .ite (.same rfl rfl) (.same rfl rfl)
  · exact .ite (.same rfl rfl) (.same rfl rfl)

theorem KeepsMarks.runSetAlert (m : MgmtId) (ws : List Word) (s : State) : KeepsMarks s (runSetAlert m ws s) := by
  have written (a : HAddr) (b : Bool) : KeepsMarks s { s with alertAddress := a, alertEnabled := b } := .same rfl rfl
  unfold Machine.runSetAlert
  simp only
  split
  · exact .resultHead m _ s
  · exact .ite (.resultHead m _ s) (((written _ _).trans (.resultHead m _ _)).trans (.evalTrigger _))

theorem KeepsMarks.clearGroup (g : Fin 18) (s : State) : KeepsMarks s (clearGroup g s) :=
  .ite (.same rfl rfl) (.ite (.same rfl rfl) (.same rfl rfl))

theorem KeepsMarks.answerQuery (words : MgmtOp → Option (List Word)) (s : State) :
    KeepsMarks s (answerQuery words s) := by
  unfold Machine.answerQuery
  split
  · exact .refl s
  · split
    · exact .refl s
    · exact .same rfl rfl

theorem AnswersMarks.head {op : MgmtOp} {body : MgmtId → List Word → State → State} {s : State}
    (hb : ∀ m ws, KeepsMarks s (body m ws s)) : AnswersMarks s (.next (whenHead op body s)) := by
  rcases whenHead_cases op body s with he | ⟨m, _, _, he⟩
  · rw [he]; exact .next (.refl s)
  · rw [he]; exact .next (hb m _)

/-! ### Every command -/

theorem exec_answersMarks (c : Instr) (s : State) : AnswersMarks s (exec c s) := by
  cases c with
  | powerOn aps => exact .next fun _ => (powerOn_marks (aps := aps)).of_same rfl rfl
  | uPortDown => exact .of_ite fun hs => hs.loseUpstream.of_same rfl rfl
  | uPortUp =>
    have up : KeepsMarks s { s with uUp := true } := .same rfl rfl
    exact .next (.ite (.refl s) (up.trans (.evalTrigger _)))
  | resetMessage => exact .of_ite fun hs => hs.loseUpstream.evalTrigger
  | dPortDown => exact .of_ite MarkLaw.loseDown
  | dPortUp => exact .next (.same rfl rfl)
  | holdLineChange port cls on =>
    refine .next ?_
    split <;> exact .ite (.same rfl rfl) (.refl s)
  | deviceRequestArrival p => exact .of_ite (.same rfl rfl)
  | deviceCompletionArrival p => exact .of_ite (.same rfl rfl)
  | hostRequestArrival p => exact .of_ite (.same rfl rfl)
  | hostCompletionArrival p => exact .of_ite (.same rfl rfl)
  | intakeTakeRequest => exact .intake s
  | issueArbiterGrant =>
    exact .next (.ite (.refl s) (.ite (.grantCompletion s) (.ite (.refl s) (.grantRequest s))))
  | answerArbiterGrant => exact .answerArbiterGrant s
  | passThroughRefusal =>
    refine .next ?_
    split
    · exact .refl s
    · exact .ite (.same rfl rfl) (.refl s)
  | managementDecode => exact .managementDecode s
  | completionMatching => exact .completionMatching s
  | tick =>
    have advanced (t : State) : KeepsMarks t (advanceTick t) := .same rfl rfl
    exact .next ((((KeepsMarks.takeTableTick s).trans (.takeWalkTick _)).trans (.takeAlertTick _)).trans (advanced _))
  | requestAgeExpiry e => exact .of_ite (.takeTableTick s)
  | entryRelease e => exact .of_ite (.takeTableTick s)
  | entryReclaim e => exact .of_ite (.takeTableTick s)
  | walkTimeout k => exact .of_ite (.takeWalkTick s)
  | walkRelease k => exact .of_ite (.takeWalkTick s)
  | walkReclaim k => exact .of_ite (.takeWalkTick s)
  | alertTimeout => exact .of_ite (.takeAlertTick s)
  | alertRelease => exact .of_ite (.takeAlertTick s)
  | alertReclaim => exact .of_ite (.takeAlertTick s)
  | loadWindow => exact .head fun m ws => .runLoadWindow m ws s
  | retireWindow => exact .head fun m ws => .runFenceCommand _ m _ s
  | invalidate => exact .head fun m ws => .runFenceCommand _ m _ s
  | fenceCommandResumption => exact .fenceCommandResumption s
  | configureRequester => exact .head fun m ws => .runConfigureRequester m ws s
  | enableRequester => exact .head fun m ws => .runActivate .off m ws s
  | resumeRequester => exact .head fun m ws => .runActivate .stopped m ws s
  | quiesceRequester => exact .head fun m ws => .runQuiesce m ws s
  | setTiming => exact .head fun m ws => .ite (.same rfl rfl) (.resultHead m _ s)
  | setArbiter => exact .head fun m ws => .ite (.resultHead m _ s) (.same rfl rfl)
  | setAlert => exact .head fun m ws => .runSetAlert m ws s
  | ackAlert =>
    refine .head fun m ws => ?_
    have armed : KeepsMarks s { s with alertArmed := true } := .same rfl rfl
    exact (armed.trans (.resultHead m _ _)).trans (.evalTrigger _)
  | clearCounters =>
    refine .head fun m ws => .ite (.same rfl rfl) ?_
    split
    · exact .resultHead m _ s
    next g _ => exact (KeepsMarks.clearGroup g s).trans (.resultHead m _ _)
  | clearFaults => exact .head fun m ws => .same rfl rfl
  | moveAperture => exact .head fun m ws => .ite (.resultHead m _ s) (.same rfl rfl)
  | status => exact .head fun m ws => .same rfl rfl
  | window => exact .next (.answerQuery _ s)
  | requester => exact .next (.answerQuery _ s)
  | counters => exact .next (.answerQuery _ s)
  | fault =>
    refine .head fun m ws => ?_
    split
    · exact .same rfl rfl
    · exact .same rfl rfl
  | time => exact .head fun m ws => .same rfl rfl
  | fences => exact .head fun m ws => .same rfl rfl
  | cacheStorageUpset w page => exact .next (.same rfl rfl)

/-- Settles O49: a fence starts with the count of the marks that it sets, an entry gives up its marks with their counts,
and at the close of a happening the fences end whose counts are 0. -/
theorem marksKept : Obligations.MarksKept := fun s t hs h => by
  unfold step at h
  split at h
  · cases h; exact hs
  next c rest _ =>
    obtain ⟨u, hu, hk⟩ := exec_answersMarks c { s with pending := rest }
    rw [hu] at h
    cases h
    exact hk hs

end Sys2Proof.Machine
end

section
/-! SUPPORT. INVALIDATE and RETIRE_WINDOW at the head of the management order: their checks, the fence that they start,
and the wait for a fence slot (R113 to R118, R156). -/

namespace Sys2Proof.Machine

/-! ### The checks (R114, R115) -/

/-- The checks of a fence command in their order (R114, R115). -/
def fenceCheck (ws : List Word) (s : State) : FenceCommand → Except Result Scope
  | .invalidate => checkInvalidate ws s
  | .retireWindow => checkRetire ws s

/-- The scope that INVALIDATE names, once its index names a window that is not FREE (R114). -/
theorem checkInvalidate_of_window {ws : List Word} {s : State} {w : WinId} (h3 : field (payloadWord ws 0) 0 2 ≠ 3)
    (h0 : field (payloadWord ws 0) 0 2 ≠ 0) (hw : field (payloadWord ws 0) 8 5 = w.val)
    (hs : (s.windows[w]).state ≠ .free) :
    checkInvalidate ws s =
      if field (payloadWord ws 0) 0 2 = 1 then .ok (.window w)
      else if field (payloadWord ws 1) 32 13 < 1 ∨ 4096 < field (payloadWord ws 1) 32 13 then .error .badArgument
      else if (s.windows[w]).pages < field (payloadWord ws 1) 0 22 + field (payloadWord ws 1) 32 13 then
        .error .badArgument
      else .ok (.pages w (field (payloadWord ws 1) 0 22) (field (payloadWord ws 1) 32 13)) := by
  simp only [checkInvalidate, if_neg h3, if_neg h0, asFin_of_eq hw, if_neg hs]

theorem checkRetire_of_window {ws : List Word} {s : State} {w : WinId} (hw : field (payloadWord ws 0) 0 5 = w.val) :
    checkRetire ws s = if (s.windows[w]).state = .valid then .ok (.window w) else .error .badState := by
  have index : asFin 24 (indexField ws) = some w := asFin_of_eq hw
  simp only [checkRetire, index]
  cases (s.windows[w]).state <;> rfl

theorem fenceCheck_of_passes {s : State} {ws : List Word} {cmd : FenceCommand} {scope : Scope}
    (h : PassesChecks s ws cmd scope) : fenceCheck ws s cmd = .ok scope := by
  cases cmd with
  | retireWindow =>
    cases scope with
    | window w =>
      obtain ⟨hw, hv⟩ := h
      exact (checkRetire_of_window hw).trans (if_pos hv)
    | all => exact h.elim
    | pages w first count => exact h.elim
  | invalidate =>
    show checkInvalidate ws s = .ok scope
    cases scope with
    | all =>
      have code : field (payloadWord ws 0) 0 2 = 0 := h
      simp only [checkInvalidate, code, OfNat.zero_ne_ofNat, if_false, if_true]
    | window w =>
      obtain ⟨code, hw, hs⟩ := h
      rw [checkInvalidate_of_window (by rw [code]; decide) (by rw [code]; decide) hw hs, if_pos code]
    | pages w first count =>
      obtain ⟨code, hw, hs, rfl, rfl, low, high, within⟩ := h
      rw [checkInvalidate_of_window (by rw [code]; decide) (by rw [code]; decide) hw hs,
        if_neg (by rw [code]; decide), if_neg (by omega), if_neg (by omega)]

theorem fenceCheck_of_fails {s : State} {ws : List Word} {cmd : FenceCommand} {r : Result}
    (h : FailsChecks s ws cmd r) : fenceCheck ws s cmd = .error r := by
  have named {code : Nat} (hc : code = 1 ∨ code = 2) : code ≠ 3 ∧ code ≠ 0 := by omega
  cases cmd with
  | retireWindow =>
    show checkRetire ws s = .error r
    cases r with
    | badArgument =>
      have index : asFin 24 (indexField ws) = none := asFin_of_ge h
      simp only [checkRetire, index]
    | badState =>
      obtain ⟨w, hw, hv⟩ := h
      rw [checkRetire_of_window hw, if_neg hv]
    | done => exact h.elim
    | overlap v => exact h.elim
  | invalidate =>
    show checkInvalidate ws s = .error r
    cases r with
    | badArgument =>
      rcases h with code | ⟨code, index⟩ | ⟨code, w, hw, hs, count⟩
      · simp only [checkInvalidate, if_pos code]
      · simp only [checkInvalidate, if_neg (named code).1, if_neg (named code).2, asFin_of_ge index]
      · rw [checkInvalidate_of_window (by rw [code]; decide) (by rw [code]; decide) hw hs,
          if_neg (by rw [code]; decide)]
        split
        · rfl
        · rw [if_pos (by omega)]
    | badState =>
      obtain ⟨code, w, hw, hs⟩ := h
      simp only [checkInvalidate, if_neg (named code).1, if_neg (named code).2, asFin_of_eq hw, if_pos hs]
    | done => exact h.elim
    | overlap v => exact h.elim

theorem scopeFits_of_passes {s : State} {ws : List Word} {cmd : FenceCommand} {scope : Scope}
    (h : PassesChecks s ws cmd scope) : ScopeFits cmd scope s := by
  rintro rfl
  exact scopeFits_of_checkRetire (fenceCheck_of_passes h) rfl

/-! ### The command at the head of the order (R116, R152) -/

section Head

variable {s : State} {m : MgmtId} {rest : List MgmtId} {ws : List Word} {cmd : FenceCommand}
  (order : s.mgmtOrder = m :: rest) (op : (s.mgmt[m]).op = some (fenceOp cmd)) (payload : (s.mgmt[m]).payload = ws)

include order op payload

theorem exec_fenceRow (hw : s.headWaiting = false) :
    exec (fenceRow cmd) s = .next (runFenceCommand cmd m (fenceCheck ws s cmd) s) := by
  have head : HeadHolds s m rest (fenceOp cmd) ws := ⟨order, hw, op, payload⟩
  cases cmd with
  | invalidate => exact congrArg _ (whenHead_of_head head _)
  | retireWindow => exact congrArg _ (whenHead_of_head head _)

theorem exec_resumption (hw : s.headWaiting = true) (hk : ∃ k : FenceId, (s.fences[k]).state = .free) :
    exec .fenceCommandResumption s = .next (runFenceCommand cmd m (fenceCheck ws s cmd) s) := by
  have some : (lowestFreeFence s).isSome = true := by
    obtain ⟨k, hk⟩ := hk
    exact List.find?_isSome.mpr ⟨k, List.mem_finRange k, by simpa using hk⟩
  subst payload
  show execFenceCommandResumption s = _
  rw [execFenceCommandResumption, if_pos ⟨hw, some⟩, order]
  simp only [resumeFence, op]
  cases cmd <;> rfl

end Head

/-! ### The start of the fence (R117, R118) -/

theorem fenceMarks_eq (scope : Scope) (s : State) (i : EntryId) :
    fenceMarks scope s.entries[i] = markedAtStart scope s i := by
  unfold fenceMarks markedAtStart
  cases (s.entries[i]).state <;> rfl

/-- What a fence of this scope takes from the Map Cache and the walks, and its marks (R117). -/
def withdrawn (k : FenceId) (scope : Scope) (s : State) : State :=
  { s with
    cache := s.cache.filter fun c => !scope.covers c.window c.page
    walks := Vector.ofFn fun j : Fin 4 =>
      if (s.walks[j]).state.underWay = true ∧ scope.covers (s.walks[j]).window (s.walks[j]).page = true then
        { s.walks[j] with stale := true }
      else s.walks[j]
    entries := Vector.ofFn fun i : Fin 64 =>
      if markedAtStart scope s i = true then { s.entries[i] with marks := (s.entries[i]).marks.set k true }
      else s.entries[i] }

theorem withdrawScope_eq (k : FenceId) (cmd : FenceCommand) (scope : Scope) (s : State) :
    withdrawScope k cmd scope s = { withdrawn k scope s with windows := startedWindows cmd scope .retiring s } := by
  simp only [withdrawScope, withdrawn, fenceMarks_eq, Bool.and_eq_true]
  rfl

/-- A fence of a scope that its command's checks have passed starts in slot `k` (R117, R120). -/
theorem startFence_eq {s : State} {m : MgmtId} {rest : List MgmtId} {cmd : FenceCommand} {scope : Scope}
    (order : s.mgmtOrder = m :: rest) (fits : ScopeFits cmd scope s) (k : FenceId) :
    startFence k cmd scope m s = startedFence k cmd scope m rest s := by
  have count : markCount scope s = (List.finRange 64).countP (markedAtStart scope s) :=
    congrArg (List.countP · _) (funext fun i => fenceMarks_eq scope s i)
  have freed := freedWindows_startedWindows fits ⟨.free, some cmd, some scope, 0, none⟩ rfl rfl
  have tail : (withdrawn k scope s).mgmtOrder.tail = rest := congrArg List.tail order
  simp only [startFence, startedFence, count, withdrawScope_eq, freeRetired_eq, popOrder, freed, tail]
  rfl

/-- Settles O35: the checks give the scope and the lowest FREE slot, in which the fence starts. -/
theorem fenceStarts : Obligations.FenceStarts := by
  intro s m rest ws cmd scope k order op payload passes lowest
  have started : runFenceCommand cmd m (fenceCheck ws s cmd) s = startedFence k cmd scope m rest s := by
    simp only [runFenceCommand, fenceCheck_of_passes passes, lowestFreeFence_of lowest]
    exact startFence_eq order (scopeFits_of_passes passes) k
  have executed (hw : s.headWaiting = false) :
      exec (fenceRow cmd) s = .next (startedFence k cmd scope m rest s) := by
    rw [exec_fenceRow order op payload hw, started]
  refine ⟨fun hw => ⟨?_, ?_⟩, fun hw => ?_⟩
  · rintro rfl; exact executed hw
  · rintro rfl; exact executed hw
  · rw [exec_resumption order op payload hw ⟨k, lowest.1⟩, started]

/-- Settles O36: with no FREE slot the command stays at the head, and a failed check is its reply. -/
theorem fenceWaitsOrFails : Obligations.FenceWaitsOrFails := by
  intro s m rest ws cmd scope r order op payload
  have failed (fails : FailsChecks s ws cmd r) :
      runFenceCommand cmd m (fenceCheck ws s cmd) s = replied m rest [resultWord r] s := by
    simp only [runFenceCommand, fenceCheck_of_fails fails]
    exact resultHead_eq order r
  refine ⟨fun hw passes busy => ?_, fun hw fails => ?_, fun hw fails free => ?_⟩
  · have none : lowestFreeFence s = none := by
      simpa only [lowestFreeFence, List.find?_eq_none, List.mem_finRange, true_implies, decide_eq_true_eq] using busy
    rw [exec_fenceRow order op payload hw]
    simp only [runFenceCommand, fenceCheck_of_passes passes, none]
  · rw [exec_fenceRow order op payload hw, failed fails]
  · rw [exec_resumption order op payload hw free, failed fails]

end Sys2Proof.Machine
end

section
/-! SUPPORT. The words of STATUS and FENCES: where a packed number is read back, and how large the counts get
(R129, R159, R182). -/

namespace Sys2Proof.Machine

/-! ### Reading back a packed number -/

/-- A number packed at `lo` is read back there when it fits and every other number of the list starts past it
or ends below it. -/
theorem field_packWord {fs : List (Nat × Nat)} {lo width v : Nat} (room : lo + width ≤ 64) (fits : v < 2 ^ width)
    (here : (lo, v) ∈ fs) (apart : ∀ f ∈ fs, f = (lo, v) ∨ lo + width ≤ f.1 ∨ f.2 < 2 ^ (lo - f.1)) :
    field (packWord fs) lo width = v := by
  refine Nat.eq_of_testBit_eq fun n => ?_
  rw [testBit_field, getLsbD_packWord]
  by_cases hn : n < width
  · have bit : (fs.any fun f => decide (f.1 ≤ lo + n) && f.2.testBit (lo + n - f.1)) = v.testBit n := by
      refine Bool.eq_iff_iff.mpr ⟨fun h => ?_, fun h => List.any_eq_true.mpr ⟨(lo, v), here, by simpa using h⟩⟩
      obtain ⟨f, hf, hb⟩ := List.any_eq_true.mp h
      obtain ⟨hle, hbit⟩ : f.1 ≤ lo + n ∧ f.2.testBit (lo + n - f.1) = true := by simpa using hb
      rcases apart f hf with rfl | past | below
      · simpa using hbit
      · omega
      · have high : f.2 < 2 ^ (lo + n - f.1) :=
          below.trans_le (Nat.pow_le_pow_right Nat.two_pos (by omega))
        rw [Nat.testBit_lt_two_pow high] at hbit
        contradiction
    have word : lo + n < 64 := by omega
    simp only [hn, word, decide_true, Bool.true_and, bit]
  · have high : v < 2 ^ n := fits.trans_le (Nat.pow_le_pow_right Nat.two_pos (by omega))
    simp only [hn, decide_false, Bool.false_and, Nat.testBit_lt_two_pow high]

/-- Numbers to pack, each as its place, its width and its value: every value fits its width inside the word, and the
widths follow one another without overlap. -/
def LaidOut (fs : List (Nat × Nat × Nat)) : Prop :=
  (∀ f ∈ fs, f.1 + f.2.1 ≤ 64 ∧ f.2.2 < 2 ^ f.2.1) ∧ fs.Pairwise fun f g => f.1 + f.2.1 ≤ g.1

/-- The word of laid out numbers. -/
def laidWord (fs : List (Nat × Nat × Nat)) : Word :=
  packWord (fs.map fun f => (f.1, f.2.2))

/-- Each laid out number is read back at its place with its width. -/
theorem LaidOut.field {fs : List (Nat × Nat × Nat)} (laid : LaidOut fs) {lo width v : Nat} (n : Nat)
    (at_n : fs[n]? = some (lo, width, v)) : field (laidWord fs) lo width = v := by
  obtain ⟨fits, order⟩ := laid
  have here := List.mem_of_getElem? at_n
  refine field_packWord (fits _ here).1 (fits _ here).2 (List.mem_map.mpr ⟨_, here, rfl⟩) fun f hf => ?_
  obtain ⟨g, hg, rfl⟩ := List.mem_map.mp hf
  have trichotomy : g = (lo, width, v) ∨ g.1 + g.2.1 ≤ lo ∨ lo + width ≤ g.1 :=
    List.Pairwise.forall_of_forall_of_flip (R := fun a b => a = b ∨ a.1 + a.2.1 ≤ b.1 ∨ b.1 + b.2.1 ≤ a.1)
      (fun _ _ => .inl rfl) (order.imp fun h => .inr (.inl h)) (order.imp fun h => .inr (.inr h)) hg here
  rcases trichotomy with same | below | above
  · exact .inl (by rw [same])
  · exact .inr (.inr ((fits g hg).2.trans_le (Nat.pow_le_pow_right Nat.two_pos (by omega))))
  · exact .inr (.inl above)

/-- A field inside a field. -/
theorem field_of_field (w : Word) {lo width a b : Nat} (h : a + b ≤ width) :
    field w (lo + a) b = field w lo width / 2 ^ a % 2 ^ b := by
  refine Nat.eq_of_testBit_eq fun n => ?_
  rw [testBit_field, Nat.testBit_mod_two_pow, Nat.testBit_div_two_pow, testBit_field, Nat.add_assoc,
    Nat.add_comm n a]
  by_cases hn : n < b
  · have hw : a + n < width := by omega
    simp only [hn, hw, decide_true, Bool.true_and]
  · simp only [hn, decide_false, Bool.false_and]

theorem flag_lt (b : Bool) : flag b < 2 := by
  cases b <;> decide

/-- A bit that is read as a flag. -/
theorem getLsbD_of_field_flag {w : Word} {n : Nat} {b : Bool} (h : field w n 1 = flag b) : w.getLsbD n = b := by
  have bit := testBit_field w n 1 0
  rw [h] at bit
  cases b <;> simpa [flag] using bit.symm

/-- A word that packs one number at bit 0 is that number. -/
theorem packWord_zero (v : Nat) : packWord [(0, v)] = BitVec.ofNat 64 v := by
  simp [packWord]

/-! ### How large the counts get -/

theorem countIdx_le (n : Nat) (p : Fin n → Bool) : countIdx n p ≤ n :=
  List.countP_le_length.trans_eq List.length_finRange

theorem slotStateCode_le (x : SlotState) : slotStateCode x ≤ 4 := by
  cases x <;> decide

/-- The backlog holds each entry at most once (R28). -/
theorem PlaceLaw.backlog_length_le {s : State} (places : PlaceLaw s) : s.backlog.length ≤ 64 := by
  obtain ⟨-, -, -, -, once, -⟩ := places
  have backlog : s.backlog.Nodup := (List.nodup_append.mp once).2.1
  simpa using backlog.length_le_card

/-- A fence waits for at most every entry (R119). -/
theorem MarkLaw.remaining_le {s : State} (marks : MarkLaw s) {k : FenceId}
    (waiting : (s.fences[k]).state = .waiting) : (s.fences[k]).remaining ≤ 64 :=
  ((marks k).1 waiting).2.trans_le (countIdx_le 64 _)

/-! ### The FENCES word (R129) -/

/-- The sixteen bits of a WAITING fence, as the number that they are. -/
theorem fenceBits_waiting {f : Fence} (h : f.state = .waiting) :
    fenceBits f = 1 + 2 * flag (decide (f.command = some .retireWindow)) + 256 * f.remaining := by
  simp only [fenceBits, h]

theorem fenceBits_free {f : Fence} (h : f.state = .free) : fenceBits f = 0 := by
  simp only [fenceBits, h]

theorem fenceBits_lt {f : Fence} (h : f.state = .waiting → f.remaining ≤ 64) : fenceBits f < 2 ^ 16 := by
  rcases hs : f.state with _ | _
  · rw [fenceBits_free hs]
    exact Nat.two_pow_pos 16
  · have := flag_lt (decide (f.command = some .retireWindow))
    have := h hs
    rw [fenceBits_waiting hs]
    omega

/-- Each fence slot has its own sixteen bits of the word. -/
theorem field_fencesWord {fs : Vector Fence 4}
    (small : ∀ k : FenceId, (fs[k]).state = .waiting → (fs[k]).remaining ≤ 64) (k : FenceId) :
    field (fencesWord fs) (16 * k.val) 16 = fenceBits fs[k] := by
  refine field_packWord (by omega) (fenceBits_lt (small k))
    (List.mem_map.mpr ⟨k, List.mem_finRange k, rfl⟩) fun f hf => ?_
  obtain ⟨j, -, rfl⟩ := List.mem_map.mp hf
  rcases lt_trichotomy j.val k.val with below | same | above
  · exact .inr (.inr ((fenceBits_lt (small j)).trans_le (Nat.pow_le_pow_right Nat.two_pos (by omega))))
  · obtain rfl := Fin.ext same
    exact .inl rfl
  · exact .inr (.inl (by omega))

/-- What the FENCES word shows of a WAITING fence slot. -/
theorem fencesWord_waiting {fs : Vector Fence 4}
    (small : ∀ k : FenceId, (fs[k]).state = .waiting → (fs[k]).remaining ≤ 64) {k : FenceId}
    (waiting : (fs[k]).state = .waiting) :
    field (fencesWord fs) (16 * k.val) 1 = 1
      ∧ field (fencesWord fs) (16 * k.val + 1) 1 = flag (decide ((fs[k]).command = some .retireWindow))
      ∧ field (fencesWord fs) (16 * k.val + 8) 7 = (fs[k]).remaining := by
  have bits := (field_fencesWord small k).trans (fenceBits_waiting waiting)
  have command := flag_lt (decide ((fs[k]).command = some .retireWindow))
  have count := small k waiting
  have low := field_of_field (fencesWord fs) (lo := 16 * k.val) (width := 16) (a := 0) (b := 1) (by omega)
  have next := field_of_field (fencesWord fs) (lo := 16 * k.val) (width := 16) (a := 1) (b := 1) (by omega)
  have high := field_of_field (fencesWord fs) (lo := 16 * k.val) (width := 16) (a := 8) (b := 7) (by omega)
  rw [bits] at low next high
  rw [Nat.add_zero] at low
  rw [low, next, high]
  omega

/-! ### The words of STATUS (R159) -/

/-- The numbers of word 0 of STATUS, with their widths (R182). -/
def statusCounts (s : State) : List (Nat × Nat × Nat) :=
  [ (0, 7, countIdx 64 fun i => decide ((s.entries[i]).state = .free)),
    (8, 7, s.backlog.length),
    (16, 3, countIdx 4 fun k => decide ((s.walks[k]).state ≠ .free)),
    (20, 3, countIdx 4 fun k => decide ((s.fences[k]).state = .waiting)),
    (24, 5, s.faults.length),
    (32, 8, s.lost),
    (40, 1, flag s.overflowPending) ]

/-- The numbers of word 1 of STATUS, with their widths (R182). -/
def statusFlags (s : State) : List (Nat × Nat × Nat) :=
  [ (0, 1, flag s.alertEnabled),
    (1, 1, flag s.alertArmed),
    (4, 3, slotStateCode s.alertSlot.state),
    (8, 1, flag s.dUp),
    (16, 4, countIdx 8 fun m => decide ((s.mgmt[m]).state ≠ .free)) ]

theorem statusWords_eq (s : State) :
    statusWords s =
      [laidWord (statusCounts s), laidWord (statusFlags s), packWord [(0, s.apertureBase.toNat)], 0] := rfl

theorem statusCounts_laidOut {s : State} (capacity : CapacityLaw s) (places : PlaceLaw s) :
    LaidOut (statusCounts s) := by
  obtain ⟨-, -, -, -, -, -, -, faults, lost, -⟩ := capacity
  have free := countIdx_le 64 fun i => decide ((s.entries[i]).state = .free)
  have backlog := places.backlog_length_le
  have walks := countIdx_le 4 fun k => decide ((s.walks[k]).state ≠ .free)
  have fences := countIdx_le 4 fun k => decide ((s.fences[k]).state = .waiting)
  have overflow := flag_lt s.overflowPending
  refine ⟨?_, by simp [statusCounts]⟩
  simp only [statusCounts, List.forall_mem_cons, List.not_mem_nil, false_implies, implies_true, and_true]
  omega

theorem statusFlags_laidOut (s : State) : LaidOut (statusFlags s) := by
  have enabled := flag_lt s.alertEnabled
  have armed := flag_lt s.alertArmed
  have alert := slotStateCode_le s.alertSlot.state
  have link := flag_lt s.dUp
  have mgmt := countIdx_le 8 fun m => decide ((s.mgmt[m]).state ≠ .free)
  refine ⟨?_, by simp [statusFlags]⟩
  simp only [statusFlags, List.forall_mem_cons, List.not_mem_nil, false_implies, implies_true, and_true]
  omega

/-- Settles O43: the numbers of each word are laid out without overlap and stay within their widths, by the capacity
law, by the law of places for the backlog and by the law of marks for the remaining counts. -/
theorem statusAndFencesReport : Obligations.StatusAndFencesReport := by
  intro s w0 w1 w2 w3 capacity places marks words
  have counts := statusCounts_laidOut capacity places
  have flags := statusFlags_laidOut s
  rw [statusWords_eq] at words
  obtain ⟨rfl, rfl, rfl, rfl⟩ : laidWord (statusCounts s) = w0 ∧ laidWord (statusFlags s) = w1
      ∧ packWord [(0, s.apertureBase.toNat)] = w2 ∧ 0 = w3 := by simpa using words
  refine ⟨⟨counts.field 0 rfl, counts.field 1 rfl, counts.field 2 rfl, counts.field 3 rfl, counts.field 4 rfl,
    counts.field 5 rfl, getLsbD_of_field_flag (counts.field 6 rfl), getLsbD_of_field_flag (flags.field 0 rfl),
    getLsbD_of_field_flag (flags.field 1 rfl), flags.field 2 rfl, getLsbD_of_field_flag (flags.field 3 rfl),
    flags.field 4 rfl, ?_, rfl⟩, fun k => ⟨fun free => ?_, fun waiting => ?_⟩⟩
  · rw [packWord_zero]
    exact BitVec.eq_of_toNat_eq (by simp)
  · rw [field_fencesWord (fun _ => marks.remaining_le) k, fenceBits_free free]
  · simpa only [flag, decide_eq_true_eq] using fencesWord_waiting (fun _ => marks.remaining_le) waiting

end Sys2Proof.Machine
end

section
/-! SUPPORT. The alert trigger (R141): its five conditions, the switches that no happening turns on, and the close of a
happening, which acts on the records it enqueued and on the alert slot it freed. -/

namespace Sys2Proof.Machine

/-! ### The five conditions (R141) -/

theorem triggerHolds_iff (s : State) :
    triggerHolds s = true ↔ s.alertEnabled = true ∧ s.alertArmed = true ∧ s.faults ≠ [] ∧ s.alertSlot.state = .free
      ∧ s.uUp = true := by
  simp only [triggerHolds, Bool.and_eq_true, Bool.not_eq_true', List.isEmpty_eq_false_iff, decide_eq_true_eq, and_assoc,
    ne_eq]

theorem evalTrigger_eq (s : State) :
    evalTrigger s =
      if s.alertEnabled = true ∧ s.alertArmed = true ∧ s.faults ≠ [] ∧ s.alertSlot.state = .free ∧ s.uUp = true then
        fireAlert s
      else s :=
  if_congr (triggerHolds_iff s) rfl rfl

theorem AlertLaw.of_linkDown {s : State} (h : s.uUp = false) : AlertLaw s := by
  rw [AlertLaw, triggerHolds, h, Bool.and_false]

theorem AlertLaw.of_noRecords {s : State} (h : s.faults = []) : AlertLaw s := by
  simp [AlertLaw, triggerHolds, h]

theorem AlertLaw.of_disabled {s : State} (h : s.alertEnabled = false) : AlertLaw s := by
  simp [AlertLaw, triggerHolds, h]

theorem AlertLaw.of_slotBusy {s : State} (h : s.alertSlot.state ≠ .free) : AlertLaw s := by
  simp [AlertLaw, triggerHolds, h]

/-- After an evaluation the conditions do not hold together: a fired alert holds its slot (R141). -/
theorem alertLaw_evalTrigger (s : State) : AlertLaw (evalTrigger s) := by
  unfold evalTrigger
  split
  · exact .of_slotBusy (by simp [fireAlert])
  next h => exact Bool.eq_false_iff.mpr h

/-! ### The switches of the trigger -/

/-- Enabling, arming and the U-port's link, which a happening that ends in a close does not turn on (R139, R140,
R174). -/
structure KeepsSwitches (s t : State) : Prop where
  enabled : t.alertEnabled = s.alertEnabled
  armed : t.alertArmed = true → s.alertArmed = true
  link : t.uUp = s.uUp

theorem KeepsSwitches.same {s t : State} (he : t.alertEnabled = s.alertEnabled) (ha : t.alertArmed = s.alertArmed)
    (hu : t.uUp = s.uUp) : KeepsSwitches s t :=
  ⟨he, fun h => ha ▸ h, hu⟩

theorem KeepsSwitches.refl (s : State) : KeepsSwitches s s := .same rfl rfl rfl

theorem KeepsSwitches.trans {s t u : State} (h : KeepsSwitches s t) (h' : KeepsSwitches t u) : KeepsSwitches s u :=
  ⟨h'.enabled.trans h.enabled, fun ha => h.armed (h'.armed ha), h'.link.trans h.link⟩

theorem Move.keepsSwitches {c d : Point} (h : Move c d) : KeepsSwitches c.1 d.1 := by
  cases h with
  | count c => exact .same (bump_alertEnabled ..) (bump_alertArmed ..) (bump_uUp ..)
  | record r => exact .same (offerRecord_alertEnabled ..) (offerRecord_alertArmed ..) (offerRecord_uUp ..)
  | stop kind r => exact .same (applyStop_alertEnabled ..) (applyStop_alertArmed ..) (applyStop_uUp ..)
  | answer i a o => exact .same (answerEntry_alertEnabled ..) (answerEntry_alertArmed ..) (answerEntry_uUp ..)
  | queue i addr => exact .same (queueEntry_alertEnabled ..) (queueEntry_alertArmed ..) (queueEntry_uUp ..)
  | endFence k => rw [endFence_eq, replyDone_eq]; exact .same rfl rfl rfl
  | fireAlert => exact ⟨rfl, fun h => Bool.noConfusion h, rfl⟩
  | _ => exact .same rfl rfl rfl

theorem Moves.keepsSwitches {s t : State} {L M : List EntryId} (h : Moves (s, L) (t, M)) : KeepsSwitches s t :=
  h.keeps (P := fun e => KeepsSwitches s e.1) (fun _ _ hm hs => hs.trans hm.keepsSwitches) (.refl _)

theorem Turns.keepsSwitches {s t : State} {L M : List EntryId} (h : Turns (s, L) (t, M)) : KeepsSwitches s t :=
  h.keeps (P := fun e => KeepsSwitches s e.1) (fun _ _ hm hs => hs.trans hm.keepsSwitches)
    (fun _ _ _ _ _ hs => ⟨hs.enabled, hs.armed, hs.link⟩) (.refl _)

theorem Opens.keepsSwitches {s : State} {c : Point} (h : Opens s c) : KeepsSwitches s c.1 := by
  cases h <;> exact .same rfl rfl rfl

theorem Works.keepsSwitches {s u : State} (h : Works s u) : KeepsSwitches s u :=
  let ⟨_, opens, turns⟩ := h
  opens.keepsSwitches.trans turns.keepsSwitches

/-! ### The close (R141) -/

/-- Without an evaluation at the close, the happening enqueued no record and freed no alert slot. -/
theorem triggerPoint_false {before s : State} (h : ¬triggerPoint before s = true) :
    s.faults.length ≤ before.faults.length ∧ (s.alertSlot.state = .free → before.alertSlot.state = .free) := by
  simp only [triggerPoint, Bool.or_eq_true, Bool.and_eq_true, decide_eq_true_eq, not_or, not_lt, not_and] at h
  obtain ⟨fewer, busy⟩ := h
  exact ⟨fewer, fun free => by_contra fun used => busy used free⟩

/-- With the switches as they were, a happening brings the conditions about only by a record or by freeing the alert
slot, and then its close evaluates the trigger (R141). -/
theorem AlertLaw.closeEvents {before s : State} (hb : AlertLaw before) (h : KeepsSwitches before s) :
    AlertLaw (closeEvents before s) := by
  have kept : KeepsSwitches before (endFences before s) := h.trans (Moves.endFences before s []).keepsSwitches
  unfold Machine.closeEvents
  simp only
  split
  · exact alertLaw_evalTrigger _
  next hp =>
    obtain ⟨fewer, busy⟩ := triggerPoint_false hp
    refine Bool.eq_false_iff.mpr fun holds => Bool.eq_false_iff.mp hb ?_
    obtain ⟨enabled, armed, records, free, up⟩ := (triggerHolds_iff _).mp holds
    have waiting : before.faults ≠ [] := List.length_pos_iff.mp ((List.length_pos_iff.mpr records).trans_le fewer)
    exact (triggerHolds_iff _).mpr
      ⟨kept.enabled ▸ enabled, kept.armed armed, waiting, busy free, kept.link ▸ up⟩

theorem triggerHolds_resetRotation (before s : State) : triggerHolds (resetRotation before s) = triggerHolds s := by
  rw [resetRotation_eq]
  split
  · rfl
  · rfl

theorem AlertLaw.conclude {before s : State} (hb : AlertLaw before) (h : KeepsSwitches before s) :
    AlertLaw (conclude before s) := by
  rw [conclude_eq, AlertLaw, triggerHolds_resetRotation]
  exact hb.closeEvents h

end Sys2Proof.Machine
end

section
/-! SUPPORT. The law of the alert trigger, command by command (R141). -/

namespace Sys2Proof.Machine

/-- What happens between two states keeps the law of the alert trigger. -/
def KeepsAlert (s t : State) : Prop := AlertLaw s → AlertLaw t

theorem KeepsAlert.refl (s : State) : KeepsAlert s s := id

theorem KeepsAlert.trans {s t u : State} (h : KeepsAlert s t) (h' : KeepsAlert t u) : KeepsAlert s u :=
  fun hs => h' (h hs)

/-- The five fields that the trigger reads are as they were. -/
theorem KeepsAlert.same {s t : State}
    (h : (t.alertEnabled, t.alertArmed, t.faults, t.alertSlot, t.uUp)
      = (s.alertEnabled, s.alertArmed, s.faults, s.alertSlot, s.uUp)) : KeepsAlert s t := by
  simp only [Prod.mk.injEq] at h
  obtain ⟨enabled, armed, records, slot, link⟩ := h
  simp only [KeepsAlert, AlertLaw, triggerHolds, enabled, armed, records, slot, link, imp_self]

theorem KeepsAlert.of {s t : State} (h : AlertLaw t) : KeepsAlert s t := fun _ => h

theorem KeepsAlert.ite {b : Prop} [Decidable b] {s t u : State} (ht : KeepsAlert s t) (hu : KeepsAlert s u) :
    KeepsAlert s (if b then t else u) := by
  split
  · exact ht
  · exact hu

/-! ### Operations of the state -/

theorem KeepsAlert.bump (c : Counter) (s : State) : KeepsAlert s (bump c s) :=
  .same (by rw [bump_alertEnabled, bump_alertArmed, bump_faults, bump_alertSlot, bump_uUp])

theorem KeepsAlert.endFence (k : FenceId) (s : State) : KeepsAlert s (endFence k s) := by
  rw [endFence_eq, replyDone_eq]
  exact .same rfl

theorem KeepsAlert.endDrain (r : ReqId) (s : State) : KeepsAlert s (endDrain r s) := by
  rw [endDrain_eq, replyDone_eq]
  exact .same rfl

/-- The loss of the D-port (R176). -/
theorem KeepsAlert.loseDown (s : State) : KeepsAlert s (endDrains (endFences s (loseDownstream s))) :=
  endDrains_keeps (P := KeepsAlert s) (fun t r ht => ht.trans (.endDrain r t))
    (endFences_keeps (P := KeepsAlert s) (fun t k ht => ht.trans (.endFence k t)) (.same rfl))

/-! ### Happenings (R43, R93, R102) -/

/-- A happening of any kind: its close has acted on what it did (R141). -/
theorem KeepsAlert.happening {s u : State} (h : Works s u) : KeepsAlert s (conclude s u) := fun hs =>
  hs.conclude h.keepsSwitches

theorem KeepsAlert.takeTableTick (s : State) : KeepsAlert s (takeTableTick s) :=
  .ite (.happening ⟨_, .due false s.walkDue s.alertDue, (Moves.foldl_same (fun i t => .tickEntry i t) _ _).turns⟩)
    (.refl s)

theorem KeepsAlert.takeWalkTick (s : State) : KeepsAlert s (takeWalkTick s) :=
  .ite (.happening ⟨_, .due s.tableDue false s.alertDue, Turns.foldl_same (fun k t => .tickWalk k t) _ _⟩) (.refl s)

theorem KeepsAlert.takeAlertTick (s : State) : KeepsAlert s (takeAlertTick s) :=
  .ite (.happening ⟨_, .due s.tableDue s.walkDue false, (Moves.tickAlert _ []).turns⟩) (.refl s)

theorem KeepsAlert.tick (s : State) : KeepsAlert s (advanceTick (finishTick s)) :=
  (((KeepsAlert.takeTableTick s).trans (.takeWalkTick _)).trans (.takeAlertTick _)).trans (.same rfl)

/-! ### Grants (R80 to R87, R171) -/

theorem KeepsAlert.grantForward (i : EntryId) (rest : List EntryId) (s : State) :
    KeepsAlert s (grantForward i rest s) := by
  have issued (t : State) (es : Vector Entry 64) (tx : Option Packet) :
      KeepsAlert t { t with entries := es, uTx := tx } := .same rfl
  have taken : KeepsAlert s { s with issueQ := rest } := .same rfl
  exact .ite ((taken.trans (.ite (.bump forwarded _) (.refl _))).trans (issued _ _ _)) taken

/-- The alert slot is busy before its grant and after it (R87). -/
theorem KeepsAlert.grantAlert (s : State) : KeepsAlert s (grantAlert s) :=
  .ite (.of (.of_slotBusy nofun)) (.refl s)

theorem KeepsAlert.grantWalk (k : WalkId) (s : State) : KeepsAlert s (grantWalk k s) := by
  have issued (t : State) (x : WalkSlot) (tx : Option Packet) :
      KeepsAlert t { setWalk k x t with uTx := tx } := .same rfl
  exact .ite ((KeepsAlert.bump _ s).trans (issued _ _ _)) (.refl s)

theorem KeepsAlert.grantOwn (o : OwnRequest) (rest : List OwnRequest) (s : State) :
    KeepsAlert s (grantOwn o rest s) := by
  have taken : KeepsAlert s { s with ownList := rest } := .same rfl
  cases o with
  | walk k => exact taken.trans (.grantWalk k _)
  | alert => exact taken.trans (.grantAlert _)

theorem KeepsAlert.grantRequest (s : State) : KeepsAlert s (grantRequest s) := by
  have turned (t : State) (n : Nat) : KeepsAlert t { t with rotation := n } := .same rfl
  have forward (i : EntryId) (rest : List EntryId) (n : Nat) := (KeepsAlert.grantForward i rest s).trans (turned _ n)
  have own (o : OwnRequest) (rest : List OwnRequest) (n : Nat) := (KeepsAlert.grantOwn o rest s).trans (turned _ n)
  unfold Machine.grantRequest
  split
  · exact .refl s
  · exact forward _ _ _
  · exact own _ _ _
  · exact .ite (forward _ _ _) (own _ _ _)

theorem KeepsAlert.grantCompletion (s : State) : KeepsAlert s (grantCompletion s) := by
  have management : KeepsAlert s (sendManagement s) := by
    unfold sendManagement
    split
    · exact .same rfl
    · split
      · exact .same rfl
      · exact .refl s
  have passThrough : KeepsAlert s (sendPassThrough s) := by
    unfold sendPassThrough
    split
    · exact .same rfl
    · exact .refl s
  exact .ite management passThrough

theorem KeepsAlert.sendAnswer (i : EntryId) (rest : List EntryId) (s : State) : KeepsAlert s (sendAnswer i rest s) := by
  have sent (t : State) (x : Entry) : KeepsAlert t (setEntry i x t) := .same rfl
  have taken (tx : Option Packet) : KeepsAlert s { s with answerQ := rest, dTx := tx } := .same rfl
  have lowered (r : ReqId) (t : State) : KeepsAlert t (lowerOutstanding r t) := by
    have context (c : Context) : KeepsAlert t (setContext r c t) := .same rfl
    exact .ite ((context _).trans (.endDrain r _)) (context _)
  unfold Machine.sendAnswer
  simp only
  split
  · exact (((taken _).trans (.bump _ _)).trans (sent _ _)).trans (lowered _ _)
  · exact .same rfl

theorem KeepsAlert.grantDeviceCompletion (s : State) : KeepsAlert s (grantDeviceCompletion s) := by
  have turned (t : State) (x : AnswerTurn) : KeepsAlert t { t with answerTurn := x } := .same rfl
  have answer (i : EntryId) (rest : List EntryId) := (KeepsAlert.sendAnswer i rest s).trans (turned _ .refusal)
  unfold Machine.grantDeviceCompletion
  split
  · exact .refl s
  · exact answer _ _
  · exact .same rfl
  · split
    · exact answer _ _
    · exact .same rfl

theorem KeepsAlert.grantDeviceRequest (s : State) : KeepsAlert s (grantDeviceRequest s) := by
  unfold Machine.grantDeviceRequest
  split
  · exact .same rfl
  · exact .refl s

/-! ### Management (R15, R67 to R71, R113 to R118, R137, R139, R148 to R156) -/

theorem KeepsAlert.decodeHost {p : ReqPacket} {s t : State} (h : decodeHost p s = some t) : KeepsAlert s t := by
  have refusal {st : Status} {b : Bool}
      (h : (if b = true then some (refuseHost p st s) else none) = some t) : KeepsAlert s t := by
    split at h
    · cases h; exact .same rfl
    · cases h
  unfold Machine.decodeHost at h
  simp only at h
  split at h
  · split at h
    · split at h
      · cases h; exact .same rfl
      · exact refusal h
    · exact refusal h
  · split at h
    · split at h
      · cases h; exact .same rfl
      · cases h
    · exact refusal h

theorem KeepsAlert.resultHead (m : MgmtId) (r : Result) (s : State) : KeepsAlert s (resultHead m r s) := .same rfl

theorem KeepsAlert.runLoadWindow (m : MgmtId) (ws : List Word) (s : State) : KeepsAlert s (runLoadWindow m ws s) := by
  unfold Machine.runLoadWindow
  simp only
  split
  · exact .resultHead m _ s
  refine .ite (.resultHead m _ s) (.ite (.resultHead m _ s) ?_)
  split
  · exact .resultHead m _ s
  · exact .same rfl

theorem KeepsAlert.startFence (k : FenceId) (cmd : FenceCommand) (scope : Scope) (m : MgmtId) (s : State) :
    KeepsAlert s (startFence k cmd scope m s) := by
  have withdrawn : KeepsAlert s (withdrawScope k cmd scope s) := .same rfl
  unfold Machine.startFence
  refine .ite ?_ (withdrawn.trans (.same rfl))
  rw [freeRetired_eq]
  exact withdrawn.trans (.same rfl)

theorem KeepsAlert.runFenceCommand (cmd : FenceCommand) (m : MgmtId) (c : Except Result Scope) (s : State) :
    KeepsAlert s (runFenceCommand cmd m c s) := by
  unfold Machine.runFenceCommand
  split
  · exact .resultHead m _ s
  · split
    · exact .same rfl
    · exact .startFence _ cmd _ m s

theorem KeepsAlert.runConfigureRequester (m : MgmtId) (ws : List Word) (s : State) :
    KeepsAlert s (runConfigureRequester m ws s) := by
  unfold Machine.runConfigureRequester
  simp only
  split
  · exact .resultHead m _ s
  refine .ite (.resultHead m _ s) ?_
  split
  · exact .resultHead m _ s
  · exact .same rfl

theorem KeepsAlert.runActivate (source : CtxState) (m : MgmtId) (ws : List Word) (s : State) :
    KeepsAlert s (runActivate source m ws s) := by
  unfold Machine.runActivate
  split
  · exact .resultHead m _ s
  · exact .ite (.same rfl) (.resultHead m _ s)

theorem KeepsAlert.runQuiesce (m : MgmtId) (ws : List Word) (s : State) : KeepsAlert s (runQuiesce m ws s) := by
  unfold Machine.runQuiesce
  simp only
  split
  · exact .resultHead m _ s
  split
  · exact .resultHead m _ s
  · exact .resultHead m _ s
  · exact .ite (.same rfl) (.same rfl)
  · exact .ite (.same rfl) (.same rfl)

/-- SET_ALERT writes the address and the switch, and evaluates the trigger after it (R139). -/
theorem KeepsAlert.runSetAlert (m : MgmtId) (ws : List Word) (s : State) : KeepsAlert s (runSetAlert m ws s) := by
  unfold Machine.runSetAlert
  simp only
  split
  · exact .resultHead m _ s
  · exact .ite (.resultHead m _ s) (.of (alertLaw_evalTrigger _))

theorem KeepsAlert.clearGroup (g : Fin 18) (s : State) : KeepsAlert s (clearGroup g s) :=
  .ite (.same rfl) (.ite (.same rfl) (.same rfl))

theorem KeepsAlert.answerQuery (words : MgmtOp → Option (List Word)) (s : State) :
    KeepsAlert s (answerQuery words s) := by
  unfold Machine.answerQuery
  split
  · exact .refl s
  · split
    · exact .refl s
    · exact .same rfl

/-- FAULT takes the oldest record away, and with the last one the reason for an alert (R133). -/
theorem KeepsAlert.takeRecord {s : State} {r : FaultRecord} {rest : List FaultRecord} (h : s.faults = r :: rest) :
    KeepsAlert s { s with faults := rest } := by
  cases rest with
  | nil => exact .of (.of_noRecords rfl)
  | cons r' rest =>
    have still : triggerHolds { s with faults := r' :: rest } = triggerHolds s := by
      simp only [triggerHolds, h, List.isEmpty_cons]
    exact still.trans

/-! ### Every command -/

/-- A command answers a next state that meets the law of the alert trigger where the state that it found did. -/
def AnswersAlert (s : State) (o : Host.Outcome State Fault Refusal) : Prop :=
  ∃ t, o = .next t ∧ KeepsAlert s t

theorem AnswersAlert.next {s t : State} (h : KeepsAlert s t) : AnswersAlert s (.next t) := ⟨t, rfl, h⟩

theorem AnswersAlert.of_ite {b : Prop} [Decidable b] {s t : State} (h : KeepsAlert s t) :
    AnswersAlert s (.next (if b then t else s)) := .next (.ite h (.refl s))

theorem AnswersAlert.head {op : MgmtOp} {body : MgmtId → List Word → State → State} {s : State}
    (hb : ∀ m ws, KeepsAlert s (body m ws s)) : AnswersAlert s (.next (whenHead op body s)) := by
  rcases whenHead_cases op body s with he | ⟨m, _, _, he⟩
  · rw [he]; exact .next (.refl s)
  · rw [he]; exact .next (hb m _)

theorem AnswersAlert.intake (s : State) : AnswersAlert s (execIntakeTakeRequest s) := by
  refine .next ?_
  split
  next p rest i hq hi =>
    have free : (s.entries[i]).state = .free := by simpa using List.find?_some hi
    split
    next hr => exact .happening (.checkRequest hq free hr)
    · exact .refl s
  · exact .refl s
  · exact .refl s

theorem AnswersAlert.completionMatching (s : State) : AnswersAlert s (execCompletionMatching s) := by
  refine .next ?_
  split
  · exact .refl s
  next p rest hq => exact .happening ⟨_, .completion hq, .takeCompletion p _⟩

theorem AnswersAlert.managementDecode (s : State) : AnswersAlert s (execManagementDecode s) := by
  refine .next ?_
  split
  · exact .refl s
  next p rest _ =>
    have taken : KeepsAlert s { s with uReqIn := rest } := .same rfl
    cases hd : decodeHost p { s with uReqIn := rest } with
    | none => exact .refl s
    | some u => exact taken.trans (.decodeHost hd)

theorem AnswersAlert.answerArbiterGrant (s : State) : AnswersAlert s (execAnswerArbiterGrant s) := by
  have raised : KeepsAlert s (raiseRun s) := .ite (.same rfl) (.refl s)
  exact .next (.ite (.refl s) (.ite (.grantDeviceRequest s)
    (.ite (raised.trans (.grantDeviceCompletion _)) (.ite (.grantDeviceRequest s) (.refl s)))))

theorem AnswersAlert.fenceCommandResumption (s : State) : AnswersAlert s (execFenceCommandResumption s) := by
  refine .of_ite ?_
  split
  · exact .refl s
  · unfold resumeFence
    simp only
    split
    · exact .runFenceCommand _ _ _ s
    · exact .runFenceCommand _ _ _ s
    · exact .refl s

theorem exec_answersAlert (c : Instr) (s : State) : AnswersAlert s (exec c s) := by
  cases c with
  | powerOn aps => exact .next (.of (.of_disabled rfl))
  | uPortDown => exact .of_ite (.of (.of_linkDown rfl))
  | uPortUp => exact .next (.ite (.refl s) (.of (alertLaw_evalTrigger _)))
  | resetMessage => exact .of_ite (.of (alertLaw_evalTrigger _))
  | dPortDown => exact .of_ite (.loseDown s)
  | dPortUp => exact .next (.same rfl)
  | holdLineChange port cls on =>
    refine .next ?_
    split <;> exact .ite (.same rfl) (.refl s)
  | deviceRequestArrival p => exact .of_ite (.same rfl)
  | deviceCompletionArrival p => exact .of_ite (.same rfl)
  | hostRequestArrival p => exact .of_ite (.same rfl)
  | hostCompletionArrival p => exact .of_ite (.same rfl)
  | intakeTakeRequest => exact .intake s
  | issueArbiterGrant =>
    exact .next (.ite (.refl s) (.ite (.grantCompletion s) (.ite (.refl s) (.grantRequest s))))
  | answerArbiterGrant => exact .answerArbiterGrant s
  | passThroughRefusal =>
    refine .next ?_
    split
    · exact .refl s
    · exact .ite (.same rfl) (.refl s)
  | managementDecode => exact .managementDecode s
  | completionMatching => exact .completionMatching s
  | tick => exact .next (.tick s)
  | requestAgeExpiry e => exact .of_ite (.takeTableTick s)
  | entryRelease e => exact .of_ite (.takeTableTick s)
  | entryReclaim e => exact .of_ite (.takeTableTick s)
  | walkTimeout k => exact .of_ite (.takeWalkTick s)
  | walkRelease k => exact .of_ite (.takeWalkTick s)
  | walkReclaim k => exact .of_ite (.takeWalkTick s)
  | alertTimeout => exact .of_ite (.takeAlertTick s)
  | alertRelease => exact .of_ite (.takeAlertTick s)
  | alertReclaim => exact .of_ite (.takeAlertTick s)
  | loadWindow => exact .head fun m ws => .runLoadWindow m ws s
  | retireWindow => exact .head fun m ws => .runFenceCommand _ m _ s
  | invalidate => exact .head fun m ws => .runFenceCommand _ m _ s
  | fenceCommandResumption => exact .fenceCommandResumption s
  | configureRequester => exact .head fun m ws => .runConfigureRequester m ws s
  | enableRequester => exact .head fun m ws => .runActivate .off m ws s
  | resumeRequester => exact .head fun m ws => .runActivate .stopped m ws s
  | quiesceRequester => exact .head fun m ws => .runQuiesce m ws s
  | setTiming => exact .head fun m ws => .ite (.same rfl) (.resultHead m _ s)
  | setArbiter => exact .head fun m ws => .ite (.resultHead m _ s) (.same rfl)
  | setAlert => exact .head fun m ws => .runSetAlert m ws s
  | ackAlert => exact .head fun m ws => .of (alertLaw_evalTrigger _)
  | clearCounters =>
    refine .head fun m ws => .ite (.same rfl) ?_
    split
    · exact .resultHead m _ s
    next g _ => exact (KeepsAlert.clearGroup g s).trans (.resultHead m _ _)
  | clearFaults => exact .head fun m ws => .of (.of_noRecords rfl)
  | moveAperture => exact .head fun m ws => .ite (.resultHead m _ s) (.same rfl)
  | status => exact .head fun m ws => .same rfl
  | window => exact .next (.answerQuery _ s)
  | requester => exact .next (.answerQuery _ s)
  | counters => exact .next (.answerQuery _ s)
  | fault =>
    refine .head fun m ws => ?_
    split
    · exact .same rfl
    next hf => exact (KeepsAlert.takeRecord hf).trans (.same rfl)
  | time => exact .head fun m ws => .same rfl
  | fences => exact .head fun m ws => .same rfl
  | cacheStorageUpset w page => exact .next (.same rfl)

/-- Settles O59: a happening brings the five conditions about only by a record or by freeing the alert slot, and its
close then evaluates the trigger; the commands that write the switches evaluate it themselves. -/
theorem alertNeverMissed : Obligations.AlertNeverMissed := fun s t hs h => by
  unfold step at h
  split at h
  · cases h; exact hs
  next c rest _ =>
    obtain ⟨u, hu, hk⟩ := exec_answersAlert c { s with pending := rest }
    rw [hu] at h
    cases h
    exact hk hs

end Sys2Proof.Machine
end

section
/-! SUPPORT. The commands that write the alert, and those that clear the counters and the records: SET_ALERT,
ACK_ALERT, CLEAR_COUNTERS, CLEAR_FAULTS (R134, R137, R139, R140), and the return of the U-port (R174). -/

namespace Sys2Proof.Machine

/-- Settles O6: the link comes up, and with it the trigger's conditions are the four others. -/
theorem uPortUpEvaluatesTrigger : Obligations.UPortUpEvaluatesTrigger := by
  intro s down
  show Host.Outcome.next (if s.uUp then s else evalTrigger { s with uUp := true }) = _
  rw [if_neg (by rw [down]; decide), evalTrigger_eq]
  simp only [and_true]
  rfl

/-! ### Enable codes (R181) -/

theorem enableOfCode_named {c : Nat} (h : c ≤ 1) : enableOfCode c = some (decide (c = 1)) := by
  interval_cases c <;> rfl

theorem enableOfCode_unnamed {c : Nat} (h : 1 < c) : enableOfCode c = none := by
  obtain ⟨n, rfl⟩ := Nat.exists_eq_add_of_le h
  rw [Nat.add_comm]
  rfl

section Head

variable {s : State} {m : MgmtId} {rest : List MgmtId} {ws : List Word}

/-! ### The alert's commands (R139, R140) -/

theorem exec_setAlert_passes (h : HeadHolds s m rest .setAlert ws) {en : Bool}
    (code : enableOfCode (field (payloadWord ws 1) 0 2) = some en) (aligned : (payloadWord ws 0).toNat % 8 = 0)
    (inside : (payloadWord ws 0).toNat + 16 ≤ 2 ^ 50) :
    exec .setAlert s = .next
      (evalTrigger (replied m rest [resultWord .done]
        { s with alertAddress := (payloadWord ws 0).extractLsb' 0 50, alertEnabled := en })) := by
  have order : s.mgmtOrder = m :: rest := h.1
  have good : ¬((payloadWord ws 0).toNat % 8 ≠ 0 ∨ (payloadWord ws 0).toNat + 16 > 2 ^ 50) := by omega
  have narrow : 50 ≤ 64 := by decide
  show Host.Outcome.next (whenHead .setAlert _ s) = _
  rw [whenHead_of_head h]
  simp only [runSetAlert, code, if_neg good, BitVec.setWidth_eq_extractLsb' narrow]
  rw [resultHead_eq (t := { s with alertAddress := _, alertEnabled := en }) order]

theorem exec_setAlert_fails (h : HeadHolds s m rest .setAlert ws)
    (bad : (payloadWord ws 0).toNat % 8 ≠ 0 ∨ 2 ^ 50 < (payloadWord ws 0).toNat + 16
      ∨ enableOfCode (field (payloadWord ws 1) 0 2) = none) :
    exec .setAlert s = .next (replied m rest [resultWord .badArgument] s) := by
  have order : s.mgmtOrder = m :: rest := h.1
  show Host.Outcome.next (whenHead .setAlert _ s) = _
  rw [whenHead_of_head h, ← resultHead_eq order]
  unfold runSetAlert
  simp only
  split
  · rfl
  next code =>
    have range : (payloadWord ws 0).toNat % 8 ≠ 0 ∨ (payloadWord ws 0).toNat + 16 > 2 ^ 50 := by
      rcases bad with unaligned | outside | unnamed
      · exact .inl unaligned
      · exact .inr outside
      · rw [code] at unnamed; cases unnamed
    rw [if_pos range]

theorem exec_ackAlert (h : HeadHolds s m rest .ackAlert ws) :
    exec .ackAlert s = .next (evalTrigger (replied m rest [resultWord .done] { s with alertArmed := true })) := by
  have order : s.mgmtOrder = m :: rest := h.1
  show Host.Outcome.next (whenHead .ackAlert _ s) = _
  rw [whenHead_of_head h, resultHead_eq (t := { s with alertArmed := true }) order]

/-! ### The clearing commands (R134, R137) -/

theorem exec_clearCounters_all (h : HeadHolds s m rest .clearCounters ws) (all : (payloadWord ws 0).getLsbD 8 = true) :
    exec .clearCounters s = .next (replied m rest [resultWord .done] (clearAllGroups s)) := by
  have order : s.mgmtOrder = m :: rest := h.1
  show Host.Outcome.next (whenHead .clearCounters _ s) = _
  rw [whenHead_of_head h, if_pos all, resultHead_eq (t := clearAllGroups s) order]

theorem exec_clearCounters_group (h : HeadHolds s m rest .clearCounters ws)
    (one : (payloadWord ws 0).getLsbD 8 = false) {g : Fin 18} (group : field (payloadWord ws 0) 0 5 = g.val) :
    exec .clearCounters s = .next (replied m rest [resultWord .done] (clearGroup g s)) := by
  have index : asFin 18 (indexField ws) = some g := asFin_of_eq group
  have order : (clearGroup g s).mgmtOrder = m :: rest := by
    unfold clearGroup
    split
    · exact h.1
    split
    · exact h.1
    · exact h.1
  show Host.Outcome.next (whenHead .clearCounters _ s) = _
  rw [whenHead_of_head h, if_neg (by rw [one]; decide)]
  simp only [index]
  rw [resultHead_eq order]

theorem exec_clearCounters_unnamed (h : HeadHolds s m rest .clearCounters ws)
    (one : (payloadWord ws 0).getLsbD 8 = false) (beyond : 18 ≤ field (payloadWord ws 0) 0 5) :
    exec .clearCounters s = .next (replied m rest [resultWord .badArgument] s) := by
  have index : asFin 18 (indexField ws) = none := asFin_of_ge beyond
  have order : s.mgmtOrder = m :: rest := h.1
  show Host.Outcome.next (whenHead .clearCounters _ s) = _
  rw [whenHead_of_head h, if_neg (by rw [one]; decide)]
  simp only [index]
  rw [resultHead_eq order]

theorem exec_clearFaults (h : HeadHolds s m rest .clearFaults ws) :
    exec .clearFaults s = .next
      (replied m rest [resultWord .done] { s with faults := [], lost := 0, overflowPending := false }) := by
  have order : s.mgmtOrder = m :: rest := h.1
  show Host.Outcome.next (whenHead .clearFaults _ s) = _
  rw [whenHead_of_head h, resultHead_eq (t := { s with faults := [], lost := 0, overflowPending := false }) order]

end Head

/-- A requester's group holds its four counters (R136). -/
theorem clearGroup_requester {g : Fin 18} {r : ReqId} (h : g.val = 2 + r.val) (s : State) :
    clearGroup g s = { s with requesterCtrs := s.requesterCtrs.set r (Vector.replicate 4 0) } := by
  have same : g.val - 2 = r.val := by omega
  rw [clearGroup, if_neg (by omega), if_neg (by omega)]
  simp only [same]

/-- Settles O40: SET_ALERT's checks choose between the refusal and the write, and both commands end with an evaluation of
the trigger. -/
theorem alertCommands : Obligations.AlertCommands := by
  intro s m rest ws a code fired
  have evaluated (t : State) : evalTrigger t = fired t := evalTrigger_eq t
  refine ⟨fun head => ⟨fun aligned inside named => ?passes, fun bad => ?fails⟩, fun head => ?ack⟩
  case passes =>
    rw [exec_setAlert_passes head (enableOfCode_named named) aligned inside, evaluated]
  case fails =>
    exact exec_setAlert_fails head (bad.imp_right (Or.imp_right enableOfCode_unnamed))
  case ack =>
    rw [exec_ackAlert head, evaluated]

/-- Settles O41: the all-groups bit, else the group field, chooses the counters that become 0. -/
theorem clearCommands : Obligations.ClearCommands := by
  intro s m rest ws w0 done
  refine ⟨fun head => ⟨exec_clearCounters_all head, fun one => ⟨?translation, ?transaction, ?requester, ?unnamed⟩⟩,
    exec_clearFaults⟩
  case translation => exact fun group => exec_clearCounters_group head one (g := 0) group
  case transaction => exact fun group => exec_clearCounters_group head one (g := 1) group
  case requester =>
    intro r group
    have cleared := exec_clearCounters_group head one (g := ⟨2 + r.val, by omega⟩) group
    rwa [clearGroup_requester rfl] at cleared
  case unnamed => exact exec_clearCounters_unnamed head one

end Sys2Proof.Machine
end

section
/-! SUPPORT. The management decode: what the aperture map names, and where the head of the U-port request ingress
goes (R148, R149); the pass-through refusals (R173). -/

namespace Sys2Proof.Machine

/-- Settles O18: the head and both conditions of R173 are given. -/
theorem passThroughRefusalAnswersError : Obligations.PassThroughRefusalAnswersError := by
  intro s p rest head refusing room
  show execPassThroughRefusal s = _
  simp only [execPassThroughRefusal, head]
  rw [if_pos ⟨refusing, room⟩]

/-! ### The names of the aperture map (R149, R183) -/

/-- A request at `off` names a row exactly: offset, kind, length and, of a WRITE, the words it carries (R149). -/
def RowNamed (row : ApertureRow) (off : Nat) (p : ReqPacket) : Prop :=
  row.offset = off ∧ row.kind = requestKind p ∧ row.words = headerLength p.h0
    ∧ (requestKind p = .write → p.body.length = headerLength p.h0)

theorem apertureMap_offsets_nodup : (apertureMap.map ApertureRow.offset).Nodup := by decide

theorem apertureRow_eq_of_offset {a b : ApertureRow} (ha : a ∈ apertureMap) (hb : b ∈ apertureMap)
    (h : a.offset = b.offset) : a = b :=
  List.inj_on_of_nodup_map apertureMap_offsets_nodup ha hb h

/-- Offsets tell the rows apart, so the row that the search finds is the one named. -/
theorem namedOp_of_rowNamed {row : ApertureRow} {off : Nat} {p : ReqPacket} (mem : row ∈ apertureMap)
    (named : RowNamed row off p) : namedOp off p = some row.op := by
  obtain ⟨offset, kind, words, body⟩ := named
  have carries : ¬(requestKind p = .write ∧ p.body.length ≠ headerLength p.h0) := fun h => h.2 (body h.1)
  rw [namedOp, if_neg carries, Option.map_eq_some_iff]
  refine ⟨row, ?_, rfl⟩
  cases found : apertureMap.find? _ with
  | none => exact absurd (List.find?_eq_none.mp found row mem) (by simp [offset, kind, words])
  | some other =>
    have same : other.offset = row.offset := by
      have := List.find?_some found
      simp only [Bool.and_eq_true, decide_eq_true_eq] at this
      rw [this.1.1, offset]
    rw [apertureRow_eq_of_offset (List.mem_of_find?_eq_some found) mem same]

theorem namedOp_none {off : Nat} {p : ReqPacket} (unnamed : ∀ row ∈ apertureMap, ¬RowNamed row off p) :
    namedOp off p = none := by
  unfold namedOp
  split
  · rfl
  next carries =>
    rw [Option.map_eq_none_iff, List.find?_eq_none]
    intro row mem found
    simp only [Bool.and_eq_true, decide_eq_true_eq] at found
    obtain ⟨⟨offset, kind⟩, words⟩ := found
    exact unnamed row mem ⟨offset, kind, words, fun write => by_contra fun h => carries ⟨write, h⟩⟩

/-! ### The slot that a request takes (R148) -/

theorem lowestFreeMgmt_of {s : State} {m : MgmtId} (free : (s.mgmt[m]).state = .free)
    (lowest : ∀ j : MgmtId, j < m → (s.mgmt[j]).state ≠ .free) : lowestFreeMgmt s = some m :=
  find?_finRange_first _ m (by simpa using free) fun j hj => by simpa using lowest j hj

theorem lowestFreeMgmt_none {s : State} (busy : ∀ m : MgmtId, (s.mgmt[m]).state ≠ .free) :
    lowestFreeMgmt s = none := by
  simpa only [lowestFreeMgmt, List.find?_eq_none, List.mem_finRange, true_implies, decide_eq_true_eq] using busy

/-! ### The outcomes of a request (R148, R153) -/

section Request

variable {s : State} {p : ReqPacket} {rest : List ReqPacket}

theorem apertureOffset_inside (h : s.apertureBase.toNat ≤ (requestAddress p).toNat
      ∧ (requestAddress p).toNat < s.apertureBase.toNat + 0x10000) :
    apertureOffset s (requestAddress p) = some ((requestAddress p).toNat - s.apertureBase.toNat) :=
  if_pos h

theorem apertureOffset_outside (h : ¬(s.apertureBase.toNat ≤ (requestAddress p).toNat
      ∧ (requestAddress p).toNat < s.apertureBase.toNat + 0x10000)) :
    apertureOffset s (requestAddress p) = none :=
  if_neg h

/-- The refusal of a request, when it finds room (R153, R154). -/
def refusedHost (p : ReqPacket) (st : Status) (s : State) : Option State :=
  if s.replyRefusals.length < Config.replyRefusalCapacity then some (refuseHost p st s) else none

theorem decodeHost_slot {off : Nat} {op : MgmtOp} {m : MgmtId}
    (offset : apertureOffset s (requestAddress p) = some off) (named : namedOp off p = some op)
    (slot : lowestFreeMgmt s = some m) : decodeHost p s = some (takeSlot m op p s) := by
  simp only [decodeHost, offset, named, slot]

theorem decodeHost_busy {off : Nat} {op : MgmtOp} (offset : apertureOffset s (requestAddress p) = some off)
    (named : namedOp off p = some op) (busy : lowestFreeMgmt s = none) :
    decodeHost p s = refusedHost p .retry s := by
  simp only [decodeHost, offset, named, busy, refusedHost, decide_eq_true_eq]

theorem decodeHost_unnamed {off : Nat} (offset : apertureOffset s (requestAddress p) = some off)
    (unnamed : namedOp off p = none) : decodeHost p s = refusedHost p .error s := by
  simp only [decodeHost, offset, unnamed, refusedHost, decide_eq_true_eq]

theorem decodeHost_outside_up (outside : apertureOffset s (requestAddress p) = none) (up : s.dUp = true) :
    decodeHost p s
      = if s.downQ.length < Config.downCapacity then some { s with downQ := s.downQ ++ [p] } else none := by
  simp only [decodeHost, outside, up, if_true]

theorem decodeHost_outside_down (outside : apertureOffset s (requestAddress p) = none) (down : s.dUp = false) :
    decodeHost p s = refusedHost p .error s := by
  simp only [decodeHost, outside, down, refusedHost, Bool.false_eq_true, if_false, decide_eq_true_eq]

/-- The head leaves the ingress with its outcome, and waits without one. -/
theorem exec_managementDecode_head (head : s.uReqIn = p :: rest) :
    exec .managementDecode s = .next ((decodeHost p { s with uReqIn := rest }).getD s) := by
  show execManagementDecode s = _
  simp only [execManagementDecode, head]

theorem exec_managementDecode_takes {t : State} (head : s.uReqIn = p :: rest)
    (taken : decodeHost p { s with uReqIn := rest } = some t) : exec .managementDecode s = .next t := by
  rw [exec_managementDecode_head head, taken, Option.getD_some]

theorem exec_managementDecode_refuses {st : Status} (head : s.uReqIn = p :: rest)
    (refused : decodeHost p { s with uReqIn := rest } = refusedHost p st { s with uReqIn := rest }) :
    exec .managementDecode s = .next
      (if s.replyRefusals.length < 4 then
        { s with
          uReqIn := rest
          replyRefusals := s.replyRefusals ++ [⟨headerSource p.h0, headerTag p.h0, st⟩] }
      else s) := by
  rw [exec_managementDecode_head head, refused, refusedHost]
  split
  · rfl
  · rfl

end Request

/-- Settles O19: the address, the name and the free slot choose the outcome, and its room lets the head go. -/
theorem decodeFollowsItsTable : Obligations.DecodeFollowsItsTable := by
  intro s p rest head inside off names refusal
  refine ⟨fun within row mem named => ⟨fun m free lowest => ?slot, fun busy => ?retry⟩,
    fun within unnamed => ?error, fun outside up => ?down, fun outside down => ?lost⟩
  case slot =>
    exact exec_managementDecode_takes head
      (decodeHost_slot (apertureOffset_inside within) (namedOp_of_rowNamed mem named) (lowestFreeMgmt_of free lowest))
  case retry =>
    exact exec_managementDecode_refuses head
      (decodeHost_busy (apertureOffset_inside within) (namedOp_of_rowNamed mem named) (lowestFreeMgmt_none busy))
  case error =>
    exact exec_managementDecode_refuses head
      (decodeHost_unnamed (apertureOffset_inside within) (namedOp_none unnamed))
  case down =>
    rw [exec_managementDecode_head head,
      decodeHost_outside_up (s := { s with uReqIn := rest }) (apertureOffset_outside outside) up]
    dsimp only
    split
    · rfl
    · rfl
  case lost =>
    exact exec_managementDecode_refuses head (decodeHost_outside_down (apertureOffset_outside outside) down)

end Sys2Proof.Machine
end

section
/-! SUPPORT. The reset message as a loss and a return of the U-port (R175), the hold lines as received (R167), and
the arrivals at the four ingresses (R168 to R170). -/

namespace Sys2Proof.Machine

/-! ### The reset message (R175) -/

/-- The sweep itself leaves the link state to its caller (R174). -/
theorem loseUpstream_uUp (s : State) : (loseUpstream s).uUp = s.uUp := offerRecord_uUp ..

/-- A loss of the link state alone is undone by its return. -/
theorem setUUp_returned {s : State} (up : s.uUp = true) :
    { { s with uUp := false } with uUp := true } = s := by
  cases s
  cases up
  rfl

theorem exec_uPortDown_up {s : State} (up : s.uUp = true) :
    exec .uPortDown s = .next { loseUpstream s with uUp := false } :=
  congrArg Host.Outcome.next (if_pos up)

theorem exec_uPortUp_down {s : State} (down : s.uUp = false) :
    exec .uPortUp s = .next (evalTrigger { s with uUp := true }) :=
  congrArg Host.Outcome.next (if_neg (Bool.eq_false_iff.mp down))

theorem exec_resetMessage_up {s : State} (up : s.uUp = true) :
    exec .resetMessage s = .next (evalTrigger (loseUpstream s)) :=
  congrArg Host.Outcome.next (if_pos up)

theorem exec_resetMessage_down {s : State} (down : s.uUp = false) : exec .resetMessage s = .next s :=
  congrArg Host.Outcome.next (if_neg (Bool.eq_false_iff.mp down))

/-- Settles O5: the return sets the link state that the loss cleared, and the trigger sees the swept state either
way. -/
theorem resetMessageIsLossAndReturn : Obligations.ResetMessageIsLossAndReturn := by
  refine fun s => ⟨fun up => ?_, exec_resetMessage_down⟩
  have swept : (loseUpstream s).uUp = true := (loseUpstream_uUp s).trans up
  have returned : exec .uPortUp { loseUpstream s with uUp := false } = .next (evalTrigger (loseUpstream s)) := by
    rw [exec_uPortUp_down rfl, setUUp_returned swept]
  exact ⟨_, _, exec_uPortDown_up up, returned, exec_resetMessage_up up, (evalTrigger_uUp _).trans swept⟩

/-! ### Hold lines as received (R167) -/

theorem exec_holdLineChange_upstream (cls : PktClass) (on : Bool) (s : State) :
    exec (.holdLineChange .upstream cls on) s = .next
      (if s.uUp = true then
        match cls with
        | .request => { s with uHoldReq := on }
        | .completion => { s with uHoldCpl := on }
      else s) := by
  cases cls with
  | request => rfl
  | completion => rfl

theorem exec_holdLineChange_downstream (cls : PktClass) (on : Bool) (s : State) :
    exec (.holdLineChange .downstream cls on) s = .next
      (if s.dUp = true then
        match cls with
        | .request => { s with dHoldReq := on }
        | .completion => { s with dHoldCpl := on }
      else s) := by
  cases cls with
  | request => rfl
  | completion => rfl

/-- Settles O8: the state of the named port decides whether its line is written. -/
theorem dPortUpAndHoldLines : Obligations.DPortUpAndHoldLines := by
  intro s on
  simp only [exec_holdLineChange_upstream, exec_holdLineChange_downstream]
  refine ⟨rfl, fun up => ?_, fun up => ?_, fun down => ?_, fun down => ?_⟩
  · simp only [up, if_true, and_self]
  · simp only [up, if_true, and_self]
  · simp only [down, Bool.false_eq_true, if_false, and_self]
  · simp only [down, Bool.false_eq_true, if_false, and_self]

/-! ### Arrivals (R168 to R170) -/

/-- A state that takes the ingress after an arrival has the packet at the tail, or is unchanged where the ingress is
full (R168). -/
theorem store_joinIngress {α : Type} (store : List α → State) {q : List α} {s : State} (p : α)
    (same : store q = s) :
    store (joinIngress q p) = if q.length < 16 then store (q ++ [p]) else s := by
  rw [joinIngress, apply_ite store, same, Config.ingressCapacity]

section Arrivals

variable {s : State}

theorem exec_deviceRequestArrival_up (p : ReqPacket) (up : s.dUp = true) :
    exec (.deviceRequestArrival p) s
      = .next (if s.dReqIn.length < 16 then { s with dReqIn := s.dReqIn ++ [p] } else s) :=
  congrArg Host.Outcome.next ((if_pos up).trans (store_joinIngress (fun q => { s with dReqIn := q }) p rfl))

theorem exec_deviceCompletionArrival_up (c : CplPacket) (up : s.dUp = true ∧ s.uUp = true) :
    exec (.deviceCompletionArrival c) s
      = .next (if s.dCplIn.length < 16 then { s with dCplIn := s.dCplIn ++ [c] } else s) :=
  congrArg Host.Outcome.next ((if_pos up).trans (store_joinIngress (fun q => { s with dCplIn := q }) c rfl))

theorem exec_hostRequestArrival_up (p : ReqPacket) (up : s.uUp = true) :
    exec (.hostRequestArrival p) s
      = .next (if s.uReqIn.length < 16 then { s with uReqIn := s.uReqIn ++ [p] } else s) :=
  congrArg Host.Outcome.next ((if_pos up).trans (store_joinIngress (fun q => { s with uReqIn := q }) p rfl))

theorem exec_hostCompletionArrival_up (c : CplPacket) (up : s.uUp = true) :
    exec (.hostCompletionArrival c) s
      = .next (if s.uCplIn.length < 16 then { s with uCplIn := s.uCplIn ++ [c] } else s) :=
  congrArg Host.Outcome.next ((if_pos up).trans (store_joinIngress (fun q => { s with uCplIn := q }) c rfl))

theorem exec_deviceRequestArrival_down (p : ReqPacket) (down : ¬s.dUp = true) :
    exec (.deviceRequestArrival p) s = .next s :=
  congrArg Host.Outcome.next (if_neg down)

/-- A device completion needs both ports, the one it comes from and the one it goes to (R170, R176). -/
theorem exec_deviceCompletionArrival_down (c : CplPacket) (down : ¬(s.dUp = true ∧ s.uUp = true)) :
    exec (.deviceCompletionArrival c) s = .next s :=
  congrArg Host.Outcome.next (if_neg down)

theorem exec_hostRequestArrival_down (p : ReqPacket) (down : ¬s.uUp = true) :
    exec (.hostRequestArrival p) s = .next s :=
  congrArg Host.Outcome.next (if_neg down)

theorem exec_hostCompletionArrival_down (c : CplPacket) (down : ¬s.uUp = true) :
    exec (.hostCompletionArrival c) s = .next s :=
  congrArg Host.Outcome.next (if_neg down)

end Arrivals

/-- The form of each of the four hold lines that the bridge raises (R168). -/
theorem raised_iff {α : Type} (up : Bool) (q : List α) :
    (up && decide (Config.ingressCapacity ≤ q.length)) = true ↔ up = true ∧ 16 ≤ q.length := by
  rw [Bool.and_eq_true, decide_eq_true_eq, Config.ingressCapacity]

/-- Settles O9: the state of the port and the room of the ingress decide on each arrival. -/
theorem arrivalsJoinOrAreDiscarded : Obligations.ArrivalsJoinOrAreDiscarded := by
  intro s p c
  refine ⟨exec_deviceRequestArrival_up p, fun down up => exec_deviceCompletionArrival_up c ⟨down, up⟩,
    fun up => ⟨exec_hostRequestArrival_up p up, exec_hostCompletionArrival_up c up⟩, fun down => ?dDown,
    fun down => ?uDown, raised_iff _ _, raised_iff _ _, raised_iff _ _, raised_iff _ _⟩
  case dDown =>
    have lost : ¬s.dUp = true := Bool.eq_false_iff.mp down
    exact ⟨exec_deviceRequestArrival_down p lost, exec_deviceCompletionArrival_down c fun both => lost both.1⟩
  case uDown =>
    have lost : ¬s.uUp = true := Bool.eq_false_iff.mp down
    exact ⟨exec_deviceCompletionArrival_down c fun both => lost both.2, exec_hostRequestArrival_down p lost,
      exec_hostCompletionArrival_down c lost⟩

end Sys2Proof.Machine
end

section
/-! SUPPORT. One step of the bridge while a command waits (Conventions, Happenings (spec/00_scope.md)). -/

namespace Sys2Proof.Machine

/-- A step takes the command at the front off the queue before it executes it. -/
theorem step_of_pending_eq_cons {s : State} {c : Instr} {rest : List Instr} (front : s.pending = c :: rest) :
    step s = exec c { s with pending := rest } := by
  rw [step, front]

/-- Settles O1: the queue with c at its front is the one that the step takes c from, and the queue that it puts
in its place overwrites it. -/
theorem stepTakesFrontCommand : Obligations.StepTakesFrontCommand := fun _ _ _ => step_of_pending_eq_cons rfl

end Sys2Proof.Machine
end

section
/-! SUPPORT. What the commands do to the outstanding counts (R66) and to the management slots (R151), as duties: each
writes a context, a fence slot or a management slot with the list or the entry that goes with it. -/

namespace Sys2Proof.Machine

-- One declaration after another here and below: bodies elaborated beside each other take a thread each.
set_option Elab.async false

/-! ### Duties -/

/-- The entry is one that the outstanding count of requester `r` counts (R66). -/
def Entry.countsFor (r : ReqId) (e : Entry) : Bool :=
  e.state.counted && decide (e.requester = r)

/-- The contexts, the management slots and their lists. -/
def State.slots (s : State) :
    Vector Context 16 × Vector MgmtSlot 8 × List MgmtId × Bool × List MgmtId :=
  (s.contexts, s.mgmt, s.mgmtOrder, s.headWaiting, s.replyOrder)

/-- The states of the fence slots and the management slots that they await. -/
def SameAwaiting (s t : State) : Prop :=
  ∀ k : FenceId, (t.fences[k]).state = (s.fences[k]).state ∧ (t.fences[k]).awaiting = (s.fences[k]).awaiting

/-- Nothing differs that an outstanding count counts or that the law of the management slots reads. -/
structure Aside (s t : State) : Prop where
  slots : t.slots = s.slots
  fences : SameAwaiting s t
  entries : ∀ (i : EntryId) (r : ReqId), (t.entries[i]).countsFor r = (s.entries[i]).countsFor r

/-- A context that is written while it does not drain, by a command or by a stopping fault (R67 to R70, R72). -/
structure Context.Rewrites (c d : Context) : Prop where
  outstanding : d.outstanding = c.outstanding
  quiesce : d.quiesce = c.quiesce
  undrained : c.state ≠ .draining ∧ d.state ≠ .draining
  limit : c.state = .off ∨ d.limit = c.limit
  off : d.state = .off → c.state = .off ∨ c.outstanding = 0

/-- One duty of a command. -/
inductive Duty : State → State → Prop
  | aside {s t} (h : Aside s t) : Duty s t
  | reset {s} (aps : BitVec 3) (pending : List Instr) : Duty s { State.powerOn aps with pending := pending }
  | loseUp {s} : Duty s (loseUpstream s)
  | loseDown {s} : Duty s (endDrains (endFences s (loseDownstream s)))
  | context {s} (r : ReqId) (c : Context) (h : (s.contexts[r]).Rewrites c) : Duty s (setContext r c s)
  | accept {s} (i : EntryId) (e : Entry) (hi : (s.entries[i]).state = .free) (he : e.state.counted = true)
      (ha : (s.contexts[e.requester]).state = .active)
      (hl : (s.contexts[e.requester]).outstanding < (s.contexts[e.requester]).limit) :
      Duty s
        { s with
          entries := s.entries.set i e
          contexts :=
            s.contexts.set e.requester
              { s.contexts[e.requester] with outstanding := (s.contexts[e.requester]).outstanding + 1 } }
  | answered {s} (i : EntryId) (x : Entry) (hi : (s.entries[i]).state = .answering) (hx : x.state.counted = false) :
      Duty s (lowerOutstanding (s.entries[i]).requester (setEntry i x s))
  | endFence {s} (k : FenceId) : Duty s (endFence k s)
  | take {s} (m : MgmtId) (op : MgmtOp) (p : ReqPacket) (h : (s.mgmt[m]).state = .free) : Duty s (takeSlot m op p s)
  | complete {s m rest} (ws : List Word) (h : s.mgmtOrder = m :: rest) : Duty s (completeHead m ws s)
  | wait {s m rest} (h : s.mgmtOrder = m :: rest)
      (hop : (s.mgmt[m]).op = some .retireWindow ∨ (s.mgmt[m]).op = some .invalidate) :
      Duty s { s with headWaiting := true }
  | fence {s m rest} (k : FenceId) (f : Fence) (h : s.mgmtOrder = m :: rest) (hk : (s.fences[k]).state = .free)
      (hf : f.state = .waiting) (ha : f.awaiting = some m) :
      Duty s (s |> popOrder |> setFence k f |> setMgmt m { s.mgmt[m] with state := .running, payload := [] })
  | drain {s m rest} (r : ReqId) (h : s.mgmtOrder = m :: rest)
      (hs : (s.contexts[r]).state = .active ∨ (s.contexts[r]).state = .stopped)
      (ho : (s.contexts[r]).outstanding ≠ 0) :
      Duty s
        (s |> popOrder
          |> setContext r { s.contexts[r] with state := .draining, quiesce := some m }
          |> setMgmt m { s.mgmt[m] with state := .running, payload := [] })
  | reply {s} {m : MgmtId} {rest : List MgmtId} (h : s.replyOrder = m :: rest) :
      Duty s { s with mgmt := s.mgmt.set m {}, replyOrder := rest }

/-- Some duties, one after the other. -/
def Duties (s t : State) : Prop := Relation.ReflTransGen Duty s t

theorem Duties.refl (s : State) : Duties s s := Relation.ReflTransGen.refl

theorem Duties.trans {s t u : State} (h : Duties s t) (h' : Duties t u) : Duties s u :=
  Relation.ReflTransGen.trans h h'

theorem Duty.duties {s t : State} (h : Duty s t) : Duties s t := Relation.ReflTransGen.single h

/-- What every duty keeps, some duties keep. -/
theorem Duties.keeps {P : State → Prop} (hP : ∀ s t, Duty s t → P s → P t) {s t : State} (h : Duties s t) (hs : P s) :
    P t := by
  induction h with
  | refl => exact hs
  | tail _ hd ih => exact hP _ _ hd ih

theorem Duties.ite {b : Prop} [Decidable b] {s t u : State} (ht : b → Duties s t) (hu : ¬b → Duties s u) :
    Duties s (if b then t else u) := by
  split
  next h => exact ht h
  next h => exact hu h

/-! ### What stands aside -/

theorem SameAwaiting.of_eq {s t : State} (h : t.fences = s.fences) : SameAwaiting s t := fun k => by
  rw [h]; exact ⟨rfl, rfl⟩

theorem Aside.same {s t : State} (hs : t.slots = s.slots) (hf : t.fences = s.fences) (he : t.entries = s.entries) :
    Aside s t :=
  ⟨hs, .of_eq hf, fun i r => by rw [he]⟩

theorem Aside.duties {s t : State} (h : Aside s t) : Duties s t := (Duty.aside h).duties

theorem Duties.same {s t : State} (hs : t.slots = s.slots := by rfl) (hf : t.fences = s.fences := by rfl)
    (he : t.entries = s.entries := by rfl) : Duties s t := (Aside.same hs hf he).duties

/-- A live entry that stays live keeps its place in the counts, and so does one that was not and is not. -/
theorem Entry.countsFor_eq {x e : Entry} (hs : x.state.counted = e.state.counted)
    (hr : e.state.counted = true → x.requester = e.requester) (r : ReqId) : x.countsFor r = e.countsFor r := by
  unfold Entry.countsFor
  rw [hs]
  cases hc : e.state.counted with
  | false => rfl
  | true => rw [hr hc]

/-- A write to one entry that keeps its place in the counts. -/
theorem Aside.set {s t : State} {i : EntryId} {x : Entry} (hs : t.slots = s.slots) (hf : SameAwaiting s t)
    (he : t.entries = s.entries.set i x) (hx : x.state.counted = (s.entries[i]).state.counted)
    (hr : (s.entries[i]).state.counted = true → x.requester = (s.entries[i]).requester) : Aside s t where
  slots := hs
  fences := hf
  entries j r := by
    rw [he, set_getElem]
    split
    next h => rw [h]; exact Entry.countsFor_eq hx hr r
    · rfl

theorem Duties.set {s t : State} {i : EntryId} {x : Entry} (hs : t.slots = s.slots) (hf : SameAwaiting s t)
    (he : t.entries = s.entries.set i x) (hx : x.state.counted = (s.entries[i]).state.counted)
    (hr : (s.entries[i]).state.counted = true → x.requester = (s.entries[i]).requester) : Duties s t :=
  (Aside.set hs hf he hx hr).duties

theorem bump_slots (c : Counter) (s : State) : (bump c s).slots = s.slots := by cases c <;> rfl

theorem offerRecord_slots (r : FaultRecord) (s : State) : (offerRecord r s).slots = s.slots := by
  simp only [State.slots, offerRecord_contexts, offerRecord_mgmt, offerRecord_mgmtOrder, offerRecord_headWaiting,
    offerRecord_replyOrder]

theorem dropMarks_sameAwaiting (i : EntryId) (s : State) : SameAwaiting s (dropMarks i s) := fun k => by
  rw [dropMarks_fence]; exact ⟨rfl, rfl⟩

theorem Aside.bump (c : Counter) (s : State) : Aside s (bump c s) :=
  .same (bump_slots c s) (bump_fences ..) (bump_entries ..)

theorem Aside.offerRecord (r : FaultRecord) (s : State) : Aside s (offerRecord r s) :=
  .same (offerRecord_slots r s) (offerRecord_fences ..) (offerRecord_entries ..)

theorem Aside.refl (s : State) : Aside s s := .same rfl rfl rfl

theorem Aside.answerEntry (i : EntryId) (a : Answer) (o : Bool) (s : State) : Aside s (answerEntry i a o s) := by
  by_cases hf : (s.entries[i]).state.inFlight = true
  · refine .set (i := i) (x := (s.entries[i]).answered a o) ?_ (fun k => ?_) (vector_ext fun j => ?_) ?_ fun _ => rfl
    · simp only [Machine.answerEntry, if_pos hf]; rfl
    · simp only [Machine.answerEntry, if_pos hf]
      exact dropMarks_sameAwaiting i s k
    · rw [set_getElem]
      split
      next hj => rw [hj, (answerEntry_entry i a o s hf).1]
      next hj => exact answerEntry_other i j a o s hj
    · rw [EntryState.counted_of_inFlight hf]; rfl
  · rw [answerEntry_of_not i a o s (by simpa using hf)]
    exact .refl s

theorem Aside.queueEntry (i : EntryId) (addr : HAddr) (s : State) : Aside s (queueEntry i addr s) := by
  by_cases hs : (s.entries[i]).state = .translating
  · rw [queueEntry_of_translating i addr s hs]
    exact .set rfl (.of_eq rfl) rfl (by rw [hs]; rfl) fun _ => rfl
  · simpa only [Machine.queueEntry, hs, if_false] using Aside.refl s

/-! ### The work of a happening -/

theorem Context.Rewrites.stopped {c : Context} (kind : FaultKind) (h : c.faultPolicy = .stop ∧ c.state = .active) :
    c.Rewrites { c with state := .stopped, stopCause := some kind } :=
  ⟨rfl, rfl, by simp [h.2], .inr rfl, by simp⟩

theorem Duties.applyStop (kind : FaultKind) (r : ReqId) (s : State) : Duties s (applyStop kind r s) :=
  .ite (fun h => (Duty.context r _ (.stopped kind h)).duties) fun _ => .refl s

theorem Move.duties {c d : Point} (h : Move c d) : Duties c.1 d.1 := by
  cases h with
  | count c => exact (Aside.bump c _).duties
  | record r => exact (Aside.offerRecord r _).duties
  | stop kind r => exact .applyStop kind r _
  | answer i a o => exact (Aside.answerEntry i a o _).duties
  | queue i addr => exact (Aside.queueEntry i addr _).duties
  | place i w p hs => exact .set rfl (.of_eq rfl) rfl rfl fun _ => rfl
  | waitEntry i c r hs => exact .set rfl (.of_eq rfl) rfl (by rw [hs]; rfl) fun _ => rfl
  | requeueEntry i hs => exact .set rfl (.of_eq rfl) rfl (by rw [hs]; rfl) fun _ => rfl
  | unmark i hs =>
    exact .set rfl (dropMarks_sameAwaiting i _) (Vector.set_set _ i.isLt) (by rw [hs]; rfl) fun _ => rfl
  | freeEntry i hs =>
    exact .set rfl (dropMarks_sameAwaiting i _) (Vector.set_set _ i.isLt) (by rw [hs]; rfl)
      fun h => by rw [hs] at h; cases h
  | endFence k => exact (Duty.endFence k).duties
  | _ => exact .same

theorem Moves.duties {s t : State} {L M : List EntryId} (h : Moves (s, L) (t, M)) : Duties s t :=
  h.keeps (P := fun e => Duties s e.1) (fun _ _ hm hs => hs.trans hm.duties) (.refl _)

theorem Turns.duties {s t : State} {L M : List EntryId} (h : Turns (s, L) (t, M)) : Duties s t :=
  h.keeps (P := fun e => Duties s e.1) (fun _ _ hm hs => hs.trans hm.duties)
    (fun _ _ _ _ _ hs => hs.trans (.same)) (.refl _)

theorem Duties.evalTrigger (s : State) : Duties s (evalTrigger s) := (Moves.evalTrigger s []).duties

theorem Duties.conclude (before s : State) : Duties s (conclude before s) := by
  have reset (t : State) : Duties t (resetRotation before t) := by
    rw [resetRotation_eq]
    exact .ite (fun _ => .same) fun _ => .refl t
  rw [conclude_eq]
  exact (Moves.closeEvents before s []).duties.trans (reset _)

/-- A happening: what it opens with, its work, and its close. -/
theorem Duties.happening {s u t : State} (h : Duties s u) (ht : Turns (u, []) (t, [])) :
    Duties s (Machine.conclude s t) := (h.trans ht.duties).trans (.conclude s t)

end Sys2Proof.Machine
end

section
/-! SUPPORT. The duties of every command. -/

namespace Sys2Proof.Machine

set_option Elab.async false

/-! ### Takings of a tick, and completions (R93, R102) -/

theorem Duties.takeTableTick (s : State) : Duties s (takeTableTick s) := by
  have begun : Duties s { s with tableDue := false } := .same
  exact .ite (fun _ => begun.happening (Moves.foldl_same (fun i t => .tickEntry i t) _ _).turns) fun _ => .refl s

theorem Duties.takeWalkTick (s : State) : Duties s (takeWalkTick s) := by
  have begun : Duties s { s with walkDue := false } := .same
  exact .ite (fun _ => begun.happening (Turns.foldl_same (fun k t => .tickWalk k t) _ _)) fun _ => .refl s

theorem Duties.takeAlertTick (s : State) : Duties s (takeAlertTick s) := by
  have begun : Duties s { s with alertDue := false } := .same
  exact .ite (fun _ => begun.happening (Moves.tickAlert _ []).turns) fun _ => .refl s

theorem Duties.tick (s : State) : Duties s (advanceTick (finishTick s)) := by
  have advanced (t : State) : Duties t (advanceTick t) := .same
  exact (((Duties.takeTableTick s).trans (.takeWalkTick _)).trans (.takeAlertTick _)).trans (advanced _)

/-- A command answers a next state, which its duties lead to. -/
def AnswersDuties (s : State) (o : Host.Outcome State Fault Refusal) : Prop :=
  ∃ t, o = .next t ∧ Duties s t

theorem AnswersDuties.next {s t : State} (h : Duties s t) : AnswersDuties s (.next t) := ⟨t, rfl, h⟩

theorem AnswersDuties.of_ite {b : Prop} [Decidable b] {s t : State} (h : Duties s t) :
    AnswersDuties s (.next (if b then t else s)) := .next (.ite (fun _ => h) fun _ => .refl s)

theorem AnswersDuties.completionMatching (s : State) : AnswersDuties s (execCompletionMatching s) := by
  refine .next ?_
  split
  · exact .refl s
  next p rest _ =>
    have taken : Duties s { s with uCplIn := rest } := .same
    exact taken.happening (.takeCompletion p _)

/-! ### The intake (R43 to R50) -/

/-- A refusal, and the records and stops that follow it (R44, R47). -/
theorem Duties.refused {p : ReqPacket} {st : Status} {s u : State} (rest : List ReqPacket)
    (h : Moves (refuseRequest p st { s with dReqIn := rest }, []) (u, [])) : Duties s u := by
  have joined : Duties s { s with
      dReqIn := rest, refusalQ := s.refusalQ ++ [⟨headerSource p.h0, headerTag p.h0, st⟩] } := .same
  have counted (t : State) : Duties t (bumpRefused (headerSource p.h0) t) :=
    (Moves.bumpRefused (headerSource p.h0) t []).duties
  exact ((joined.trans (Aside.bump intakeRefusals _).duties).trans (counted _)).trans h.duties

/-- A request of an ACTIVE context below its limit is accepted into a FREE entry, and translated (R49, R50). -/
theorem Duties.acceptRequest {i : EntryId} {r : ReqId} {s : State} (p : ReqPacket) (w : WinId)
    (rest : List ReqPacket) (hi : (s.entries[i]).state = .free) (ha : (s.contexts[r]).state = .active)
    (hl : (s.contexts[r]).outstanding < (s.contexts[r]).limit) :
    Duties s (acceptRequest i r p w { s with dReqIn := rest }) := by
  have written := (Duty.accept i (acceptedAs s p r w) hi rfl ha hl).duties
  have counted : Duties _ (acceptedTo rest i r (acceptedAs s p r w) s) :=
    written.trans (.same (bump_slots ..) (bump_fences ..) (bump_entries ..))
  rw [acceptRequest_eq]
  exact counted.trans (Moves.translateIn (MissMoves.goToWalk 4) w (freeWalks_le_four _)
    (by rw [acceptedTo_entry]; rfl) []).duties

theorem Duties.admitRequest {i : EntryId} {s : State} (r : ReqId) (p : ReqPacket) (rest : List ReqPacket)
    (hi : (s.entries[i]).state = .free) : Duties s (admitRequest i r p { s with dReqIn := rest }) := by
  unfold Machine.admitRequest
  simp only
  split
  · exact .refused rest (.refl _)
  next hoff =>
  split
  · exact .refused rest (.refl _)
  next hdrain =>
  split
  · exact .refused rest (Move.record _).moves
  split
  · exact .refused rest (.refl _)
  next hl =>
  split
  · exact .refused rest ((Move.record _).moves.trans (Move.stop _ _).moves)
  next w _ =>
  split
  · exact .refused rest (.refl _)
  split
  · refine .acceptRequest p w rest hi ?_ (Nat.lt_of_not_le hl)
    cases hs : (s.contexts[r]).state with
    | active => rfl
    | off => exact absurd (.inl hs) hoff
    | stopped => exact absurd (.inr hs) hoff
    | draining => exact absurd hs hdrain
  · exact .refused rest ((Move.record _).moves.trans (Move.stop _ _).moves)

theorem AnswersDuties.intake (s : State) : AnswersDuties s (execIntakeTakeRequest s) := by
  refine .next ?_
  split
  next p rest i _ hi =>
    have free : (s.entries[i]).state = .free := by simpa using List.find?_some hi
    refine .ite (fun _ => Duties.trans ?_ (.conclude s _)) fun _ => .refl s
    unfold checkRequest
    split
    · exact .refused rest (.refl _)
    split
    · exact .admitRequest _ p rest free
    · exact .refused rest (Move.record _).moves
    · exact .refused rest (Move.record _).moves
  · exact .refl s
  · exact .refl s

/-! ### Arbiters (R80 to R87, R171) -/

theorem Duties.grantForward (i : EntryId) (rest : List EntryId) (s : State) : Duties s (grantForward i rest s) := by
  unfold Machine.grantForward
  simp only
  split
  next hs =>
    have issued {t : State} (ht : Duties s t) (he : t.entries = s.entries) (tx : Option Packet) :
        Duties s { t with entries := t.entries.set i { s.entries[i] with state := .issued }, uTx := tx } :=
      ht.trans (.set rfl (.of_eq rfl) rfl (by rw [he, hs]; rfl) fun _ => by rw [he])
    have taken : Duties s { s with issueQ := rest } := .same
    split
    · exact issued (taken.trans (Aside.bump forwarded _).duties) (bump_entries ..) _
    · exact issued taken rfl _
  · exact .same

theorem Duties.grantOwn (o : OwnRequest) (rest : List OwnRequest) (s : State) : Duties s (grantOwn o rest s) := by
  have taken : Duties s { s with ownList := rest } := .same
  cases o with
  | walk k =>
    have sent (t : State) (x : WalkSlot) (tx : Option Packet) : Duties t { setWalk k x t with uTx := tx } :=
      .same
    exact taken.trans (.ite (fun _ => (Aside.bump _ _).duties.trans (sent _ _ _)) fun _ => .refl _)
  | alert => exact taken.trans (.ite (fun _ => .same) fun _ => .refl _)

theorem Duties.grantRequest (s : State) : Duties s (grantRequest s) := by
  have turned (t : State) (n : Nat) : Duties t { t with rotation := n } := .same
  have forward (i : EntryId) (rest : List EntryId) (n : Nat) := (Duties.grantForward i rest s).trans (turned _ n)
  have own (o : OwnRequest) (rest : List OwnRequest) := (Duties.grantOwn o rest s).trans (turned _ 0)
  unfold Machine.grantRequest
  split
  · exact .refl s
  · exact forward _ _ 0
  · exact own _ _
  · exact .ite (fun _ => forward _ _ _) fun _ => own _ _

theorem Duties.grantCompletion (s : State) : Duties s (grantCompletion s) := by
  have turned (t : State) (x : CplTurn) : Duties t { t with cplTurn := x } := .same
  have management : Duties s (sendManagement s) := by
    unfold sendManagement
    split
    next m rest hr => exact (Duty.reply hr).duties.trans (.same)
    · split
      · exact .same
      · exact .refl s
  have passThrough : Duties s (sendPassThrough s) := by
    unfold sendPassThrough
    split
    · exact .same
    · exact .refl s
  exact .ite (fun _ => management.trans (turned _ _)) fun _ => passThrough.trans (turned _ _)

theorem sentEntry_uncounted (now : Tick) (e : Entry) : (sentEntry now e).state.counted = false := by
  unfold sentEntry
  split <;> rfl

theorem Duties.sendAnswer (i : EntryId) (rest : List EntryId) (s : State) : Duties s (sendAnswer i rest s) := by
  unfold Machine.sendAnswer
  simp only
  split
  next a hs _ =>
    have sent (tx : Option Packet) : Duties s { s with answerQ := rest, dTx := tx } := .same
    have counted := (sent (some (.completion (answerPacket s.entries[i] a)))).trans
      (Aside.bump (answerCounter (s.entries[i]).requester a) _).duties
    have freed := Duty.answered (s := Machine.bump (answerCounter (s.entries[i]).requester a)
        { s with answerQ := rest, dTx := some (.completion (answerPacket s.entries[i] a)) }) i
      (sentEntry s.now s.entries[i]) (by rw [bump_entries]; exact hs) (sentEntry_uncounted _ _)
    rw [bump_entries] at freed
    exact counted.trans freed.duties
  · exact .same

theorem Duties.grantDeviceCompletion (s : State) : Duties s (grantDeviceCompletion s) := by
  have turned (t : State) (x : AnswerTurn) : Duties t { t with answerTurn := x } := .same
  have answer (i : EntryId) (rest : List EntryId) := (Duties.sendAnswer i rest s).trans (turned _ .refusal)
  have refusal (r : Refused) (rest : List Refused) : Duties s { sendRefusal r rest s with answerTurn := .answer } :=
    .same
  unfold Machine.grantDeviceCompletion
  split
  · exact .refl s
  · exact answer _ _
  · exact refusal _ _
  · split
    · exact answer _ _
    · exact refusal _ _

theorem AnswersDuties.answerArbiterGrant (s : State) : AnswersDuties s (execAnswerArbiterGrant s) := by
  have request : Duties s (grantDeviceRequest s) := by
    unfold grantDeviceRequest
    split
    · exact .same
    · exact .refl s
  have raised : Duties s (raiseRun s) := .ite (fun _ => .same) fun _ => .refl s
  exact .next (.ite (fun _ => .refl s) fun _ => .ite (fun _ => request) fun _ =>
    .ite (fun _ => raised.trans (.grantDeviceCompletion _)) fun _ => .ite (fun _ => request) fun _ => .refl s)

/-! ### The management order (R148 to R157) -/

theorem Duties.decodeHost {p : ReqPacket} {s t : State} (h : decodeHost p s = some t) : Duties s t := by
  have refusal {st : Status} {b : Bool}
      (h : (if b = true then some (refuseHost p st s) else none) = some t) : Duties s t := by
    split at h
    · cases h; exact .same
    · cases h
  unfold Machine.decodeHost at h
  simp only at h
  split at h
  · split at h
    · split at h
      next m hm =>
        cases h
        exact (Duty.take m _ p (by simpa using List.find?_some hm)).duties
      · exact refusal h
    · exact refusal h
  · split at h
    · split at h
      · cases h; exact .same
      · cases h
    · exact refusal h

theorem AnswersDuties.managementDecode (s : State) : AnswersDuties s (execManagementDecode s) := by
  refine .next ?_
  split
  · exact .refl s
  next p rest _ =>
    have taken : Duties s { s with uReqIn := rest } := .same
    cases hd : Machine.decodeHost p { s with uReqIn := rest } with
    | none => exact .refl s
    | some u => exact taken.trans (.decodeHost hd)

theorem Duties.answerQuery (words : MgmtOp → Option (List Word)) (s : State) : Duties s (answerQuery words s) := by
  unfold Machine.answerQuery
  split
  · exact .refl s
  next m op hm =>
    split
    · exact .refl s
    · unfold executable at hm
      split at hm
      · cases hm
      split at hm
      · cases hm
      next n rest order =>
        obtain ⟨_, -, same⟩ := Option.map_eq_some_iff.mp hm
        cases same
        exact (Duty.complete _ order).duties

theorem AnswersDuties.head {op : MgmtOp} {body : MgmtId → List Word → State → State} {s : State}
    (hb : ∀ m rest ws, HeadHolds s m rest op ws → Duties s (body m ws s)) :
    AnswersDuties s (.next (whenHead op body s)) := by
  rcases whenHead_cases op body s with he | ⟨m, rest, head, he⟩
  · rw [he]; exact .next (.refl s)
  · rw [he]; exact .next (hb m rest _ head)

/-- CONFIGURE_REQUESTER rewrites the settings of an OFF context (R67). -/
theorem configuredContext_rewrites {f : ConfigureFields} {c d : Context} (off : c.state = .off)
    (h : configuredContext f c = some d) : c.Rewrites d := by
  unfold configuredContext at h
  split at h
  · split at h
    · cases h
    · cases h
      exact ⟨rfl, rfl, by simp [off], .inl off, fun _ => .inl off⟩
  · cases h

section Head

variable {s : State} {m : MgmtId} {rest : List MgmtId} (order : s.mgmtOrder = m :: rest)

include order

theorem Duties.completeHead (words : List Word) : Duties s (completeHead m words s) :=
  (Duty.complete words order).duties

theorem Duties.resultHead (r : Result) : Duties s (resultHead m r s) := .completeHead order _

/-- The head replies after its body has written what stands aside. -/
theorem Duties.thenResult {t : State} (r : Result) (hs : t.slots = s.slots := by rfl)
    (hf : t.fences = s.fences := by rfl) (he : t.entries = s.entries := by rfl) :
    Duties s (Machine.resultHead m r t) :=
  (Duties.same hs hf he).trans (.resultHead ((congrArg (fun x => x.2.2.1) hs).trans order) r)

theorem Duties.context (r : ReqId) {c : Context} (h : (s.contexts[r]).Rewrites c) :
    Duties s (s |> setContext r c |> Machine.resultHead m .done) :=
  (Duty.context r c h).duties.trans (.resultHead (s := setContext r c s) order _)

theorem Duties.runLoadWindow (ws : List Word) : Duties s (runLoadWindow m ws s) := by
  unfold Machine.runLoadWindow
  simp only
  split
  · exact .resultHead order _
  refine .ite (fun _ => .resultHead order _) fun _ => .ite (fun _ => .resultHead order _) fun _ => ?_
  split
  · exact .resultHead order _
  · exact .thenResult order _

/-- The start of a fence withdraws its scope, and its command's slot replies or awaits it (R117, R120). -/
theorem Duties.startFence {k : FenceId} (hk : (s.fences[k]).state = .free) (cmd : FenceCommand) (scope : Scope) :
    Duties s (startFence k cmd scope m s) := by
  have withdrawn : Duties s (withdrawScope k cmd scope s) := by
    refine Aside.duties ⟨rfl, .of_eq rfl, fun i r => ?_⟩
    rw [withdrawScope_entry]
    exact Entry.countsFor_eq (by rw [Entry.fenced_state]) (fun _ => by unfold Entry.fenced; split <;> rfl) r
  unfold Machine.startFence
  simp only
  split
  · rw [freeRetired_eq]
    have freed (ws : Vector Window 24) : Duties (withdrawScope k cmd scope s)
        { withdrawScope k cmd scope s with windows := ws } := .same
    exact (withdrawn.trans (freed _)).trans (.completeHead (rest := rest)
      (s := { withdrawScope k cmd scope s with
        windows := freedWindows { command := some cmd, scope := some scope } (withdrawScope k cmd scope s).windows })
      order _)
  · exact withdrawn.trans (Duty.fence (s := withdrawScope k cmd scope s) (rest := rest) k _ order hk rfl rfl).duties

theorem Duties.runFenceCommand {cmd : FenceCommand} (hop : (s.mgmt[m]).op = some (fenceOp cmd))
    (c : Except Result Scope) : Duties s (runFenceCommand cmd m c s) := by
  unfold Machine.runFenceCommand
  split
  · exact .resultHead order _
  · split
    · refine (Duty.wait order ?_).duties
      cases cmd with
      | retireWindow => exact .inl hop
      | invalidate => exact .inr hop
    next k hk => exact .startFence order (lowestFreeFence_free hk) cmd _

theorem Duties.resumeFence : Duties s (resumeFence m s) := by
  unfold Machine.resumeFence
  simp only
  split
  next hop => exact .runFenceCommand (cmd := .retireWindow) order hop _
  next hop => exact .runFenceCommand (cmd := .invalidate) order hop _
  · exact .refl s

theorem Duties.runConfigureRequester (ws : List Word) : Duties s (runConfigureRequester m ws s) := by
  unfold Machine.runConfigureRequester
  simp only
  split
  · exact .resultHead order _
  next r _ =>
    refine .ite (fun _ => .resultHead order _) fun off => ?_
    split
    · exact .resultHead order _
    next c hc => exact .context order r (configuredContext_rewrites (not_not.mp off) hc)

theorem Duties.runActivate {source : CtxState} (hs : source ≠ .draining) (ws : List Word) :
    Duties s (runActivate source m ws s) := by
  unfold Machine.runActivate
  split
  · exact .resultHead order _
  next r _ =>
    refine .ite (fun found => .context order r ?_) fun _ => .resultHead order _
    exact ⟨rfl, rfl, ⟨by rw [found]; exact hs, by simp⟩, .inr rfl, by simp⟩

theorem Duties.runQuiesce (ws : List Word) : Duties s (runQuiesce m ws s) := by
  unfold Machine.runQuiesce
  simp only
  split
  · exact .resultHead order _
  next r _ =>
    have quiesced (live : (s.contexts[r]).state = .active ∨ (s.contexts[r]).state = .stopped) :
        Duties s (if (s.contexts[r]).outstanding = 0 then
            s |> setContext r { s.contexts[r] with state := .off } |> Machine.resultHead m .done
          else s |> popOrder
            |> setContext r { s.contexts[r] with state := .draining, quiesce := some m }
            |> setMgmt m { s.mgmt[m] with state := .running, payload := [] }) := by
      refine .ite (fun none => .context order r ?_) fun some => (Duty.drain r order live some).duties
      refine ⟨rfl, rfl, ⟨?_, by simp⟩, .inr rfl, fun _ => .inr none⟩
      rcases live with h | h <;> rw [h] <;> simp
    split
    · exact .resultHead order _
    · exact .resultHead order _
    next active => exact quiesced (.inl active)
    next stopped => exact quiesced (.inr stopped)

theorem Duties.runSetAlert (ws : List Word) : Duties s (runSetAlert m ws s) := by
  unfold Machine.runSetAlert
  simp only
  split
  · exact .resultHead order _
  · exact .ite (fun _ => .resultHead order _) fun _ =>
      (Duties.thenResult order _).trans (.evalTrigger _)

theorem Duties.clearGroup (g : Fin 18) : Duties s (clearGroup g s |> Machine.resultHead m .done) := by
  unfold Machine.clearGroup
  split
  · exact .thenResult order _
  split
  · exact .thenResult order _
  · exact .thenResult order _

end Head

theorem AnswersDuties.fenceCommandResumption (s : State) : AnswersDuties s (execFenceCommandResumption s) := by
  refine .of_ite ?_
  split
  · exact .refl s
  next order => exact .resumeFence order

/-! ### Every command -/

theorem exec_answersDuties (c : Instr) (s : State) : AnswersDuties s (exec c s) := by
  cases c with
  | powerOn aps => exact .next (Duty.reset aps s.pending).duties
  | uPortDown => exact .of_ite (Duty.loseUp.duties.trans .same)
  | uPortUp =>
    have up : Duties s { s with uUp := true } := .same
    exact .next (.ite (fun _ => .refl s) fun _ => up.trans (.evalTrigger _))
  | resetMessage => exact .of_ite (Duty.loseUp.duties.trans (.evalTrigger _))
  | dPortDown => exact .of_ite Duty.loseDown.duties
  | dPortUp => exact .next .same
  | holdLineChange port cls on =>
    refine .next ?_
    split <;> exact .ite (fun _ => .same) fun _ => .refl s
  | deviceRequestArrival p => exact .of_ite .same
  | deviceCompletionArrival p => exact .of_ite .same
  | hostRequestArrival p => exact .of_ite .same
  | hostCompletionArrival p => exact .of_ite .same
  | intakeTakeRequest => exact .intake s
  | issueArbiterGrant =>
    exact .next (.ite (fun _ => .refl s) fun _ => .ite (fun _ => .grantCompletion s) fun _ =>
      .ite (fun _ => .refl s) fun _ => .grantRequest s)
  | answerArbiterGrant => exact .answerArbiterGrant s
  | passThroughRefusal =>
    refine .next ?_
    split
    · exact .refl s
    · exact .ite (fun _ => .same) fun _ => .refl s
  | managementDecode => exact .managementDecode s
  | completionMatching => exact .completionMatching s
  | tick => exact .next (.tick s)
  | requestAgeExpiry e => exact .of_ite (.takeTableTick s)
  | entryRelease e => exact .of_ite (.takeTableTick s)
  | entryReclaim e => exact .of_ite (.takeTableTick s)
  | walkTimeout k => exact .of_ite (.takeWalkTick s)
  | walkRelease k => exact .of_ite (.takeWalkTick s)
  | walkReclaim k => exact .of_ite (.takeWalkTick s)
  | alertTimeout => exact .of_ite (.takeAlertTick s)
  | alertRelease => exact .of_ite (.takeAlertTick s)
  | alertReclaim => exact .of_ite (.takeAlertTick s)
  | loadWindow => exact .head fun _ _ ws head => .runLoadWindow head.1 ws
  | retireWindow => exact .head fun _ _ _ head => .runFenceCommand (cmd := .retireWindow) head.1 head.2.2.1 _
  | invalidate => exact .head fun _ _ _ head => .runFenceCommand (cmd := .invalidate) head.1 head.2.2.1 _
  | fenceCommandResumption => exact .fenceCommandResumption s
  | configureRequester => exact .head fun _ _ ws head => .runConfigureRequester head.1 ws
  | enableRequester => exact .head fun _ _ ws head => .runActivate head.1 (by decide) ws
  | resumeRequester => exact .head fun _ _ ws head => .runActivate head.1 (by decide) ws
  | quiesceRequester => exact .head fun _ _ ws head => .runQuiesce head.1 ws
  | setTiming =>
    exact .head fun _ _ _ head => .ite (fun _ => .thenResult head.1 _) fun _ => .resultHead head.1 _
  | setArbiter =>
    exact .head fun _ _ _ head => .ite (fun _ => .resultHead head.1 _) fun _ => .thenResult head.1 _
  | setAlert => exact .head fun _ _ ws head => .runSetAlert head.1 ws
  | ackAlert => exact .head fun _ _ _ head => (Duties.thenResult head.1 _).trans (.evalTrigger _)
  | clearCounters =>
    refine .head fun _ _ _ head => .ite (fun _ => .thenResult head.1 _) fun _ => ?_
    split
    · exact .resultHead head.1 _
    next g _ => exact .clearGroup head.1 g
  | clearFaults => exact .head fun _ _ _ head => .thenResult head.1 _
  | moveAperture =>
    exact .head fun _ _ _ head => .ite (fun _ => .resultHead head.1 _) fun _ => .thenResult head.1 _
  | status => exact .head fun _ _ _ head => .completeHead head.1 _
  | window => exact .next (.answerQuery _ s)
  | requester => exact .next (.answerQuery _ s)
  | counters => exact .next (.answerQuery _ s)
  | fault =>
    refine .head fun m _ _ head => ?_
    split
    · exact .completeHead head.1 _
    next r rest _ =>
      have removed : Duties s { s with faults := rest } := .same
      exact removed.trans (.completeHead (s := { s with faults := rest }) head.1 _)
  | time => exact .head fun _ _ _ head => .completeHead head.1 _
  | fences => exact .head fun _ _ _ head => .completeHead head.1 _
  | cacheStorageUpset w page => exact .next .same

/-- A step is made of duties. -/
theorem step_duties {s t : State} (h : step s = .next t) : Duties s t := by
  unfold step at h
  split at h
  · cases h; exact .refl s
  next c rest _ =>
    have taken : Duties s { s with pending := rest } := .same
    obtain ⟨u, hu, duties⟩ := exec_answersDuties c { s with pending := rest }
    rw [hu] at h
    cases h
    exact taken.trans duties

end Sys2Proof.Machine
end

section
/-! SUPPORT. The law of the outstanding counts, kept by every duty (R66, R71, R75). -/

namespace Sys2Proof.Machine

set_option Elab.async false

/-! ### One context and its count -/

/-- The context meets the law with `n` entries that count (R66). -/
def Context.CountsTo (n : Nat) (c : Context) : Prop :=
  c.outstanding = n ∧ c.outstanding ≤ c.limit ∧ (c.state = .off → c.outstanding = 0)
    ∧ (c.state = .draining → 0 < c.outstanding)

theorem countLaw_iff {s : State} : CountLaw s ↔ ∀ r : ReqId, (s.contexts[r]).CountsTo (countedEntries r s) := Iff.rfl

theorem Context.Rewrites.countsTo {c d : Context} {n : Nat} (h : c.Rewrites d) (hc : c.CountsTo n) : d.CountsTo n := by
  obtain ⟨count, limit, off, -⟩ := hc
  refine ⟨h.outstanding.trans count, ?_, fun hd => ?_, fun hd => absurd hd h.undrained.2⟩
  · rw [h.outstanding]
    rcases h.limit with hs | hl
    · rw [off hs]; exact Nat.zero_le _
    · rw [hl]; exact limit
  · rw [h.outstanding]
    exact (h.off hd).elim off id

/-- The context after one of its entries has left the count (R66, R71). -/
def Context.lowered (c : Context) : Context :=
  if c.state = .draining ∧ c.outstanding = 1 then { c with outstanding := 0, state := .off, quiesce := none }
  else { c with outstanding := c.outstanding - 1 }

/-- The management slot that the end of the drain makes REPLYING, if the drain ends (R71). -/
def Context.awaitedAtEnd (c : Context) : Option MgmtId :=
  if c.state = .draining ∧ c.outstanding = 1 then c.quiesce else none

theorem lowerOutstanding_lowered (r : ReqId) (s : State) :
    lowerOutstanding r s = replyDone (s.contexts[r]).awaitedAtEnd
      { s with contexts := s.contexts.set r (s.contexts[r]).lowered } := by
  rw [lowerOutstanding_eq]
  unfold Context.lowered Context.awaitedAtEnd
  split <;> rfl

theorem Context.CountsTo.lowered {c : Context} {n : Nat} (h : c.CountsTo (n + 1)) : c.lowered.CountsTo n := by
  obtain ⟨count, limit, off, draining⟩ := h
  unfold Context.lowered
  split
  next ends => exact ⟨by simp only; omega, Nat.zero_le _, fun _ => rfl, fun hd => by cases hd⟩
  next more =>
    refine ⟨by simp only; omega, by simp only; omega, fun hoff => ?_, fun hd => ?_⟩
    · simp only [off hoff]
    · have positive := draining hd
      have others : c.outstanding ≠ 1 := fun one => more ⟨hd, one⟩
      simp only
      omega

theorem Entry.countsFor_of_uncounted {e : Entry} (h : e.state.counted = false) (r : ReqId) : e.countsFor r = false := by
  rw [countsFor, h]; rfl

theorem Entry.countsFor_of_counted {e : Entry} (h : e.state.counted = true) (r : ReqId) :
    e.countsFor r = decide (e.requester = r) := by
  rw [countsFor, h]; rfl

/-! ### The counted entries -/

theorem countedEntries_congr {s t : State}
    (h : ∀ (i : EntryId) (r : ReqId), (t.entries[i]).countsFor r = (s.entries[i]).countsFor r) (r : ReqId) :
    countedEntries r t = countedEntries r s :=
  congrArg (List.countP · _) (funext fun i => h i r)

/-- One entry that is written changes the count by itself. -/
theorem countedEntries_set {s t : State} {i : EntryId} {x : Entry} (he : t.entries = s.entries.set i x) (r : ReqId) :
    countedEntries r t + (if (s.entries[i]).countsFor r = true then 1 else 0)
      = countedEntries r s + if x.countsFor r = true then 1 else 0 := by
  have entry (j : EntryId) : t.entries[j] = if j = i then x else s.entries[j] := by rw [he, set_getElem]
  have counts := countP_finRange_of_ne (p := fun j : EntryId => (s.entries[j]).countsFor r)
    (q := fun j : EntryId => (t.entries[j]).countsFor r) i fun j hj => by simp only [entry, if_neg hj]
  simp only [entry, if_true] at counts
  have total : countedEntries r t
      = (List.finRange 64).countP fun j => (if j = i then x else s.entries[j]).countsFor r :=
    congrArg (List.countP · _) (funext fun j => by rw [← entry]; rfl)
  rw [total]
  exact counts

theorem countedEntries_eq_zero {t : State} (h : ∀ i : EntryId, (t.entries[i]).state.counted = false) (r : ReqId) :
    countedEntries r t = 0 :=
  List.countP_eq_zero.mpr fun i _ => by
    rw [← Entry.countsFor, Entry.countsFor_of_uncounted (h i)]
    decide

/-! ### The law at each duty -/

theorem CountLaw.aside {s t : State} (h : Aside s t) (hs : CountLaw s) : CountLaw t := fun r => by
  rw [show t.contexts = s.contexts from congrArg Prod.fst h.slots, countedEntries_congr h.entries r]
  exact hs r

theorem CountLaw.of_same {s t : State} (hs : CountLaw s) (hc : t.contexts = s.contexts) (he : t.entries = s.entries) :
    CountLaw t := fun r => by
  rw [hc, countedEntries_congr (s := s) (fun i r => by rw [he]) r]
  exact hs r

theorem CountLaw.setContext {s : State} (hs : CountLaw s) {r : ReqId} {c : Context}
    (hc : c.CountsTo (countedEntries r s)) : CountLaw (setContext r c s) := fun q => by
  show ((s.contexts.set r c)[q]).CountsTo (countedEntries q s)
  rw [set_getElem]
  split
  next h => rw [h]; exact hc
  · exact hs q

/-- A request is accepted below the limit, and its entry counts from then on (R49, R66). -/
theorem CountLaw.accept {s : State} (hs : CountLaw s) {i : EntryId} {e : Entry} (hi : (s.entries[i]).state = .free)
    (he : e.state.counted = true) (ha : (s.contexts[e.requester]).state = .active)
    (hl : (s.contexts[e.requester]).outstanding < (s.contexts[e.requester]).limit) {t : State}
    (ht : t.entries = s.entries.set i e)
    (hc : t.contexts = s.contexts.set e.requester
      { s.contexts[e.requester] with outstanding := (s.contexts[e.requester]).outstanding + 1 }) :
    CountLaw t := fun r => by
  have counted := countedEntries_set ht r
  rw [Entry.countsFor_of_uncounted (by rw [hi]; rfl), Entry.countsFor_of_counted he] at counted
  obtain ⟨count, limit, off, draining⟩ := hs r
  rw [hc, set_getElem]
  by_cases hr : r = e.requester
  · subst hr
    rw [if_pos rfl]
    simp only [decide_true, if_true, Bool.false_eq_true, if_false] at counted
    refine ⟨by simp only; omega, hl, fun hoff => ?_, fun _ => Nat.succ_pos _⟩
    rw [ha] at hoff
    cases hoff
  · rw [if_neg hr]
    simp only [Ne.symm hr, decide_false, Bool.false_eq_true, if_false] at counted
    exact ⟨by omega, limit, off, draining⟩

/-- An answer that is sent takes its entry out of the count, and the last one ends a drain (R56, R71). -/
theorem CountLaw.answered {s : State} (hs : CountLaw s) {i : EntryId} {x : Entry}
    (hi : (s.entries[i]).state = .answering) (hx : x.state.counted = false) :
    CountLaw (lowerOutstanding (s.entries[i]).requester (setEntry i x s)) := fun q => by
  have counted := countedEntries_set (t := setEntry i x s) rfl q
  rw [Entry.countsFor_of_uncounted hx, Entry.countsFor_of_counted (by rw [hi]; rfl)] at counted
  have law := hs q
  generalize (s.entries[i]).requester = r at counted
  rw [lowerOutstanding_lowered, replyDone_eq]
  show ((s.contexts.set r (s.contexts[r]).lowered)[q]).CountsTo (countedEntries q (setEntry i x s))
  rw [set_getElem]
  by_cases hq : q = r
  · subst hq
    rw [if_pos rfl]
    simp only [decide_true, if_true, Bool.false_eq_true, if_false] at counted
    exact Context.CountsTo.lowered (counted ▸ law)
  · rw [if_neg hq]
    simp only [Ne.symm hq, decide_false, Bool.false_eq_true, if_false, Nat.add_zero] at counted
    exact counted ▸ law

/-- The sweep answers what is in flight and frees what does not count (R61). -/
theorem sweepEntry_countsFor (e : Entry) (r : ReqId) : (sweepEntry e).countsFor r = e.countsFor r := by
  refine Entry.countsFor_eq ?_ (fun hc => ?_) r
  · rw [sweepEntry_state]
    cases e.state <;> rfl
  · rw [sweepEntry_eq]
    split
    · rfl
    split
    next h => rw [h] at hc; cases hc
    split <;> rfl

theorem loseUpstream_context (s : State) (r : ReqId) :
    (loseUpstream s).contexts[r] = { s.contexts[r] with quiesce := none } := by
  simp only [loseUpstream, offerRecord_contexts, getElem_ofFn]

theorem CountLaw.loseUpstream {s : State} (hs : CountLaw s) : CountLaw (loseUpstream s) := fun r => by
  obtain ⟨-, -, -, -, entries⟩ := loseUpstream_places s
  rw [loseUpstream_context, countedEntries_congr (s := s) (fun i r => by rw [entries, sweepEntry_countsFor]) r]
  exact hs r

/-- The loss of the D-port leaves no entry that counts and no context that drains (R59, R78). -/
theorem CountLaw.loseDown (s : State) : CountLaw (endDrains (endFences s (loseDownstream s))) := fun r => by
  have down : (endDrains (endFences s (loseDownstream s))).dUp = false :=
    endDrains_keeps (P := fun t => t.dUp = false)
      (fun t r ht => by rw [endDrain_eq]; exact (replyDone_outside _ _).dUp.trans ht)
      (endFences_keeps (P := fun t => t.dUp = false) (fun t k ht => (endFence_outside k t).dUp.trans ht) rfl)
  obtain ⟨-, emptied, undrained⟩ := DownLaw.loseDown s down
  have none := emptied.outstanding r
  have uncounted := countedEntries_eq_zero (t := endDrains (endFences s (loseDownstream s)))
    (fun i => by rcases emptied.entries i with h | h <;> (simp only at h; rw [h]; rfl)) r
  exact ⟨by rw [uncounted]; exact none, by simp only at none; omega, fun _ => none,
    fun h => absurd h (undrained r)⟩

theorem CountLaw.duty {s t : State} (h : Duty s t) (hs : CountLaw s) : CountLaw t := by
  cases h with
  | aside h => exact hs.aside h
  | reset aps pending => exact (powerOn_counts aps).of_same rfl rfl
  | loseUp => exact hs.loseUpstream
  | loseDown => exact .loseDown s
  | context r c h => exact hs.setContext (h.countsTo (hs r))
  | accept i e hi he ha hl => exact hs.accept hi he ha hl rfl rfl
  | answered i x hi hx => exact hs.answered hi hx
  | endFence k => rw [endFence_eq, replyDone_eq]; exact hs.of_same rfl rfl
  | drain r order live some =>
    obtain ⟨count, limit, -, -⟩ := hs r
    have drains (m : MgmtId) :
        CountLaw (Machine.setContext r { s.contexts[r] with state := .draining, quiesce := .some m } s) :=
      hs.setContext ⟨count, limit, nofun, fun _ => Nat.pos_of_ne_zero some⟩
    exact (drains _).of_same rfl rfl
  | _ => exact hs.of_same rfl rfl

/-- Settles O48: every duty that makes or frees an entry that counts writes the count of its requester, and only an
ACTIVE or STOPPED context with entries that count starts to drain. -/
theorem outstandingCountsKept : Obligations.OutstandingCountsKept := fun _ _ hs h =>
  (step_duties h).keeps (fun _ _ => CountLaw.duty) hs

end Sys2Proof.Machine
end

section
/-! SUPPORT. The law of the management slots, kept by every duty (R64, R71, R112, R120, R151 to R157). -/

namespace Sys2Proof.Machine

set_option Elab.async false

/-! ### Slots, counted -/

/-- How many fence slots and contexts await the slot (R64, R112). -/
def awaits (m : MgmtId) (s : State) : Nat :=
  (List.finRange 4).countP (fun k => (s.fences[k]).awaiting == some m)
    + (List.finRange 16).countP fun r => (s.contexts[r]).quiesce == some m

theorem count_awaitedSlots (m : MgmtId) (s : State) : (awaitedSlots s).count m = awaits m s := by
  rw [awaitedSlots, List.count_append, List.count_filterMap, List.count_filterMap, awaits]

/-- The slot stands in the list of its state, or is awaited if it is RUNNING, once. -/
structure SlotStands (s : State) (m : MgmtId) : Prop where
  order : s.mgmtOrder.count m = if (s.mgmt[m]).state = .queued then 1 else 0
  reply : s.replyOrder.count m = if (s.mgmt[m]).state = .replying then 1 else 0
  awaited : awaits m s = if (s.mgmt[m]).state = .running then 1 else 0
  op : (s.mgmt[m]).state = .queued → (s.mgmt[m]).op.isSome = true

/-- FREE fence slots and contexts that are not DRAINING await no slot (R71, R120). -/
structure AwaitsOnly (s : State) : Prop where
  fences : ∀ k : FenceId, (s.fences[k]).state = .free → (s.fences[k]).awaiting = none
  contexts : ∀ r : ReqId, (s.contexts[r]).state ≠ .draining → (s.contexts[r]).quiesce = none

/-- If the head waits for a fence slot, it holds a fence command (R116, R152). -/
def HeadFences (s : State) : Prop :=
  s.headWaiting = true → ∃ m, s.mgmtOrder.head? = some m
    ∧ ((s.mgmt[m]).op = some .retireWindow ∨ (s.mgmt[m]).op = some .invalidate)

/-- Every slot stands where its state puts it. -/
structure Managed (s : State) : Prop where
  slots : ∀ m, SlotStands s m
  only : AwaitsOnly s
  head : HeadFences s

theorem mgmtLaw_iff {s : State} : MgmtLaw s ↔ Managed s := by
  constructor
  · rintro ⟨on, om, rn, rm, an, am, fences, contexts, ops, head⟩
    have order := nodup_mem_iff_count.mp ⟨on, om⟩
    have reply := nodup_mem_iff_count.mp ⟨rn, rm⟩
    have awaited := nodup_mem_iff_count.mp ⟨an, am⟩
    exact ⟨fun m => ⟨order m, reply m, (count_awaitedSlots m s).symm.trans (awaited m), ops m⟩,
      ⟨fences, contexts⟩, head⟩
  · rintro ⟨slots, ⟨fences, contexts⟩, head⟩
    obtain ⟨on, om⟩ := nodup_mem_iff_count.mpr fun m => (slots m).order
    obtain ⟨rn, rm⟩ := nodup_mem_iff_count.mpr fun m => (slots m).reply
    obtain ⟨an, am⟩ := nodup_mem_iff_count.mpr fun m => (count_awaitedSlots m s).trans (slots m).awaited
    exact ⟨on, om, rn, rm, an, am, fences, contexts, fun m => (slots m).op, head⟩

/-! ### What a write changes -/

theorem awaits_congr {s t : State} (hf : ∀ k : FenceId, (t.fences[k]).awaiting = (s.fences[k]).awaiting)
    (hc : ∀ r : ReqId, (t.contexts[r]).quiesce = (s.contexts[r]).quiesce) (m : MgmtId) : awaits m t = awaits m s := by
  simp only [awaits, hf, hc]

/-- One fence slot that is written changes what awaits a slot by itself. -/
theorem awaits_setFence {s t : State} {k : FenceId} {f : Fence} (hf : t.fences = s.fences.set k f)
    (hc : t.contexts = s.contexts) (m : MgmtId) :
    awaits m t + (if (s.fences[k]).awaiting = some m then 1 else 0)
      = awaits m s + if f.awaiting = some m then 1 else 0 := by
  have fence (j : FenceId) : t.fences[j] = if j = k then f else s.fences[j] := by rw [hf, set_getElem]
  have counts := countP_finRange_of_ne (p := fun j : Fin 4 => (s.fences[j]).awaiting == some m)
    (q := fun j : Fin 4 => (if j = k then f else s.fences[j]).awaiting == some m) k
    fun j hj => by simp only [if_neg hj]
  simp only [if_true, beq_iff_eq] at counts
  simp only [awaits, fence, hc]
  omega

/-- One context that is written changes what awaits a slot by itself. -/
theorem awaits_setContext {s t : State} {r : ReqId} {c : Context} (hc : t.contexts = s.contexts.set r c)
    (hf : t.fences = s.fences) (m : MgmtId) :
    awaits m t + (if (s.contexts[r]).quiesce = some m then 1 else 0)
      = awaits m s + if c.quiesce = some m then 1 else 0 := by
  have context (q : ReqId) : t.contexts[q] = if q = r then c else s.contexts[q] := by rw [hc, set_getElem]
  have counts := countP_finRange_of_ne (p := fun q : Fin 16 => (s.contexts[q]).quiesce == some m)
    (q := fun q : Fin 16 => (if q = r then c else s.contexts[q]).quiesce == some m) r
    fun q hq => by simp only [if_neg hq]
  simp only [if_true, beq_iff_eq] at counts
  simp only [awaits, context, hf]
  omega

theorem AwaitsOnly.setFence {s t : State} (h : AwaitsOnly s) {k : FenceId} {f : Fence}
    (hf : t.fences = s.fences.set k f) (hc : t.contexts = s.contexts) (ha : f.state = .free → f.awaiting = none) :
    AwaitsOnly t where
  fences j := by
    rw [hf]
    exact forall_set (P := fun x : Fence => x.state = .free → x.awaiting = none) h.fences ha j
  contexts := by rw [hc]; exact h.contexts

theorem AwaitsOnly.setContext {s t : State} (h : AwaitsOnly s) {r : ReqId} {c : Context}
    (hc : t.contexts = s.contexts.set r c) (hf : t.fences = s.fences)
    (ha : c.state ≠ .draining → c.quiesce = none) : AwaitsOnly t where
  fences := by rw [hf]; exact h.fences
  contexts q := by
    rw [hc]
    exact forall_set (P := fun x : Context => x.state ≠ .draining → x.quiesce = none) h.contexts ha q

/-- A slot that neither is written nor moves stands as it stood. -/
theorem SlotStands.of_same {s t : State} {m : MgmtId} (h : SlotStands s m) (hm : t.mgmt[m] = s.mgmt[m])
    (ho : t.mgmtOrder.count m = s.mgmtOrder.count m) (hr : t.replyOrder.count m = s.replyOrder.count m)
    (ha : awaits m t = awaits m s) : SlotStands t m where
  order := by rw [ho, hm]; exact h.order
  reply := by rw [hr, hm]; exact h.reply
  awaited := by rw [ha, hm]; exact h.awaited
  op := by rw [hm]; exact h.op

theorem count_concat (l : List MgmtId) (m n : MgmtId) : (l ++ [m]).count n = l.count n + if m = n then 1 else 0 := by
  rw [List.count_append, List.count_singleton]
  simp only [beq_iff_eq]

theorem count_head (l : List MgmtId) (m n : MgmtId) : (m :: l).count n = l.count n + if m = n then 1 else 0 := by
  rw [List.count_cons]
  simp only [beq_iff_eq]

/-! ### The law at each duty -/

section Kept

variable {s t : State}

/-- What writes neither slot, context nor order, nor what a fence slot awaits, keeps the law. -/
theorem Managed.of_slots (h : Managed s) (slots : t.slots = s.slots) (fences : SameAwaiting s t) : Managed t := by
  obtain ⟨contexts, mgmt, order, waiting, reply⟩ : t.contexts = s.contexts ∧ t.mgmt = s.mgmt
      ∧ t.mgmtOrder = s.mgmtOrder ∧ t.headWaiting = s.headWaiting ∧ t.replyOrder = s.replyOrder := by
    simpa only [State.slots, Prod.mk.injEq] using slots
  refine ⟨fun m => (h.slots m).of_same (by rw [mgmt]) (by rw [order]) (by rw [reply])
    (awaits_congr (fun k => (fences k).2) (fun r => by rw [contexts]) m), ⟨fun k hk => ?_, ?_⟩, ?_⟩
  · rw [(fences k).1] at hk
    rw [(fences k).2]
    exact h.only.fences k hk
  · rw [contexts]; exact h.only.contexts
  · unfold HeadFences
    rw [waiting, order, mgmt]
    exact h.head

/-- What awaited a slot lets it go, and the slot becomes REPLYING (R71, R120). -/
theorem Managed.release (h : Managed s) {a : Option MgmtId} (hm : t.mgmt = s.mgmt) (ho : t.mgmtOrder = s.mgmtOrder)
    (hw : t.headWaiting = s.headWaiting) (hr : t.replyOrder = s.replyOrder) (only : AwaitsOnly t)
    (ha : ∀ m, awaits m t + (if a = some m then 1 else 0) = awaits m s) : Managed (replyDone a t) := by
  have slot (m : MgmtId) : (replyDone a t).mgmt[m] = if a = some m then
      { s.mgmt[m] with state := .replying, payload := [], reply := [resultWord .done] } else s.mgmt[m] := by
    rw [replyDone_eq, ← hm]
    exact getElem_ofFn _ m
  have order : (replyDone a t).mgmtOrder = s.mgmtOrder := by rw [replyDone_eq]; exact ho
  have replies (m : MgmtId) : (replyDone a t).replyOrder.count m
      = s.replyOrder.count m + if a = some m then 1 else 0 := by
    rw [replyDone_eq, ← hr]
    cases a with
    | none => simp
    | some n => simpa only [Option.toList_some, Option.some.injEq] using count_concat t.replyOrder n m
  have awaited (m : MgmtId) : awaits m (replyDone a t) = awaits m t := by rw [replyDone_eq]; rfl
  refine ⟨fun m => ?_, ⟨?_, ?_⟩, fun waiting => ?_⟩
  · by_cases hn : a = some m
    · have stands := h.slots m
      have running : (s.mgmt[m]).state = .running := by
        have counted := ha m
        rw [if_pos hn, stands.awaited] at counted
        by_contra other
        rw [if_neg other] at counted
        omega
      have before := ha m
      rw [if_pos hn, stands.awaited, if_pos running] at before
      have unqueued := stands.order
      have unreplied := stands.reply
      simp only [running, reduceCtorEq, if_false] at unqueued unreplied
      refine ⟨?_, ?_, ?_, ?_⟩
      · simp only [order, slot, if_pos hn, reduceCtorEq, if_false, unqueued]
      · simp only [replies, slot, if_pos hn, if_true, unreplied]
      · simp only [awaited, slot, if_pos hn, reduceCtorEq, if_false]
        omega
      · simp only [slot, if_pos hn, reduceCtorEq, false_implies]
    · have unchanged := ha m
      rw [if_neg hn] at unchanged
      exact (h.slots m).of_same (by rw [slot, if_neg hn]) (by rw [order]) (by rw [replies, if_neg hn, Nat.add_zero])
        ((awaited m).trans unchanged)
  · rw [replyDone_eq]; exact only.fences
  · rw [replyDone_contexts]; exact only.contexts
  · have waits : s.headWaiting = true := by rw [replyDone_eq] at waiting; exact hw.symm.trans waiting
    obtain ⟨m, first, op⟩ := h.head waits
    refine ⟨m, by rw [order]; exact first, ?_⟩
    rw [slot]
    split <;> exact op

theorem Managed.endFence (h : Managed s) (k : FenceId) : Managed (endFence k s) := by
  rw [endFence_eq]
  have counts (t : State) (hf : t.fences = s.fences.set k {}) (hc : t.contexts = s.contexts) (m : MgmtId) :
      awaits m t + (if (s.fences[k]).awaiting = some m then 1 else 0) = awaits m s := by
    simpa only [reduceCtorEq, if_false, Nat.add_zero] using awaits_setFence hf hc m
  exact h.release rfl rfl rfl rfl (h.only.setFence (k := k) (f := {}) rfl rfl fun _ => rfl) (counts _ rfl rfl)

/-- A context is written that keeps its awaited slot, or lets it go to reply. -/
theorem Managed.setContext (h : Managed s) (r : ReqId) {c : Context} {a : Option MgmtId}
    (hc : c.state ≠ .draining → c.quiesce = none)
    (ha : c.quiesce = (s.contexts[r]).quiesce ∧ a = none ∨ c.quiesce = none ∧ a = (s.contexts[r]).quiesce) :
    Managed (replyDone a { s with contexts := s.contexts.set r c }) := by
  refine h.release rfl rfl rfl rfl (h.only.setContext rfl rfl hc) fun m => ?_
  have counts := awaits_setContext (t := { s with contexts := s.contexts.set r c }) rfl rfl m
  rcases ha with ⟨kept, rfl⟩ | ⟨gone, rfl⟩
  · rw [kept] at counts
    simpa using counts
  · rw [gone] at counts
    simpa using counts

theorem Managed.endDrain (h : Managed s) (r : ReqId) : Managed (endDrain r s) :=
  h.setContext r (fun _ => rfl) (.inr ⟨rfl, rfl⟩)

theorem Managed.lowerOutstanding (h : Managed s) (r : ReqId) : Managed (lowerOutstanding r s) := by
  have none := h.only.contexts r
  rw [lowerOutstanding_lowered]
  refine h.setContext r ?_ ?_
  · unfold Context.lowered
    split
    · exact fun _ => rfl
    · exact none
  · unfold Context.lowered Context.awaitedAtEnd
    split
    · exact .inr ⟨rfl, rfl⟩
    · exact .inl ⟨rfl, rfl⟩

theorem Managed.rewrites (h : Managed s) (r : ReqId) {c : Context} (hc : (s.contexts[r]).Rewrites c) :
    Managed (Machine.setContext r c s) :=
  h.setContext r (a := none) (fun _ => hc.quiesce.trans (h.only.contexts r hc.undrained.1)) (.inl ⟨hc.quiesce, rfl⟩)

/-- The head of the order leaves it, to reply or to be awaited (R152, R155, R156). -/
theorem Managed.leaveOrder (h : Managed s) {m : MgmtId} {rest : List MgmtId} (order : s.mgmtOrder = m :: rest)
    {x : MgmtSlot} (hm : t.mgmt = s.mgmt.set m x) (ho : t.mgmtOrder = rest) (hw : t.headWaiting = false)
    (hx : x.state = .running ∨ x.state = .replying)
    (hr : ∀ n, t.replyOrder.count n = s.replyOrder.count n + if m = n ∧ x.state = .replying then 1 else 0)
    (ha : ∀ n, awaits n t = awaits n s + if m = n ∧ x.state = .running then 1 else 0) (only : AwaitsOnly t) :
    Managed t := by
  refine ⟨fun n => ?_, only, fun waiting => by rw [hw] at waiting; cases waiting⟩
  have counted := count_head rest m n
  rw [← order, ← ho] at counted
  have stands := h.slots n
  by_cases hn : m = n
  · subst hn
    have slot : t.mgmt[m] = x := by rw [hm, set_getElem, if_pos rfl]
    have queued : (s.mgmt[m]).state = .queued := by
      by_contra other
      have absent := stands.order
      rw [if_neg other, counted, if_pos rfl] at absent
      omega
    obtain ⟨ordered, replied, awaited, -⟩ := stands
    have reply := hr m
    have await := ha m
    simp only [queued, reduceCtorEq, if_true, if_false, true_and] at ordered replied awaited counted reply await
    have unqueued : x.state ≠ .queued := by rcases hx with hx | hx <;> rw [hx] <;> decide
    refine ⟨?_, ?_, ?_, fun hq => absurd (slot ▸ hq) unqueued⟩
    · rw [slot, if_neg unqueued]; omega
    · rw [slot, reply, replied, Nat.zero_add]
    · rw [slot, await, awaited, Nat.zero_add]
  · refine stands.of_same (by rw [hm, set_getElem, if_neg (Ne.symm hn)]) ?_ ?_ ?_
    · rw [counted, if_neg hn, Nat.add_zero]
    · rw [hr, if_neg fun both => hn both.1, Nat.add_zero]
    · rw [ha, if_neg fun both => hn both.1, Nat.add_zero]

theorem Managed.complete (h : Managed s) {m : MgmtId} {rest : List MgmtId} (order : s.mgmtOrder = m :: rest)
    (words : List Word) : Managed (completeHead m words s) := by
  rw [completeHead_eq order]
  refine h.leaveOrder order rfl rfl rfl (.inr rfl) (fun n => ?_) (fun n => ?_) ⟨h.only.fences, h.only.contexts⟩
  · simpa only [replied, and_true] using count_concat s.replyOrder m n
  · simp only [reduceCtorEq, and_false, if_false, Nat.add_zero]
    rfl

theorem Managed.fence (h : Managed s) {m : MgmtId} {rest : List MgmtId} (order : s.mgmtOrder = m :: rest)
    {k : FenceId} {f : Fence} (hk : (s.fences[k]).state = .free) (hf : f.state = .waiting) (ha : f.awaiting = some m) :
    Managed (s |> popOrder |> setFence k f |> setMgmt m { s.mgmt[m] with state := .running, payload := [] }) := by
  have free := h.only.fences k hk
  refine h.leaveOrder order rfl (congrArg List.tail order) rfl (.inl rfl) (fun n => ?_) (fun n => ?_)
    (h.only.setFence rfl rfl fun freed => by rw [hf] at freed; cases freed)
  · simp only [reduceCtorEq, and_false, if_false, Nat.add_zero]
    rfl
  · have counts := awaits_setFence (s := s) (k := k) (f := f)
      (t := s |> popOrder |> setFence k f |> setMgmt m { s.mgmt[m] with state := .running, payload := [] }) rfl rfl n
    rw [free, ha] at counts
    simpa only [reduceCtorEq, if_false, Nat.add_zero, Option.some.injEq, and_true] using counts

theorem Managed.drain (h : Managed s) {m : MgmtId} {rest : List MgmtId} (order : s.mgmtOrder = m :: rest) (r : ReqId)
    (live : (s.contexts[r]).state = .active ∨ (s.contexts[r]).state = .stopped) :
    Managed (s |> popOrder
      |> Machine.setContext r { s.contexts[r] with state := .draining, quiesce := some m }
      |> setMgmt m { s.mgmt[m] with state := .running, payload := [] }) := by
  have none := h.only.contexts r (by rcases live with hs | hs <;> rw [hs] <;> decide)
  refine h.leaveOrder order rfl (congrArg List.tail order) rfl (.inl rfl) (fun n => ?_) (fun n => ?_)
    (h.only.setContext rfl rfl fun undrained => absurd rfl undrained)
  · simp only [reduceCtorEq, and_false, if_false, Nat.add_zero]
    rfl
  · have counts := awaits_setContext (s := s) (r := r)
      (c := { s.contexts[r] with state := .draining, quiesce := some m })
      (t := s |> popOrder |> Machine.setContext r { s.contexts[r] with state := .draining, quiesce := some m }
        |> setMgmt m { s.mgmt[m] with state := .running, payload := [] }) rfl rfl n
    rw [none] at counts
    simpa only [reduceCtorEq, if_false, Nat.add_zero, Option.some.injEq, and_true] using counts

/-- A FREE slot is taken at the tail of the order, behind a head that waits (R148). -/
theorem Managed.take (h : Managed s) {m : MgmtId} (free : (s.mgmt[m]).state = .free) (op : MgmtOp) (p : ReqPacket) :
    Managed (takeSlot m op p s) := by
  have slot (n : MgmtId) (hn : n ≠ m) : (takeSlot m op p s).mgmt[n] = s.mgmt[n] := by
    rw [takeSlot, set_getElem, if_neg hn]
  refine ⟨fun n => ?_, ⟨h.only.fences, h.only.contexts⟩, fun waiting => ?_⟩
  · have ordered : (takeSlot m op p s).mgmtOrder.count n = _ := count_concat s.mgmtOrder m n
    by_cases hn : n = m
    · subst hn
      obtain ⟨order, reply, awaited, -⟩ := h.slots n
      simp only [free, reduceCtorEq, if_false, if_true] at order reply awaited ordered
      have taken : (takeSlot n op p s).mgmt[n] = ⟨.queued, headerSource p.h0, headerTag p.h0, some op,
          if requestKind p = .write then p.body else [], []⟩ := by rw [takeSlot, set_getElem, if_pos rfl]
      exact ⟨by rw [ordered, order, taken]; rfl, by rw [taken]; exact reply, by rw [taken]; exact awaited,
        fun _ => by rw [taken]; rfl⟩
    · rw [if_neg (Ne.symm hn), Nat.add_zero] at ordered
      exact (h.slots n).of_same (slot n hn) ordered rfl rfl
  · obtain ⟨n, first, op⟩ := h.head waiting
    have queued : (s.mgmt[n]).state = .queued := by
      by_contra other
      have absent := (h.slots n).order
      rw [if_neg other] at absent
      exact List.count_eq_zero.mp absent (List.mem_of_mem_head? first)
    refine ⟨n, by rw [takeSlot, List.head?_append, first]; rfl, ?_⟩
    rw [slot n (by rintro rfl; rw [free] at queued; cases queued)]
    exact op

/-- The oldest REPLYING slot is sent and becomes FREE (R81, R157). -/
theorem Managed.reply (h : Managed s) {m : MgmtId} {rest : List MgmtId} (order : s.replyOrder = m :: rest) :
    Managed { s with mgmt := s.mgmt.set m {}, replyOrder := rest } := by
  have replying : (s.mgmt[m]).state = .replying := by
    by_contra other
    have absent := (h.slots m).reply
    rw [if_neg other, order] at absent
    exact List.count_eq_zero.mp absent List.mem_cons_self
  refine ⟨fun n => ?_, ⟨h.only.fences, h.only.contexts⟩, fun waiting => ?_⟩
  · have counted := count_head rest m n
    rw [← order] at counted
    by_cases hn : n = m
    · subst hn
      obtain ⟨ordered, reply, awaited, -⟩ := h.slots n
      simp only [replying, reduceCtorEq, if_false, if_true] at ordered reply awaited counted
      have slot : (s.mgmt.set n {})[n] = {} := by rw [set_getElem, if_pos rfl]
      exact ⟨by rw [slot]; exact ordered, by rw [slot]; show rest.count n = 0; omega, by rw [slot]; exact awaited,
        fun hq => by rw [slot] at hq; cases hq⟩
    · rw [if_neg (Ne.symm hn), Nat.add_zero] at counted
      exact (h.slots n).of_same (by rw [set_getElem, if_neg hn]) rfl counted.symm rfl
  · obtain ⟨n, first, op⟩ := h.head waiting
    have queued : (s.mgmt[n]).state = .queued := by
      by_contra other
      have absent := (h.slots n).order
      rw [if_neg other] at absent
      exact List.count_eq_zero.mp absent (List.mem_of_mem_head? first)
    refine ⟨n, first, ?_⟩
    rw [set_getElem, if_neg (by rintro rfl; rw [replying] at queued; cases queued)]
    exact op

end Kept

/-- With every slot FREE and none awaited, the law says nothing more. -/
theorem Managed.of_free {t : State} (hm : ∀ m : MgmtId, t.mgmt[m] = {}) (ho : t.mgmtOrder = [])
    (hw : t.headWaiting = false) (hr : t.replyOrder = []) (hf : ∀ k : FenceId, (t.fences[k]).awaiting = none)
    (hc : ∀ r : ReqId, (t.contexts[r]).quiesce = none) : Managed t where
  slots m := by
    have unawaited : awaits m t = 0 := by simp [awaits, hf, hc, -Fin.getElem_fin]
    exact ⟨by rw [ho, hm]; rfl, by rw [hr, hm]; rfl, by rw [unawaited, hm]; rfl, fun hq => by rw [hm] at hq; cases hq⟩
  only := ⟨fun k _ => hf k, fun r _ => hc r⟩
  head waiting := by rw [hw] at waiting; cases waiting

theorem Managed.loseUpstream (s : State) : Managed (loseUpstream s) := by
  have mgmt : (Machine.loseUpstream s).mgmt = Vector.replicate 8 {} := offerRecord_mgmt ..
  have fences : (Machine.loseUpstream s).fences = Vector.replicate 4 {} := offerRecord_fences ..
  exact .of_free (fun m => by rw [mgmt, getElem_replicate]) (offerRecord_mgmtOrder ..) (offerRecord_headWaiting ..)
    (offerRecord_replyOrder ..) (fun k => by rw [fences, getElem_replicate]) fun r => by rw [loseUpstream_context]

/-- The fences that the loss of the D-port leaves without a mark let their slots go, and then the drains (R78, R127). -/
theorem Managed.loseDown {s : State} (h : Managed s) : Managed (endDrains (endFences s (loseDownstream s))) := by
  have fence (k : FenceId) : (loseDownstream s).fences[k] = _ := loseDownstream_fence s k
  have context (r : ReqId) : (loseDownstream s).contexts[r] = { s.contexts[r] with outstanding := 0 } :=
    getElem_ofFn _ r
  have lost : Managed (loseDownstream s) :=
    ⟨fun m => (h.slots m).of_same rfl rfl rfl (awaits_congr (fun k => by rw [fence]) (fun r => by rw [context]) m),
      ⟨fun k => by rw [fence]; exact h.only.fences k, fun r => by rw [context]; exact h.only.contexts r⟩, h.head⟩
  exact endDrains_keeps (P := Managed) (fun _ r ht => ht.endDrain r)
    (endFences_keeps (P := Managed) (fun _ k ht => ht.endFence k) lost)

theorem Managed.duty {s t : State} (h : Duty s t) (hs : Managed s) : Managed t := by
  cases h with
  | aside h => exact hs.of_slots h.slots h.fences
  | reset aps pending => exact (mgmtLaw_iff.mp (powerOn_management aps)).of_slots rfl fun _ => ⟨rfl, rfl⟩
  | loseUp => exact .loseUpstream s
  | loseDown => exact hs.loseDown
  | context r c h => exact hs.rewrites r h
  | accept i e hi he ha hl =>
    have entered : Managed { s with entries := s.entries.set i e } := hs.of_slots rfl fun _ => ⟨rfl, rfl⟩
    exact entered.setContext e.requester (a := none) (fun undrained => hs.only.contexts _ undrained) (.inl ⟨rfl, rfl⟩)
  | answered i x hi hx =>
    have freed : Managed (setEntry i x s) := hs.of_slots rfl fun _ => ⟨rfl, rfl⟩
    exact freed.lowerOutstanding _
  | endFence k => exact hs.endFence k
  | take m op p free => exact hs.take free op p
  | complete words order => exact hs.complete order words
  | wait order hop => exact ⟨fun m => (hs.slots m).of_same rfl rfl rfl rfl, ⟨hs.only.fences, hs.only.contexts⟩,
      fun _ => ⟨_, by rw [order]; rfl, hop⟩⟩
  | fence k f order hk hf ha => exact hs.fence order hk hf ha
  | drain r order live some => exact hs.drain order r live
  | reply order => exact hs.reply order

/-- Settles O56: a slot moves between FREE, the order, an awaiting fence or drain, and the reply order, always with its
state. -/
theorem managementSlotsKept : Obligations.ManagementSlotsKept := fun _ _ hs h =>
  mgmtLaw_iff.mpr ((step_duties h).keeps (fun _ _ => Managed.duty) (mgmtLaw_iff.mp hs))

end Sys2Proof.Machine
end

section
/-! SUPPORT. The requester commands CONFIGURE, ENABLE, RESUME and QUIESCE at the head of the order (R67 to R70). -/

namespace Sys2Proof.Machine

set_option Elab.async false

theorem exhaustOfCode_eq (c : Nat) :
    exhaustOfCode c = if c = 1 then some .fail else if c = 2 then some .fill else none := by
  unfold exhaustOfCode
  split <;> simp_all

theorem faultPolicyOfCode_eq (c : Nat) :
    faultPolicyOfCode c = if c = 1 then some .continue_ else if c = 2 then some .stop else none := by
  unfold faultPolicyOfCode
  split <;> simp_all

theorem exhaustOfCode_some {c : Nat} {p : ExhaustPolicy} (h : exhaustOfCode c = some p) : c = 1 ∨ c = 2 := by
  rw [exhaustOfCode_eq] at h
  by_contra unnamed
  rw [if_neg (by omega), if_neg (by omega)] at h
  cases h

theorem faultPolicyOfCode_some {c : Nat} {p : FaultPolicy} (h : faultPolicyOfCode c = some p) : c = 1 ∨ c = 2 := by
  rw [faultPolicyOfCode_eq] at h
  by_contra unnamed
  rw [if_neg (by omega), if_neg (by omega)] at h
  cases h

/-- A setting of CONFIGURE_REQUESTER's payload is out of its range (R67). -/
def ConfigureBad (ws : List Word) : Prop :=
  field (payloadWord ws 0) 8 6 = 0 ∨ 32 < field (payloadWord ws 0) 8 6 ∨ field (payloadWord ws 1) 0 16 = 0
    ∨ 15 < field (payloadWord ws 0) 16 5 ∨ 15 < field (payloadWord ws 0) 24 5
    ∨ (field (payloadWord ws 0) 32 2 ≠ 1 ∧ field (payloadWord ws 0) 32 2 ≠ 2)
    ∨ (field (payloadWord ws 0) 36 2 ≠ 1 ∧ field (payloadWord ws 0) 36 2 ≠ 2)

/-- The context with the six settings of CONFIGURE_REQUESTER's payload (R67, R181). -/
def configured (ws : List Word) (c : Context) : Context :=
  { c with
    limit := field (payloadWord ws 0) 8 6, timeout := field (payloadWord ws 1) 0 16
    retryLimit := field (payloadWord ws 0) 16 5, backoffBase := field (payloadWord ws 0) 24 5
    exhaustion := if field (payloadWord ws 0) 32 2 = 1 then .fail else .fill
    faultPolicy := if field (payloadWord ws 0) 36 2 = 1 then .continue_ else .stop }

theorem configuredContext_bad {ws : List Word} (bad : ConfigureBad ws) (c : Context) :
    configuredContext (configureFields ws) c = none := by
  simp only [configuredContext, configureFields]
  unfold ConfigureBad at bad
  split
  next exhaustion policy =>
    have policies := exhaustOfCode_some exhaustion
    have reactions := faultPolicyOfCode_some policy
    exact if_pos (by omega)
  next => rfl

theorem configuredContext_good {ws : List Word} (good : ¬ConfigureBad ws) (c : Context) :
    configuredContext (configureFields ws) c = some (configured ws c) := by
  have exhaustion : exhaustOfCode (field (payloadWord ws 0) 32 2)
      = some (if field (payloadWord ws 0) 32 2 = 1 then .fail else .fill) := by
    rw [exhaustOfCode_eq]
    unfold ConfigureBad at good
    split
    · rfl
    · exact if_pos (by omega)
  have policy : faultPolicyOfCode (field (payloadWord ws 0) 36 2)
      = some (if field (payloadWord ws 0) 36 2 = 1 then .continue_ else .stop) := by
    rw [faultPolicyOfCode_eq]
    unfold ConfigureBad at good
    split
    · rfl
    · exact if_pos (by omega)
  simp only [configuredContext, configureFields, exhaustion, policy]
  unfold ConfigureBad at good
  exact if_neg (by omega)

section AtHead

variable {s : State} {m : MgmtId} {rest : List MgmtId} {ws : List Word}

/-- A command that answers after it wrote one context alone. -/
theorem resultHead_setContext (order : s.mgmtOrder = m :: rest) (r : ReqId) (c : Context) (a : Result) :
    resultHead m a (setContext r c s) = replied m rest [resultWord a] { s with contexts := s.contexts.set r c } :=
  resultHead_eq (t := setContext r c s) order a

theorem runConfigureRequester_out (order : s.mgmtOrder = m :: rest) (out : 16 ≤ field (payloadWord ws 0) 0 5) :
    runConfigureRequester m ws s = replied m rest [resultWord .badArgument] s := by
  have id : asFin 16 (configureFields ws).requester = none := asFin_of_ge out
  simp only [runConfigureRequester, id, resultHead_eq order]

theorem runConfigureRequester_of_id (order : s.mgmtOrder = m :: rest) {r : ReqId}
    (hr : field (payloadWord ws 0) 0 5 = r.val) :
    ((s.contexts[r]).state ≠ .off → runConfigureRequester m ws s = replied m rest [resultWord .badState] s)
      ∧ ((s.contexts[r]).state = .off → ConfigureBad ws →
        runConfigureRequester m ws s = replied m rest [resultWord .badArgument] s)
      ∧ ((s.contexts[r]).state = .off → ¬ConfigureBad ws →
        runConfigureRequester m ws s = replied m rest [resultWord .done]
          { s with contexts := s.contexts.set r (configured ws s.contexts[r]) }) := by
  have id : asFin 16 (configureFields ws).requester = some r := asFin_of_eq hr
  simp only [runConfigureRequester, id, resultHead_eq order]
  refine ⟨fun live => if_pos live, fun off bad => ?_, fun off good => ?_⟩
  · rw [if_neg (not_not.mpr off), configuredContext_bad bad]
  · rw [if_neg (not_not.mpr off), configuredContext_good good]
    exact resultHead_setContext order r _ .done

theorem runActivate_out (source : CtxState) (order : s.mgmtOrder = m :: rest)
    (out : 16 ≤ field (payloadWord ws 0) 0 5) :
    runActivate source m ws s = replied m rest [resultWord .badArgument] s := by
  have id : asFin 16 (indexField ws) = none := asFin_of_ge out
  simp only [runActivate, id, resultHead_eq order]

theorem runActivate_of_id (source : CtxState) (order : s.mgmtOrder = m :: rest) {r : ReqId}
    (hr : field (payloadWord ws 0) 0 5 = r.val) :
    ((s.contexts[r]).state = source → runActivate source m ws s = replied m rest [resultWord .done]
        { s with contexts := s.contexts.set r { s.contexts[r] with state := .active, stopCause := none } })
      ∧ ((s.contexts[r]).state ≠ source → runActivate source m ws s = replied m rest [resultWord .badState] s) := by
  have id : asFin 16 (indexField ws) = some r := asFin_of_eq hr
  simp only [runActivate, id, resultHead_eq order]
  exact ⟨fun at_source => (if_pos at_source).trans (resultHead_setContext order r _ .done),
    fun elsewhere => if_neg elsewhere⟩

theorem runQuiesce_out (order : s.mgmtOrder = m :: rest) (out : 16 ≤ field (payloadWord ws 0) 0 5) :
    runQuiesce m ws s = replied m rest [resultWord .badArgument] s := by
  have id : asFin 16 (indexField ws) = none := asFin_of_ge out
  simp only [runQuiesce, id, resultHead_eq order]

/-- A live context with nothing outstanding is OFF at once (R70). -/
theorem runQuiesce_idle (order : s.mgmtOrder = m :: rest) {r : ReqId} (hr : field (payloadWord ws 0) 0 5 = r.val)
    (live : (s.contexts[r]).state = .active ∨ (s.contexts[r]).state = .stopped)
    (idle : (s.contexts[r]).outstanding = 0) :
    runQuiesce m ws s = replied m rest [resultWord .done]
      { s with contexts := s.contexts.set r { s.contexts[r] with state := .off } } := by
  have id : asFin 16 (indexField ws) = some r := asFin_of_eq hr
  rcases live with state | state <;>
    simp only [runQuiesce, id, state, if_pos idle, resultHead_setContext order]

/-- A live context with a count above 0 drains, and the command leaves the order (R70, R156). -/
theorem runQuiesce_drains (order : s.mgmtOrder = m :: rest) (waits : s.headWaiting = false) {r : ReqId}
    (hr : field (payloadWord ws 0) 0 5 = r.val)
    (live : (s.contexts[r]).state = .active ∨ (s.contexts[r]).state = .stopped)
    (busy : (s.contexts[r]).outstanding ≠ 0) :
    runQuiesce m ws s = { s with
      contexts := s.contexts.set r { s.contexts[r] with state := .draining, quiesce := some m }
      mgmt := s.mgmt.set m { s.mgmt[m] with state := .running, payload := [] }
      mgmtOrder := rest } := by
  have id : asFin 16 (indexField ws) = some r := asFin_of_eq hr
  rcases live with state | state <;>
    simp only [runQuiesce, id, state, if_neg busy, popOrder, order, List.tail_cons, setContext, setMgmt, waits]

end AtHead

/-- Settles O37: each command's checks in their order, then the write to the one context. -/
theorem configureEnableResume : Obligations.ConfigureEnableResume := by
  intro s m rest ws w0 w1 answer became
  refine ⟨?_, fun h => ?_, fun h => ?_⟩
  · intro h limit retry base exhaust policy bad
    have run : exec .configureRequester s = .next (runConfigureRequester m ws s) :=
      congrArg Host.Outcome.next (whenHead_of_head h _)
    rw [run]
    refine ⟨fun out => congrArg _ (runConfigureRequester_out h.1 out), fun r hr => ?_⟩
    obtain ⟨live, refused, passes⟩ := runConfigureRequester_of_id h.1 hr
    exact ⟨fun on => congrArg _ (live on), fun off hb => congrArg _ (refused off hb),
      fun off hg => congrArg _ (passes off hg)⟩
  · have run : exec .enableRequester s = .next (runActivate .off m ws s) :=
      congrArg Host.Outcome.next (whenHead_of_head h _)
    rw [run]
    refine ⟨fun out => congrArg _ (runActivate_out .off h.1 out), fun r hr => ?_⟩
    obtain ⟨enables, refused⟩ := runActivate_of_id .off h.1 hr
    exact ⟨fun off => congrArg _ (enables off), fun on => congrArg _ (refused on)⟩
  · have run : exec .resumeRequester s = .next (runActivate .stopped m ws s) :=
      congrArg Host.Outcome.next (whenHead_of_head h _)
    rw [run]
    refine ⟨fun out => congrArg _ (runActivate_out .stopped h.1 out), fun r hr => ?_⟩
    obtain ⟨resumes, refused⟩ := runActivate_of_id .stopped h.1 hr
    exact ⟨fun stopped => congrArg _ (resumes stopped), fun other => congrArg _ (refused other)⟩

/-- Settles O38: by the state and the count of the context that the command names. -/
theorem quiesceRequester : Obligations.QuiesceRequester := by
  intro s m rest ws h id
  have run : exec .quiesceRequester s = .next (runQuiesce m ws s) :=
    congrArg Host.Outcome.next (whenHead_of_head h _)
  rw [run]
  refine ⟨fun out => congrArg _ (runQuiesce_out h.1 out), fun r hr => ?_⟩
  have named : asFin 16 (indexField ws) = some r := asFin_of_eq hr
  refine ⟨fun off => ?_, fun draining => ?_, fun live idle => congrArg _ (runQuiesce_idle h.1 hr live idle),
    fun live busy => congrArg _ (runQuiesce_drains h.1 h.2.1 hr live busy.ne')⟩
  · simp only [runQuiesce, named, off, resultHead_eq h.1]
  · simp only [runQuiesce, named, draining, resultHead_eq h.1]

end Sys2Proof.Machine
end

section
/-! SUPPORT. The queries at the head of the order (R111, R129, R133, R136, R155, R159 to R161). -/

namespace Sys2Proof.Machine

set_option Elab.async false

/-- A number below 2^32 and a number above it share no bit, so the word that holds both is their sum (R182). -/
theorem packWord_low_high (a : BitVec 32) (c : Nat) :
    packWord [(0, a.toNat), (32, c)] = a.setWidth 64 + (BitVec.ofNat 64 c <<< 32) := by
  have low : BitVec.ofNat 64 a.toNat = a.setWidth 64 := BitVec.eq_of_toNat_eq (by simp)
  have disjoint : a.setWidth 64 &&& (BitVec.ofNat 64 c <<< 32) = 0 := by
    refine BitVec.eq_of_getLsbD_eq fun n _ => ?_
    have above : 32 ≤ n → a.getLsbD n = false := BitVec.getLsbD_of_ge a n
    grind
  rw [BitVec.add_eq_or_of_and_eq_zero _ _ disjoint, ← low]
  simp [packWord]

theorem toList_map_eq_finRange {α β : Type} {n : Nat} (v : Vector α n) (f : α → β) :
    v.toList.map f = (List.finRange n).map fun i => f v[i] :=
  List.ext_getElem (by simp) fun i _ _ => by simp

section AtHead

variable {s : State} {m : MgmtId} {rest : List MgmtId} {ws : List Word}

theorem answerQuery_of_head {op : MgmtOp} (h : HeadHolds s m rest op ws) {words : MgmtOp → Option (List Word)}
    {reply : List Word} (answers : words op = some reply) : answerQuery words s = replied m rest reply s := by
  obtain ⟨order, waits, named, -⟩ := h
  have executes : executable s = some (m, op) := by
    simp only [executable, waits, order, named, Bool.false_eq_true, if_false, Option.map_some]
  simp only [answerQuery, executes, answers, completeHead_eq order]

theorem exec_counters (g : Fin 18) (h : HeadHolds s m rest (.counters g) ws) :
    exec .counters s = .next (replied m rest (groupWords g s) s) :=
  congrArg Host.Outcome.next (answerQuery_of_head h rfl)

theorem groupWords_requester {g : Fin 18} {r : ReqId} (hg : g.val = 2 + r.val) :
    groupWords g s = (List.finRange 4).map fun i => ((s.requesterCtrs[r])[i]).setWidth 64 := by
  have row : g.val - 2 = r.val := by omega
  simp only [groupWords, row]
  rw [if_neg (by omega), if_neg (by omega)]
  exact toList_map_eq_finRange ..

theorem exec_fault (h : HeadHolds s m rest .fault ws) :
    (s.faults = [] → exec .fault s = .next (replied m rest [0, 0, 0, 0] s))
      ∧ ∀ (x : FaultRecord) (xs : List FaultRecord), s.faults = x :: xs →
        exec .fault s = .next (replied m rest (recordWords x) { s with faults := xs }) := by
  have run (t : State) (words : List Word) (order : t.mgmtOrder = m :: rest) :
      completeHead m words t = replied m rest words t := completeHead_eq order words
  refine ⟨fun none => ?_, fun x xs some => ?_⟩
  · refine congrArg Host.Outcome.next ((whenHead_of_head h _).trans ?_)
    simp only [none]
    exact run s noneWords h.1
  · refine congrArg Host.Outcome.next ((whenHead_of_head h _).trans ?_)
    simp only [some]
    exact run { s with faults := xs } (recordWords x) h.1

end AtHead

/-- Settles O42: each query's words at the head. -/
theorem queriesAnswerAtExecution : Obligations.QueriesAnswerAtExecution := by
  intro s m rest ws
  refine ⟨fun i h => ?window, fun r h => ?requester, fun h => ?translation, fun h => ?transaction,
    fun r g hg h => ?requesterGroup, fun h => exec_fault h, fun h => ?time, fun h => ?fences, fun h => ⟨?status, rfl⟩⟩
  case window => exact congrArg Host.Outcome.next (answerQuery_of_head h rfl)
  case requester => exact congrArg Host.Outcome.next (answerQuery_of_head h rfl)
  case translation =>
    rw [exec_counters 0 h, ← toList_map_eq_finRange]
    rfl
  case transaction =>
    rw [exec_counters 1 h, ← toList_map_eq_finRange]
    rfl
  case requesterGroup => rw [exec_counters g h, groupWords_requester hg]
  case time =>
    rw [← packWord_low_high, ← completeHead_eq h.1]
    exact congrArg Host.Outcome.next (whenHead_of_head h _)
  case fences =>
    rw [← completeHead_eq h.1]
    exact congrArg Host.Outcome.next (whenHead_of_head h _)
  case status =>
    rw [← completeHead_eq h.1]
    exact congrArg Host.Outcome.next (whenHead_of_head h _)

end Sys2Proof.Machine
end

section
/-! SUPPORT. The words that the bridge builds, read back field by field (R75, R130, R142, R155, R160, R179, R182). -/

namespace Sys2Proof.Machine

set_option Elab.async false

/-! ### Laid out words, bit for bit -/

/-- A range that no laid out number meets reads 0. -/
theorem LaidOut.field_gap {fs : List (Nat × Nat × Nat)} (laid : LaidOut fs) (lo width : Nat)
    (apart : ∀ f ∈ fs, f.1 + f.2.1 ≤ lo ∨ lo + width ≤ f.1) : Machine.field (laidWord fs) lo width = 0 := by
  refine Nat.eq_of_testBit_eq fun n => ?_
  rw [testBit_field, laidWord, getLsbD_packWord, Nat.zero_testBit, List.any_map]
  by_cases inside : n < width
  · have clear : (fs.any fun f => decide (f.1 ≤ lo + n) && f.2.2.testBit (lo + n - f.1)) = false := by
      refine List.any_eq_false.mpr fun f hf => ?_
      rcases apart f hf with below | above
      · have high : f.2.2 < 2 ^ (lo + n - f.1) :=
          (laid.1 f hf).2.trans_le (Nat.pow_le_pow_right Nat.two_pos (by omega))
        simp [Nat.testBit_lt_two_pow high]
      · have before : ¬f.1 ≤ lo + n := by omega
        simp [before]
    exact Bool.and_eq_false_iff.mpr (.inr (Bool.and_eq_false_iff.mpr (.inr clear)))
  · simp only [inside, decide_false, Bool.false_and]

theorem LaidOut.extract_gap {fs : List (Nat × Nat × Nat)} (laid : LaidOut fs) (lo width : Nat)
    (apart : ∀ f ∈ fs, f.1 + f.2.1 ≤ lo ∨ lo + width ≤ f.1) : (laidWord fs).extractLsb' lo width = 0 :=
  BitVec.eq_of_toNat_eq ((laid.field_gap lo width apart).trans (by simp))

theorem LaidOut.bit_gap {fs : List (Nat × Nat × Nat)} (laid : LaidOut fs) (n : Nat)
    (apart : ∀ f ∈ fs, f.1 + f.2.1 ≤ n ∨ n + 1 ≤ f.1) : (laidWord fs).getLsbD n = false :=
  getLsbD_of_field_flag (laid.field_gap n 1 apart)

/-- A laid out flag is read back as a bit. -/
theorem LaidOut.bit {fs : List (Nat × Nat × Nat)} (laid : LaidOut fs) {lo : Nat} {b : Bool} (n : Nat)
    (at_n : fs[n]? = some (lo, 1, flag b)) : (laidWord fs).getLsbD lo = b :=
  getLsbD_of_field_flag (laid.field n at_n)

/-- A laid out bit vector is read back as one. -/
theorem LaidOut.bits {fs : List (Nat × Nat × Nat)} (laid : LaidOut fs) {lo width : Nat} {v : BitVec width} (n : Nat)
    (at_n : fs[n]? = some (lo, width, v.toNat)) : (laidWord fs).extractLsb' lo width = v :=
  BitVec.eq_of_toNat_eq (laid.field n at_n)

/-- A word that packs one number alone holds it from bit 0. -/
theorem field_packWord_alone {v width : Nat} (room : width ≤ 64) (fits : v < 2 ^ width) :
    field (packWord [(0, v)]) 0 width = v :=
  field_packWord (by omega) fits List.mem_cons_self fun _ hf => .inl (List.mem_singleton.mp hf)

theorem extractLsb'_packWord_alone {width : Nat} (room : width ≤ 64) (v : BitVec width) :
    (packWord [(0, v.toNat)]).extractLsb' 0 width = v :=
  BitVec.eq_of_toNat_eq (field_packWord_alone room v.isLt)

theorem packWord_toNat {n : Nat} (v : BitVec n) : packWord [(0, v.toNat)] = v.setWidth 64 := by
  rw [packWord_zero]
  exact BitVec.eq_of_toNat_eq (by simp)

/-! ### Codes -/

theorem modeOfCode_modeCode (o : Option WinMode) : modeOfCode (modeCode o) = o := by
  rcases o with _ | mode
  · rfl
  · cases mode <;> rfl

theorem rightsOfCode_rightsCode (r : Rights) : rightsOfCode (rightsCode r) = r := by
  obtain ⟨read, write⟩ := r
  cases read <;> cases write <;> rfl

theorem checkModeOfCode_checkModeCode (m : CheckMode) : checkModeOfCode (checkModeCode m) = some m := by
  cases m <;> rfl

theorem exhaustOfCode_exhaustCode (p : ExhaustPolicy) : exhaustOfCode (exhaustCode p) = some p := by
  cases p <;> rfl

theorem faultPolicyOfCode_faultPolicyCode (p : FaultPolicy) : faultPolicyOfCode (faultPolicyCode p) = some p := by
  cases p <;> rfl

theorem modeCode_lt (o : Option WinMode) : modeCode o < 4 := by
  rcases o with _ | mode
  · decide
  · cases mode <;> decide

theorem rightsCode_lt (r : Rights) : rightsCode r < 4 := by
  have read := flag_lt r.read
  have write := flag_lt r.write
  unfold rightsCode
  omega

theorem checkModeCode_lt (m : CheckMode) : checkModeCode m < 4 := by cases m <;> decide

theorem winStateCode_lt (x : WinState) : winStateCode x < 4 := by cases x <;> decide

theorem exhaustCode_lt (p : ExhaustPolicy) : exhaustCode p < 4 := by cases p <;> decide

theorem faultPolicyCode_lt (p : FaultPolicy) : faultPolicyCode p < 4 := by cases p <;> decide

theorem ctxStateCode_lt (x : CtxState) : ctxStateCode x < 4 := by cases x <;> decide

theorem faultKind_code_lt (k : FaultKind) : k.code < 32 := by cases k <;> decide

theorem status_code_lt (st : Status) : st.code < 8 := by cases st <;> decide

/-- An absent value packs as 0, a present one by a number that its width bounds. -/
theorem getD_map_lt {α : Type} (o : Option α) {f : α → Nat} {n : Nat} (hf : ∀ a, f a < n) (hn : 0 < n) :
    (o.map f).getD 0 < n := by
  cases o with
  | none => exact hn
  | some a => exact hf a

theorem getD_map_toNat {n : Nat} (o : Option (BitVec n)) : (o.map BitVec.toNat).getD 0 = (o.getD 0).toNat := by
  cases o <;> simp

/-! ### WINDOW(i) -/

/-- The numbers of word 0 of WINDOW(i), with their widths (R181, R182). -/
def windowNumbers (i : WinId) (x : Window) : List (Nat × Nat × Nat) :=
  [ (0, 5, i.val), (8, 6, x.sizeExp), (16, 2, modeCode x.mode), (20, 2, rightsCode x.rights),
    (24, 2, checkModeCode x.checkMode), (28, 2, winStateCode x.state), (32, 16, x.reqSet.toNat) ]

theorem windowWords_eq (i : WinId) (x : Window) :
    windowWords i x = [laidWord (windowNumbers i x), packWord [(0, x.base.toNat)], packWord [(0, x.mapRoot.toNat)],
      packWord [(0, x.hostBase.toNat)]] := rfl

theorem windowNumbers_laidOut (i : WinId) {x : Window} (h : x.legal) : LaidOut (windowNumbers i x) := by
  obtain ⟨-, -, size, -⟩ := h
  have mode := modeCode_lt x.mode
  have rights := rightsCode_lt x.rights
  have check := checkModeCode_lt x.checkMode
  have state := winStateCode_lt x.state
  have set := x.reqSet.isLt
  refine ⟨?_, by simp [windowNumbers]⟩
  simp only [windowNumbers, List.forall_mem_cons, List.not_mem_nil, false_implies, implies_true, and_true]
  omega

theorem loadFields_windowWords (i : WinId) {x : Window} (h : x.legal) :
    loadFields (windowWords i x) = { index := i.val, sizeExp := x.sizeExp, mode := x.mode, rights := x.rights
                                     checkMode := some x.checkMode, reqSet := x.reqSet, base := x.base
                                     mapRoot := x.mapRoot, hostBase := x.hostBase } := by
  have laid := windowNumbers_laidOut i h
  rw [windowWords_eq, loadFields, LoadFields.mk.injEq]
  exact ⟨laid.field 0 rfl, laid.field 1 rfl, (congrArg modeOfCode (laid.field 2 rfl)).trans (modeOfCode_modeCode _),
    (congrArg rightsOfCode (laid.field 3 rfl)).trans (rightsOfCode_rightsCode _),
    (congrArg checkModeOfCode (laid.field 4 rfl)).trans (checkModeOfCode_checkModeCode _),
    laid.bits 6 rfl, extractLsb'_packWord_alone (by decide) x.base, extractLsb'_packWord_alone (by decide) x.mapRoot,
    extractLsb'_packWord_alone (by decide) x.hostBase⟩

/-! ### REQUESTER(r) -/

/-- The numbers of word 0 of REQUESTER(r), with their widths (R181, R182). -/
def requesterNumbers (r : ReqId) (c : Context) : List (Nat × Nat × Nat) :=
  [ (0, 5, r.val), (8, 6, c.limit), (16, 5, c.retryLimit), (24, 5, c.backoffBase), (32, 2, exhaustCode c.exhaustion),
    (36, 2, faultPolicyCode c.faultPolicy), (40, 2, ctxStateCode c.state), (48, 6, c.outstanding),
    (56, 5, (c.stopCause.map FaultKind.code).getD 0), (62, 1, flag c.quiesce.isSome) ]

theorem requesterWords_eq (r : ReqId) (c : Context) :
    requesterWords r c = [laidWord (requesterNumbers r c), packWord [(0, c.timeout)]] := rfl

theorem requesterNumbers_laidOut (r : ReqId) {c : Context} (h : c.legal) (counted : c.outstanding ≤ 32) :
    LaidOut (requesterNumbers r c) := by
  obtain ⟨-, limit, -, -, retry, base⟩ := h
  have exhaustion := exhaustCode_lt c.exhaustion
  have policy := faultPolicyCode_lt c.faultPolicy
  have state := ctxStateCode_lt c.state
  have cause := getD_map_lt c.stopCause faultKind_code_lt (by decide)
  have quiesce := flag_lt c.quiesce.isSome
  refine ⟨?_, by simp [requesterNumbers]⟩
  simp only [requesterNumbers, List.forall_mem_cons, List.not_mem_nil, false_implies, implies_true, and_true]
  omega

theorem configureFields_requesterWords (r : ReqId) {c : Context} (h : c.legal) (counted : c.outstanding ≤ 32) :
    configureFields (requesterWords r c)
      = { requester := r.val, limit := c.limit, retryLimit := c.retryLimit, backoffBase := c.backoffBase
          exhaustion := some c.exhaustion, faultPolicy := some c.faultPolicy, timeout := c.timeout } := by
  have laid := requesterNumbers_laidOut r h counted
  obtain ⟨-, -, -, timeout, -, -⟩ := h
  rw [requesterWords_eq, configureFields, ConfigureFields.mk.injEq]
  exact ⟨laid.field 0 rfl, laid.field 1 rfl, laid.field 2 rfl, laid.field 3 rfl,
    (congrArg exhaustOfCode (laid.field 4 rfl)).trans (exhaustOfCode_exhaustCode _),
    (congrArg faultPolicyOfCode (laid.field 5 rfl)).trans (faultPolicyOfCode_faultPolicyCode _),
    field_packWord_alone (by decide) (by omega)⟩

/-! ### FAULT -/

/-- The numbers of word 0 of a fault record, with their widths (R182). -/
def recordNumbers (f : FaultRecord) : List (Nat × Nat × Nat) :=
  [ (0, 5, f.kind.code), (8, 6, f.detail), (15, 1, flag f.overflow), (16, 4, (f.requester.map Fin.val).getD 0),
    (24, 7, (f.reqTag.map BitVec.toNat).getD 0), (32, 5, (f.window.map Fin.val).getD 0),
    (40, 1, flag f.requester.isSome), (41, 1, flag f.reqTag.isSome), (42, 1, flag f.window.isSome),
    (43, 1, flag f.dAddr.isSome), (44, 1, flag f.hostAddr.isSome) ]

theorem recordWords_eq (f : FaultRecord) :
    recordWords f = [laidWord (recordNumbers f), packWord [(0, f.tick.toNat)],
      packWord [(0, (f.dAddr.getD 0).toNat)], packWord [(0, (f.hostAddr.getD 0).toNat)]] := by
  rw [recordWords, getD_map_toNat f.dAddr, getD_map_toNat f.hostAddr]
  rfl

theorem recordNumbers_laidOut {f : FaultRecord} (detail : f.detail ≤ 63) : LaidOut (recordNumbers f) := by
  have kind := faultKind_code_lt f.kind
  have overflow := flag_lt f.overflow
  have requester := getD_map_lt f.requester (fun r => r.isLt) (by decide)
  have tag := getD_map_lt f.reqTag (fun x => x.isLt) (by decide)
  have window := getD_map_lt f.window (fun w => w.isLt) (by decide)
  have named := flag_lt f.requester.isSome
  have tagged := flag_lt f.reqTag.isSome
  have placed := flag_lt f.window.isSome
  have addressed := flag_lt f.dAddr.isSome
  have hosted := flag_lt f.hostAddr.isSome
  refine ⟨?_, by simp [recordNumbers]⟩
  simp only [recordNumbers, List.forall_mem_cons, List.not_mem_nil, false_implies, implies_true, and_true]
  omega

/-! ### Headers (R179) -/

/-- The numbers of a request's header word 0, with their widths (R179). -/
def requestNumbers (kind : Kind) (src : Source) (tag : Tag) (len : Nat) : List (Nat × Nat × Nat) :=
  [(0, 1, flag (decide (kind = .write))), (8, 5, src.toNat), (16, 7, tag.toNat), (24, 7, len)]

theorem buildRequest_h0 (kind : Kind) (src : Source) (tag : Tag) (len : Nat) (addr : HAddr) (body : List Word) :
    (buildRequest kind src tag len addr body).h0 = laidWord (requestNumbers kind src tag len) := by
  cases kind <;> rfl

theorem requestNumbers_laidOut (kind : Kind) (src : Source) (tag : Tag) {len : Nat} (hl : len ≤ 127) :
    LaidOut (requestNumbers kind src tag len) := by
  have write := flag_lt (decide (kind = .write))
  have source := src.isLt
  have tagged := tag.isLt
  refine ⟨?_, by simp [requestNumbers]⟩
  simp only [requestNumbers, List.forall_mem_cons, List.not_mem_nil, false_implies, implies_true, and_true]
  omega

/-- The numbers of a completion's header word 0, with their widths (R166, R179). -/
def completionNumbers (src : Source) (tag : Tag) (st : Status) (body : List Word) : List (Nat × Nat × Nat) :=
  [(1, 1, flag true), (8, 5, src.toNat), (16, 7, tag.toNat), (24, 7, body.length), (32, 3, st.code)]

theorem buildCompletion_h0 (src : Source) (tag : Tag) (st : Status) (body : List Word) :
    (buildCompletion src tag st body).h0 = laidWord (completionNumbers src tag st body) := rfl

theorem completionNumbers_laidOut (src : Source) (tag : Tag) (st : Status) {body : List Word}
    (hl : body.length ≤ 127) : LaidOut (completionNumbers src tag st body) := by
  have source := src.isLt
  have tagged := tag.isLt
  have status := status_code_lt st
  have cpl := flag_lt true
  refine ⟨?_, by simp [completionNumbers]⟩
  simp only [completionNumbers, List.forall_mem_cons, List.not_mem_nil, false_implies, implies_true, and_true]
  omega

end Sys2Proof.Machine
end

section
/-! SUPPORT. What the bridge builds reads back field by field (O46). -/

namespace Sys2Proof.Machine

set_option Elab.async false

/-! ### The result word (R155) -/

/-- The code of a result (R155). -/
def resultCode : Result → BitVec 8
  | .done => 0
  | .badState => 1
  | .badArgument => 2
  | .overlap _ => 3

/-- The detail of a result: the window that the load overlaps (R155). -/
def resultDetail : Result → Nat
  | .overlap w => w.val
  | .done | .badState | .badArgument => 0

/-- The numbers of the result word, with their widths (R182). -/
def resultNumbers (res : Result) : List (Nat × Nat × Nat) :=
  [(0, 8, (resultCode res).toNat), (8, 8, resultDetail res)]

theorem resultWord_eq (res : Result) : resultWord res = laidWord (resultNumbers res) := by
  cases res <;> rfl

theorem resultNumbers_laidOut (res : Result) : LaidOut (resultNumbers res) := by
  have detail : resultDetail res < 24 := by
    cases res with
    | overlap w => exact w.isLt
    | _ => decide
  have code := (resultCode res).isLt
  refine ⟨?_, by simp [resultNumbers]⟩
  simp only [resultNumbers, List.forall_mem_cons, List.not_mem_nil, false_implies, implies_true, and_true]
  omega

/-! ### The alert payload (R142) -/

/-- The numbers of word 0 of the alert payload, with their widths (R182). -/
def alertNumbers (depth lost : Nat) : List (Nat × Nat × Nat) :=
  [(0, 5, depth), (8, 8, lost)]

theorem alertWords_eq (depth lost : Nat) (now : Tick) :
    alertWords depth lost now = [laidWord (alertNumbers depth lost), now.setWidth 64] := by
  rw [alertWords, packWord_toNat]
  rfl

theorem alertNumbers_laidOut {depth lost : Nat} (hd : depth ≤ 16) (hl : lost ≤ 255) :
    LaidOut (alertNumbers depth lost) := by
  refine ⟨?_, by simp [alertNumbers]⟩
  simp only [alertNumbers, List.forall_mem_cons, List.not_mem_nil, false_implies, implies_true, and_true]
  omega

/-! ### The header of any packet (R179) -/

/-- A bit of an address field is that bit of word 1. -/
theorem getLsbD_extractLsb'_zero (w : Word) {width : Nat} (n : Fin width) :
    (w.extractLsb' 0 width).getLsbD n.val = w.getLsbD n.val := by
  simp

/-- Settles O46: the numbers of each format are laid out without overlap and stay within their widths, so each is read
back at its place and what lies between them is 0. -/
theorem replyReadsBack : Obligations.ReplyReadsBack := by
  intro i x r c f res depth lost now kind src tag len addr body st q
  refine ⟨fun legal => ?window, fun legal counted => ?requester, fun detail => ?record, ?result,
    fun hd hl => ?alert, fun hl => ?request, fun hl => ?completion, ?header⟩
  case window => exact ⟨loadFields_windowWords i legal, (windowNumbers_laidOut i legal).field 5 rfl⟩
  case requester =>
    have laid := requesterNumbers_laidOut r legal counted
    exact ⟨configureFields_requesterWords r legal counted, laid.field 6 rfl, laid.field 7 rfl, laid.field 8 rfl,
      laid.bit 9 rfl⟩
  case record =>
    have laid := recordNumbers_laidOut detail
    rw [recordWords_eq]
    exact ⟨laid.field 0 rfl, laid.field 1 rfl, laid.bit 2 rfl, laid.field 3 rfl, laid.field 4 rfl, laid.field 5 rfl,
      laid.bit 6 rfl, laid.bit 7 rfl, laid.bit 8 rfl, laid.bit 9 rfl, laid.bit 10 rfl,
      extractLsb'_packWord_alone (by decide) f.tick, extractLsb'_packWord_alone (by decide) (f.dAddr.getD 0),
      extractLsb'_packWord_alone (by decide) (f.hostAddr.getD 0)⟩
  case result =>
    have laid := resultNumbers_laidOut res
    rw [resultWord_eq]
    exact ⟨laid.bits 0 rfl, laid.field 1 rfl, laid.extract_gap 16 48 (by simp [resultNumbers])⟩
  case alert =>
    have laid := alertNumbers_laidOut hd hl
    exact ⟨_, _, alertWords_eq depth lost now, laid.field 0 rfl, laid.field 1 rfl,
      laid.extract_gap 5 3 (by simp [alertNumbers]), laid.extract_gap 16 48 (by simp [alertNumbers]), rfl⟩
  case request =>
    have laid := requestNumbers_laidOut kind src tag hl
    simp only [buildRequest_h0]
    exact ⟨laid.bit 0 rfl, laid.bit_gap 1 (by simp [requestNumbers]), laid.bits 1 rfl, laid.bits 2 rfl,
      laid.field 3 rfl, packWord_toNat addr, rfl, laid.extract_gap 2 6 (by simp [requestNumbers]),
      laid.extract_gap 13 3 (by simp [requestNumbers]), laid.extract_gap 23 1 (by simp [requestNumbers]),
      laid.extract_gap 31 33 (by simp [requestNumbers])⟩
  case completion =>
    have laid := completionNumbers_laidOut src tag st hl
    simp only [buildCompletion_h0]
    exact ⟨laid.bit_gap 0 (by simp [completionNumbers]), laid.bit 0 rfl, laid.bits 1 rfl, laid.bits 2 rfl,
      laid.field 3 rfl, laid.field 4 rfl, rfl, laid.extract_gap 2 6 (by simp [completionNumbers]),
      laid.extract_gap 13 3 (by simp [completionNumbers]), laid.extract_gap 23 1 (by simp [completionNumbers]),
      laid.extract_gap 31 1 (by simp [completionNumbers]), laid.extract_gap 35 29 (by simp [completionNumbers])⟩
  case header =>
    have inField (lo : Nat) {width : Nat} (n : Fin width) :
        (q.h0.extractLsb' lo width).getLsbD n.val = q.h0.getLsbD (lo + n.val) := by
      simp
    refine ⟨by simp [requestKind], inField 8, fun n => ⟨inField 16 n, inField 24 n⟩, field_lt .., field_lt ..,
      inField 32, getLsbD_extractLsb'_zero q.h1, fun n => ?_⟩
    have inside : n.val < 50 := by omega
    simp [requestDAddr, requestAddress, inside]

end Sys2Proof.Machine
end
